-- ==== Sys2Proof/Word.lean ====
section
/-! DEFINITION. The word types of the GT-48: bytes and sequence numbers as the layouts of chapter 11
size them, and the numbers of the stations, links and banks. -/

namespace Sys2Proof

/-- One byte of a frame or a burst. -/
abbrev Byte := BitVec 8

/-- A record sequence number, which wraps from 65,535 to 0 (R1). -/
abbrev Seq := BitVec 16

/-- A station sample counter value, 40 bits unsigned (chapter 11, Encoding). -/
abbrev Counter40 := BitVec 40

/-- A station number, 0 to 47. -/
abbrev StationId := Fin 48

/-- A link number, 0 to 5. -/
abbrev LinkId := Fin 6

/-- A set of stations: station s is bit s (chapter 11, Encoding). -/
abbrev StationSet := BitVec 48

end Sys2Proof
end

