-- ==== Sys2Proof/Syntax.lean ====
section
/-! DEFINITION. The commands of the GT-48: the requests of the message ports with their bodies as the
layouts of chapter 11 carry them, and one constructor of `Instr` per row of the opcode table. -/

namespace Sys2Proof

/-- The two message ports. -/
inductive PortId where
  | mp0
  | mp1
  deriving DecidableEq, Repr

/-- The two reference inputs. -/
inductive RefId where
  | refA
  | refB
  deriving DecidableEq, Repr

/-- The three control-mask switches of LINK_CONFIG as carried. -/
structure MaskFields where
  burstFail : Byte
  linkDown : Byte
  linkUp : Byte
  deriving DecidableEq, Repr

/-- The parameters a LINK_CONFIG body may carry. `reserved` is bits 7 to 5 of its presence byte. -/
structure LinkFields where
  reserved : BitVec 3
  seed : Option (BitVec 16)
  noActivity : Option Byte
  carrierLoss : Option Byte
  asymmetry : Option (BitVec 32)
  mask : Option MaskFields
  deriving DecidableEq, Repr

/-- The settings a STATION_CONFIG body may carry, in presence-bit order. -/
structure SettingFields where
  source : Option Byte
  depth : Option Byte
  acqShift : Option Byte
  trackShift : Option Byte
  accept : Option (BitVec 32)
  outlierLimit : Option Byte
  tearTolerance : Option (BitVec 32)
  holdTime : Option Byte
  backfill : Option Byte
  attempts : Option Byte
  responseTimeout : Option Byte
  probeInterval : Option (BitVec 16)
  maxRtt : Option (BitVec 16)
  silence : Option (BitVec 16)
  holdover : Option (BitVec 16)
  calibration : Option (BitVec 32)
  deriving DecidableEq, Repr

/-- The eight switches of NOTICE_MASK in notice-set bit order. -/
structure KindSwitches where
  epoch : Byte
  station : Byte
  gap : Byte
  link : Byte
  reference : Byte
  store : Byte
  fault : Byte
  probe : Byte
  deriving DecidableEq, Repr

/-- A request whose kind and body length have passed the tests of R182, with the fields of its body as
carried. `reserved` is bits 7 to 1 of the presence byte of GRID_SET and REF_CONFIG (R194). -/
inductive Request where
  | partInfo (clear : Option Byte)
  | partReset
  | gridSet (e o : Byte) (reserved : BitVec 7) (l : Option (BitVec 16))
  | gridGet
  | timebaseStatus (clear : Option Byte)
  | refConfig (target switch : Byte) (reserved : BitVec 7) (value : Option (BitVec 32))
  | refSelect (selection : Byte)
  | linkConfig (link enable : Byte) (fields : LinkFields)
  | linkStatus (link : Byte) (clear : Option Byte)
  | linkReset (link : Byte)
  | stationBind (station link address rate components : Byte)
  | stationEnable (station : Byte)
  | stationDisable (station : Byte)
  | stationConfig (station : Byte) (fields : SettingFields)
  | stationStatus (station : Byte)
  | stationStats (station : Byte) (clear : Option Byte)
  | calSet (station : Byte) (value : BitVec 32)
  | calReserve (station : Byte)
  | calStage (station : Byte) (value : BitVec 32)
  | calApply (station : Byte)
  | probeNow (station : Byte)
  | epochList (clear : Option Byte)
  | epochSummary (epoch : BitVec 64)
  | contribFetch (epoch : BitVec 64) (station : Byte) (position : BitVec 16)
  | epochRelease (epoch : BitVec 64)
  | subscribe (switch : Byte)
  | noticeMask (switches : KindSwitches)
  | noticePoll
  | faultRead
  | faultClear
  deriving DecidableEq, Repr

/-- The commands, one constructor per row of the opcode table, in the table's order.
`dt` is the ns of the part's oscillator that passed since the command before (log 1). A request row says
that a whole good frame carrying that request with tag `tag` completes at port `p` (log 4). `bytes` are
the bytes that arrived on the line named since the last command that named it. -/
inductive Instr where
  | powerOnReset (role1 : Bool)
  | frameComplete (dt : Nat) (p : PortId) (bytes : List Byte)
  | frameByteTimeout (dt : Nat) (p : PortId)
  | replySent (dt : Nat) (p : PortId)
  | noticeSent (dt : Nat) (p : PortId)
  | partInfo (dt : Nat) (p : PortId) (tag : BitVec 16) (clear : Option Byte)
  | partReset (dt : Nat) (p : PortId) (tag : BitVec 16)
  | gridSet (dt : Nat) (p : PortId) (tag : BitVec 16) (e o : Byte) (reserved : BitVec 7)
      (l : Option (BitVec 16))
  | gridGet (dt : Nat) (p : PortId) (tag : BitVec 16)
  | timebaseStatus (dt : Nat) (p : PortId) (tag : BitVec 16) (clear : Option Byte)
  | refConfigReference (dt : Nat) (p : PortId) (tag : BitVec 16) (r : RefId) (switch : Byte)
      (reserved : BitVec 7) (depth : Option (BitVec 32))
  | refConfigHub (dt : Nat) (p : PortId) (tag : BitVec 16) (switch : Byte)
      (reserved : BitVec 7) (limit : Option (BitVec 32))
  | refSelect (dt : Nat) (p : PortId) (tag : BitVec 16) (selection : Byte)
  | linkConfig (dt : Nat) (p : PortId) (tag : BitVec 16) (link enable : Byte) (fields : LinkFields)
  | linkStatus (dt : Nat) (p : PortId) (tag : BitVec 16) (link : Byte) (clear : Option Byte)
  | linkReset (dt : Nat) (p : PortId) (tag : BitVec 16) (link : Byte)
  | stationBind (dt : Nat) (p : PortId) (tag : BitVec 16)
      (station link address rate components : Byte)
  | stationEnable (dt : Nat) (p : PortId) (tag : BitVec 16) (station : Byte)
  | stationDisable (dt : Nat) (p : PortId) (tag : BitVec 16) (station : Byte)
  | stationConfig (dt : Nat) (p : PortId) (tag : BitVec 16) (station : Byte)
      (fields : SettingFields)
  | stationStatus (dt : Nat) (p : PortId) (tag : BitVec 16) (station : Byte)
  | stationStats (dt : Nat) (p : PortId) (tag : BitVec 16) (station : Byte) (clear : Option Byte)
  | calSet (dt : Nat) (p : PortId) (tag : BitVec 16) (station : Byte) (value : BitVec 32)
  | calReserve (dt : Nat) (p : PortId) (tag : BitVec 16) (station : Byte)
  | calStage (dt : Nat) (p : PortId) (tag : BitVec 16) (station : Byte) (value : BitVec 32)
  | calApply (dt : Nat) (p : PortId) (tag : BitVec 16) (station : Byte)
  | probeNow (dt : Nat) (p : PortId) (tag : BitVec 16) (station : Byte)
  | epochList (dt : Nat) (p : PortId) (tag : BitVec 16) (clear : Option Byte)
  | epochSummary (dt : Nat) (p : PortId) (tag : BitVec 16) (epoch : BitVec 64)
  | contribFetch (dt : Nat) (p : PortId) (tag : BitVec 16) (epoch : BitVec 64) (station : Byte)
      (position : BitVec 16)
  | epochRelease (dt : Nat) (p : PortId) (tag : BitVec 16) (epoch : BitVec 64)
  | subscribe (dt : Nat) (p : PortId) (tag : BitVec 16) (switch : Byte)
  | noticeMask (dt : Nat) (p : PortId) (tag : BitVec 16) (switches : KindSwitches)
  | noticePoll (dt : Nat) (p : PortId) (tag : BitVec 16)
  | faultRead (dt : Nat) (p : PortId) (tag : BitVec 16)
  | faultClear (dt : Nat) (p : PortId) (tag : BitVec 16)
  | refMessage (dt : Nat) (r : RefId) (intact locked : Bool) (second : Nat)
  | refPulse (dt : Nat) (r : RefId)
  | pulseWindowExpiry (dt : Nat) (r : RefId)
  | epochDeadline (dt : Nat)
  | burstOpen (dt : Nat) (l : LinkId) (bytes : List Byte)
  | burstClose (dt : Nat) (l : LinkId) (bytes : List Byte)
  | burstByteLimit (dt : Nat) (l : LinkId) (bytes : List Byte)
  | carrierFall (dt : Nat) (l : LinkId) (bytes : List Byte)
  | carrierRise (dt : Nat) (l : LinkId)
  | carrierLossTimeout (dt : Nat) (l : LinkId)
  | noActivityTimeout (dt : Nat) (l : LinkId)
  | headData (dt : Nat) (l : LinkId)
  | headMark (dt : Nat) (l : LinkId)
  | headEcho (dt : Nat) (l : LinkId)
  | headFillEnd (dt : Nat) (l : LinkId)
  | headRestart (dt : Nat) (l : LinkId)
  | headDamaged (dt : Nat) (l : LinkId)
  | headBurstFail (dt : Nat) (l : LinkId)
  | headLinkUp (dt : Nat) (l : LinkId)
  | headLinkDown (dt : Nat) (l : LinkId)
  | outboundFrameDone (dt : Nat) (l : LinkId)
  | backfillGrant (dt : Nat) (l : LinkId)
  | probeGrant (dt : Nat) (l : LinkId)
  | backfillResponseTimeout (dt : Nat) (l : LinkId)
  | probeExpiry (dt : Nat) (l : LinkId)
  | holdTimerExpiry (dt : Nat) (i : StationId)
  | probeDue (dt : Nat) (i : StationId)
  | silenceTimerExpiry (dt : Nat) (i : StationId)
  | holdoverTimerExpiry (dt : Nat) (i : StationId)
  | waitingListServe (dt : Nat)
  | frameLengthOverLimit (dt : Nat) (p : PortId) (bytes : List Byte)
  | resetInputAsserted (dt : Nat)
  deriving DecidableEq, Repr

end Sys2Proof
end

