-- ==== Sys2Proof/Decode.lean ====
section
/-! DEFINITION. The decoder of table words. No row of the opcode table gives a bit (each row's list of fields
is empty), so no word spells a command (log 5). The frames of chapter 11 that carry requests are decoded in
Sys2Proof/Machine/Operands.lean. -/

namespace Sys2Proof

/-- The command that a word of the table's bits spells: none, for the table gives no bits. -/
def decodeTableWord (_nbits _w : Nat) : Option Instr := none

end Sys2Proof
end

