-- ==== Sys2Proof/Machine/Types.lean ====
section
/-! DEFINITION. The plain data that State is made of, block by block. Nothing here computes. -/

namespace Sys2Proof.Machine

/-! ## Network Time Base (R5 to R24) -/

/-- Hub states (R6). -/
inductive HubState where
  | unset
  | referenced
  | holdover
  deriving DecidableEq, Repr

/-- Reference states (R9 to R13). A reference is enabled when its state is not `off` (R13, log 28). -/
inductive RefState where
  | off
  | absent
  | stabilizing
  | usable
  | fault
  deriving DecidableEq, Repr

/-- One reference input. `stages` has bit 0 for stage 4 up to bit 4 for stage 64. -/
structure Reference where
  state : RefState
  run : Nat
  stages : BitVec 5
  depth : Nat
  pendingSecond : Option Nat
  lastGood : Option Nat
  /-- oscillator time in ns of the last pulse taken (R9) -/
  lastPulse : Nat
  /-- the pulse window: the part time at which it runs out -/
  window : Option Nat
  goodPulses : Nat
  badPulses : Nat
  missedPulses : Nat
  faults : Nat
  badMessages : Nat
  deriving DecidableEq, Repr

/-- The epoch grid: length, offset and latency allowance in seconds (R20). -/
structure Grid where
  e : Nat
  o : Nat
  l : Nat
  deriving DecidableEq, Repr

/-- The timebase unit. `oscNs` counts the ns of the part's oscillator since the last part reset; part time
is its whole milliseconds (R5). -/
structure Timebase where
  oscNs : Nat
  hubTime : Int
  hubState : HubState
  lastStep : Int
  largeSteps : Nat
  selection : Option RefId
  autoSelect : Bool
  stepLimit : Nat
  grid : Option Grid
  refA : Reference
  refB : Reference
  deriving DecidableEq, Repr

/-! ## Station Telemetry Links (R25 to R47) -/

/-- Link states. A link is enabled when its state is not `off` (R25, R26, log 28). -/
inductive LinkState where
  | off
  | down
  | up
  | silent
  deriving DecidableEq, Repr

/-- The two causes of a failed burst (R31). -/
inductive FailCause where
  | check
  | length
  deriving DecidableEq, Repr

/-- The four causes of backfill damage (R38). -/
inductive DamageCause where
  | check
  | length
  | overrun
  | format
  deriving DecidableEq, Repr

/-- The faults of a DAMAGED entry (R34). -/
inductive EntryFault where
  | kind
  | empty
  | components
  | size
  | phase
  | status
  deriving DecidableEq, Repr

/-- The causes of a LINK_DOWN entry (R28, R29, R45). -/
inductive DownCause where
  | silent
  | carrier
  | reset
  deriving DecidableEq, Repr

/-- The statuses of a FILL_END (R30). -/
inductive FillStatus where
  | complete
  | partly
  | refused
  deriving DecidableEq, Repr

/-- The fields of one DATA entry (R30): one record as it arrives. -/
structure Record where
  station : StationId
  seq : Seq
  kFirst : Counter40
  n : Nat
  components : Nat
  payload : List Byte
  deriving DecidableEq, Repr

/-- A hub-time stamp with the hub state that stood with it (R30, R43). -/
structure Stamp where
  time : Int
  hub : HubState
  deriving DecidableEq, Repr

/-- One entry of an inbound queue: station entries tagged with their station (R33), and control entries. -/
inductive Entry where
  | data (record : Record)
  | mark (station : StationId) (km : Counter40) (p s : BitVec 32) (locked : Bool)
  | echo (station : StationId) (kr : Counter40) (tau : BitVec 32) (ts ta : Stamp) (requested : Bool)
  | fillEnd (station : StationId) (identifier : Byte) (status : FillStatus)
  | restart (station : StationId)
  | damaged (station : StationId) (kind : Byte) (fault : EntryFault)
  | burstFail (address : Option Byte)
  | linkUp
  | linkDown (cause : DownCause)
  deriving DecidableEq, Repr

/-- The burst now arriving (R30, R197): its stamp, the seed held when it began, the bytes received with
stuffing, and its unstuffed content so far. -/
structure Burst where
  stamp : Stamp
  seed : BitVec 16
  received : Nat
  escaped : Bool
  badEscape : Bool
  content : List Byte
  deriving DecidableEq, Repr

/-- The backfill request in flight (R38 to R42). -/
structure BackfillSlot where
  identifier : Byte
  station : StationId
  first : Seq
  last : Seq
  damage : Option DamageCause
  due : Nat
  deriving DecidableEq, Repr

/-- The probe in flight (R43, R44). -/
structure ProbeSlot where
  identifier : Byte
  station : StationId
  ts : Stamp
  sentAt : Nat
  expiry : Nat
  requested : Bool
  deriving DecidableEq, Repr

/-- A frame on a link's outbound line: what it is and its bytes with delimiters (R39, R198). -/
structure OutFrame where
  probe : Bool
  bytes : List Byte
  deriving DecidableEq, Repr

/-- The link counters, in the order of the table of R46. -/
structure LinkCounters where
  goodBursts : Nat
  checkFailures : Nat
  unboundBursts : Nat
  damagedEntries : Nat
  queueOverruns : Nat
  controlLost : Nat
  disabledEntries : Nat
  staleFillEnds : Nat
  responseTimeouts : Nat
  backfillSent : Nat
  probesSent : Nat
  staleEchoes : Nat
  probeExpiries : Nat
  deriving DecidableEq, Repr

/-- One link port. -/
structure Link where
  state : LinkState
  seed : BitVec 16
  noActivity : Nat
  carrierLoss : Nat
  asymmetry : Int
  maskBurstFail : Bool
  maskLinkDown : Bool
  maskLinkUp : Bool
  burst : Option Burst
  queue : List Entry
  blocked : Bool
  noActivityDue : Option Nat
  carrierDue : Option Nat
  backfill : Option BackfillSlot
  probe : Option ProbeSlot
  outbound : Option OutFrame
  nextRequest : Byte
  nextProbe : Byte
  grants : BitVec 64
  counters : LinkCounters
  lastFailure : Option FailCause
  deriving DecidableEq, Repr

/-! ## The Station Table (R48 to R65) -/

/-- The five sample rates. -/
inductive Rate where
  | r20
  | r40
  | r50
  | r100
  | r200
  deriving DecidableEq, Repr

/-- A station's binding (R49). -/
structure Binding where
  link : LinkId
  address : Byte
  rate : Rate
  components : Nat
  deriving DecidableEq, Repr

/-- The two mark sources. -/
inductive MarkSource where
  | sat
  | probe
  deriving DecidableEq, Repr

/-- The sixteen settings of the configuration table (R55), `calibration` being C. -/
structure StationConfig where
  source : MarkSource
  depth : Nat
  acqShift : Nat
  trackShift : Nat
  accept : Nat
  outlierLimit : Nat
  tearTolerance : Nat
  holdTime : Nat
  backfill : Bool
  attempts : Nat
  responseTimeout : Nat
  probeInterval : Nat
  maxRtt : Nat
  silence : Nat
  holdover : Nat
  calibration : Int
  deriving DecidableEq, Repr

/-- The station counters, in the order of the table of R63. -/
structure StationCounters where
  inSequence : Nat
  held : Nat
  fills : Nat
  duplicates : Nat
  gapsDeclared : Nat
  gapsFilled : Nat
  gapsAbandoned : Nat
  backfillSent : Nat
  untimed : Nat
  beyondSpan : Nat
  tears : Nat
  discontinuities : Nat
  noGrid : Nat
  outOfRange : Nat
  future : Nat
  tooLate : Nat
  lateContributions : Nat
  poolExhausted : Nat
  marksAccepted : Nat
  outliers : Nat
  staleMarks : Nat
  clockSteps : Nat
  unlockedMarks : Nat
  ignoredMarks : Nat
  invalidEchoes : Nat
  slowEchoes : Nat
  unreferencedEchoes : Nat
  deriving DecidableEq, Repr

/-! ## Sequence Tracking and Gap Recovery (R66 to R87) -/

/-- A held record: its record slot and its sequence number (R70). -/
structure Held where
  slot : Nat
  seq : Seq
  deriving DecidableEq, Repr

/-- A gap record (R66). It is REQUESTED while it has a request identifier and OPEN otherwise. -/
structure Gap where
  first : Seq
  last : Seq
  attempts : Nat
  request : Option Byte
  damaged : Bool
  deriving DecidableEq, Repr

/-- A station's tracking state (R66). `q` none is "before the first record". -/
structure Tracker where
  q : Option Seq
  hold : List Held
  holdDue : Option Nat
  gaps : List Gap
  covered : Option Int
  deriving DecidableEq, Repr

/-- How a backfill request ended (R81). -/
inductive Ending where
  | complete
  | partly
  | refused
  | timeout
  | linkLost
  deriving DecidableEq, Repr

/-! ## Time marks, clock models, record timing (R88 to R143) -/

/-- A station's probe state (R88). `schedule` none is inactive. -/
structure MarkUnit where
  due : Bool
  requested : Bool
  schedule : Option Nat
  lastSent : Option Nat
  lastRtt : Option Int
  deriving DecidableEq, Repr

/-- Clock states (R105). -/
inductive ClockState where
  | unset
  | acquiring
  | locked
  | holdover
  | free
  deriving DecidableEq, Repr

/-- The anchor of a clock model (R105). -/
structure Anchor where
  k0 : Counter40
  t0 : Int
  deriving DecidableEq, Repr

/-- A station's clock model (R105). `stages` has bit 0 for stage 1 up to bit 6 for stage 64. -/
structure Clock where
  state : ClockState
  anchor : Option Anchor
  rho : Int
  count : Nat
  stages : BitVec 7
  outliers : Nat
  residual : Option Int
  silenceDue : Option Nat
  holdoverDue : Option Nat
  deriving DecidableEq, Repr

/-- A valid expectation (R127). -/
structure Expectation where
  kx : Nat
  tx : Int
  deriving DecidableEq, Repr

/-- Record qualities (R137). -/
inductive Quality where
  | qualified
  | holdover
  | unqualified
  deriving DecidableEq, Repr

/-- Path flags (R138); `continuity` is the flag none. -/
inductive PathFlag where
  | continuity
  | broke
  | tear
  | fill
  deriving DecidableEq, Repr

/-- The four fields a timed record keeps (R138). -/
structure Timing where
  start : Int
  rho : Int
  quality : Quality
  path : PathFlag
  deriving DecidableEq, Repr

/-- One station slot with the state the other blocks hold for the station. -/
structure Station where
  binding : Option Binding
  enabled : Bool
  config : StationConfig
  counters : StationCounters
  backfillStamp : Option (BitVec 64)
  probeStamp : Option (BitVec 64)
  tracker : Tracker
  clock : Clock
  expectation : Option Expectation
  mark : MarkUnit
  deriving DecidableEq, Repr

/-- A valid entry of the calibration reservation table (R59). -/
structure Reservation where
  port : PortId
  station : StationId
  staged : Option Int
  deriving DecidableEq, Repr

/-! ## Epoch Assembly and Record Store (R144 to R178) -/

/-- A set of ports. -/
structure PortSet where
  mp0 : Bool
  mp1 : Bool
  deriving DecidableEq, Repr

/-- A contribution (R145). `stop` is its end, R145's "record start plus D(i0 + count)", computed at entry
(the model's own field, log 12). -/
structure Contribution where
  station : StationId
  slot : Nat
  i0 : Nat
  count : Nat
  offset : Int
  start : Int
  n : Nat
  rho : Int
  quality : Quality
  fill : Bool
  tear : Bool
  broke : Bool
  late : Bool
  overlap : Bool
  stop : Int
  deriving DecidableEq, Repr

/-- Epoch states with the close cause (R144). -/
inductive EpochState where
  | forming
  | closedComplete
  | closedDeadline
  deriving DecidableEq, Repr

/-- An epoch record (R144). The present set is the stations that have a contribution. -/
structure Epoch where
  number : Nat
  state : EpochState
  amended : Bool
  late : Nat
  expected : StationSet
  needed : PortSet
  released : PortSet
  contributions : List Contribution
  deriving DecidableEq, Repr

/-- The epoch assembler (R144). -/
structure Assembler where
  table : List Epoch
  freedMark : Option Nat
  created : Nat
  closedComplete : Nat
  closedDeadline : Nat
  evictions : Nat
  freed : Nat
  deriving DecidableEq, Repr

/-- A record slot that is not FREE (R167): HELD while `refs` is 0 and PLACED otherwise. -/
structure Slot where
  number : Nat
  record : Record
  timing : Option Timing
  refs : Nat
  deriving DecidableEq, Repr

/-- The record store (R167 to R178). Slots not listed are FREE; the list is in rising slot number. -/
structure Store where
  slots : List Slot
  poolFree : Nat
  waiting : List LinkId
  headBlocks : Nat
  forcedFrees : Nat
  poolShortages : Nat
  peakSlots : Nat
  peakEntries : Nat
  deriving DecidableEq, Repr

/-! ## Message Ports (R179 to R193) -/

/-- Port roles (R188). -/
inductive Role where
  | control
  | observe
  deriving DecidableEq, Repr

/-- A port's receiver (R180). `sawSync` says that the byte before was 0xA5; `due` is the part time at which
100 ms have passed without a byte. -/
inductive Receiver where
  | hunting (sawSync : Bool)
  | inside (bytes : List Byte) (due : Nat)
  deriving DecidableEq, Repr

/-- A whole request frame in an input buffer (R181). -/
structure Frame where
  kind : Byte
  tag : BitVec 16
  body : List Byte
  deriving DecidableEq, Repr

/-- What a port's outbound line is doing (R184). -/
inductive Line where
  | free
  | reply
  | notice (set : BitVec 8) (partTime : Nat)
  deriving DecidableEq, Repr

/-- One message port (R179), with its forced-free count (R175). -/
structure Port where
  role : Role
  receiver : Receiver
  buffer : List Frame
  reply : Option Frame
  line : Line
  notices : BitVec 8
  mask : BitVec 8
  subscribed : Bool
  accepted : Nat
  badFrames : Nat
  lostRequests : Nat
  repliesSent : Nat
  noticesSent : Nat
  forcedFrees : Nat
  deriving DecidableEq, Repr

/-- The fault record (R189): port, request kind, station as carried or none. -/
structure FaultRecord where
  port : PortId
  kind : Byte
  station : Option Byte
  deriving DecidableEq, Repr

end Sys2Proof.Machine
end

