-- ==== Sys2Proof/Machine/Arith.lean ====
section
/-! DEFINITION. The arithmetic conventions of chapter 0: rounding, clamping, serial comparison, counters,
periods and durations, all in exact integers (R2). -/

namespace Sys2Proof.Machine

/-- The limit of a 32-bit event counter (R4). -/
def counterMax : Nat := 4294967295

/-- One more on a saturating 32-bit counter (R4). -/
def bump (n : Nat) : Nat := min (n + 1) counterMax

/-- `k` more on a saturating 32-bit counter (R4). -/
def bumpBy (n k : Nat) : Nat := if k = 0 then n else min (n + k) counterMax

/-- N / M rounded half away from zero, for M > 0 (R2, Rounding). -/
def roundDiv (n : Int) (m : Nat) : Int :=
  let q : Nat := (2 * n.natAbs + m) / (2 * m)
  if n < 0 then -(q : Int) else (q : Int)

/-- Clamping to the nearer end of a range (R3). -/
def clampNat (lo hi n : Nat) : Nat := max lo (min hi n)

/-- Clamping of a signed setting (R3). -/
def clampInt (lo hi n : Int) : Int := max lo (min hi n)

/-- How many steps a seq lies after another, modulo 65,536 (R1). -/
def stepsAfter (q a : Seq) : Nat := (a - q).toNat

/-- "a is after q" (R1). -/
def isAfter (q a : Seq) : Bool := decide (1 ≤ stepsAfter q a) && decide (stepsAfter q a ≤ 32767)

/-- The ns of a second. -/
def nsPerSecond : Nat := 1000000000

/-- The nominal sample period P in ns (chapter 0). -/
def Rate.period : Rate → Nat
  | .r20 => 50000000
  | .r40 => 25000000
  | .r50 => 20000000
  | .r100 => 10000000
  | .r200 => 5000000

/-- The sample rate in samples a second. -/
def Rate.hz : Rate → Nat
  | .r20 => 20
  | .r40 => 40
  | .r50 => 50
  | .r100 => 100
  | .r200 => 200

/-- The duration D(i) of i samples at rate correction ρ (R130). -/
def duration (period : Nat) (rho : Int) (i : Nat) : Int :=
  (i : Int) * period + roundDiv ((i : Int) * period * rho) nsPerSecond

/-- The span limit of a model (R106). -/
def spanLimit : Int := 2147483647

/-- The signed difference of two counter values, without wrap (chapter 0). -/
def counterDiff (k k0 : Counter40) : Int := (k.toNat : Int) - (k0.toNat : Int)

/-- The model time T(K) for Δ = K − K0 (R106). -/
def modelTime (period : Nat) (t0 rho delta : Int) : Int :=
  t0 + delta * period + roundDiv (delta * period * rho) nsPerSecond

/-- The range of network time, signed 64 bits (chapter 0, R129). -/
def inNetworkTime (t : Int) : Bool :=
  decide (-9223372036854775808 ≤ t) && decide (t ≤ 9223372036854775807)

/-- Es of epoch n on a grid, in ns (R144). -/
def Grid.epochStart (g : Grid) (n : Nat) : Int := ((g.o : Int) + n * g.e) * nsPerSecond

/-- Ee of epoch n on a grid, in ns (R144). -/
def Grid.epochEnd (g : Grid) (n : Nat) : Int := g.epochStart n + (g.e : Int) * nsPerSecond

/-- The deadline of epoch n as a hub time (R22). -/
def Grid.deadline (g : Grid) (n : Nat) : Int := g.epochEnd n + (g.l : Int) * nsPerSecond

/-- The number of the epoch that holds network time t: floor((t − O s) / (E s)) (R22, R146). -/
def Grid.epochAt (g : Grid) (t : Int) : Int :=
  (t - (g.o : Int) * nsPerSecond) / ((g.e : Int) * nsPerSecond)

/-- The smallest i up to n with start + D(i) at or above `t`, or n when there is none below n, searching
`fuel` indices from `i` (R147). -/
def firstIndexFrom (period : Nat) (rho start t : Int) : (fuel i : Nat) → Nat
  | 0, i => i
  | fuel + 1, i =>
    if t ≤ start + duration period rho i then i
    else firstIndexFrom period rho start t fuel (i + 1)

/-- The index of the first sample of a record at or after network time t, n when it has none (R147). -/
def firstIndex (period : Nat) (rho start : Int) (n : Nat) (t : Int) : Nat :=
  firstIndexFrom period rho start t n 0

end Sys2Proof.Machine
end

