-- ==== Sys2Proof/Config.lean ====
section
/-! DEFINITION. What one part or one board fixes and the spec leaves open. The constants have no body:
nothing can evaluate them, so a statement about them holds whatever they are. -/

namespace Sys2Proof

/-- The part revision number that PART_INFO reports (R193; no value is given, log 7). -/
opaque Config.revision : Byte

/-- The level of the ROLE1 strap when the reset input was released before the first command: high makes
MP1 a control port (R188, log 6). -/
opaque Config.role1Strap : Bool

/-- The staged value that STATION_STATUS sends for a reservation of a station with nothing staged, at a moment of the
oscillator: chapter 3 calls the value meaningful when staged, and no rule gives the bytes sent otherwise (R64, R196;
DESIGN CHOICE, log 41). -/
opaque Config.unstagedValue : (station : Nat) → (oscNs : Nat) → BitVec 32

end Sys2Proof
end

