-- ==== Sys2Proof/Machine/Initial.lean ====
section
/-! DEFINITION. The reset values of each block, as its chapter gives them. -/

namespace Sys2Proof.Machine

/-- A reference after reset (R24). The time of the last pulse taken is not given: 0 (DESIGN CHOICE, log 9). -/
def Reference.initial : Reference :=
  { state := .off, run := 0, stages := 0, depth := 16, pendingSecond := none, lastGood := none,
    lastPulse := 0, window := none, goodPulses := 0, badPulses := 0, missedPulses := 0, faults := 0,
    badMessages := 0 }

/-- The timebase after reset (R24). -/
def Timebase.initial : Timebase :=
  { oscNs := 0, hubTime := 0, hubState := .unset, lastStep := 0, largeSteps := 0, selection := none,
    autoSelect := true, stepLimit := 10000, grid := none, refA := Reference.initial,
    refB := Reference.initial }

/-- All link counters 0. -/
def LinkCounters.zero : LinkCounters :=
  { goodBursts := 0, checkFailures := 0, unboundBursts := 0, damagedEntries := 0, queueOverruns := 0,
    controlLost := 0, disabledEntries := 0, staleFillEnds := 0, responseTimeouts := 0,
    backfillSent := 0, probesSent := 0, staleEchoes := 0, probeExpiries := 0 }

/-- A link port after reset (R25, R47). -/
def Link.initial : Link :=
  { state := .off, seed := 0x1F3C, noActivity := 30, carrierLoss := 40, asymmetry := 0,
    maskBurstFail := true, maskLinkDown := true, maskLinkUp := false, burst := none, queue := [],
    blocked := false, noActivityDue := none, carrierDue := none, backfill := none, probe := none,
    outbound := none, nextRequest := 1, nextProbe := 1, grants := 0, counters := LinkCounters.zero,
    lastFailure := none }

/-- The reset values of the configuration table (chapter 3). -/
def StationConfig.initial : StationConfig :=
  { source := .sat, depth := 8, acqShift := 0, trackShift := 3, accept := 20000, outlierLimit := 3,
    tearTolerance := 50000, holdTime := 5, backfill := true, attempts := 2, responseTimeout := 20,
    probeInterval := 0, maxRtt := 250, silence := 300, holdover := 240, calibration := 0 }

/-- All station counters 0 (R63). -/
def StationCounters.zero : StationCounters :=
  { inSequence := 0, held := 0, fills := 0, duplicates := 0, gapsDeclared := 0, gapsFilled := 0,
    gapsAbandoned := 0, backfillSent := 0, untimed := 0, beyondSpan := 0, tears := 0,
    discontinuities := 0, noGrid := 0, outOfRange := 0, future := 0, tooLate := 0,
    lateContributions := 0, poolExhausted := 0, marksAccepted := 0, outliers := 0, staleMarks := 0,
    clockSteps := 0, unlockedMarks := 0, ignoredMarks := 0, invalidEchoes := 0, slowEchoes := 0,
    unreferencedEchoes := 0 }

/-- Tracking "before the first record" (R66). -/
def Tracker.initial : Tracker :=
  { q := none, hold := [], holdDue := none, gaps := [], covered := none }

/-- An UNSET clock (R105, R124). -/
def Clock.initial : Clock :=
  { state := .unset, anchor := none, rho := 0, count := 0, stages := 0, outliers := 0,
    residual := none, silenceDue := none, holdoverDue := none }

/-- The mark unit's state of a station after reset (R88). -/
def MarkUnit.initial : MarkUnit :=
  { due := false, requested := false, schedule := none, lastSent := none, lastRtt := none }

/-- A station after reset (R65, R66, R88, R105, R127). -/
def Station.initial : Station :=
  { binding := none, enabled := false, config := StationConfig.initial,
    counters := StationCounters.zero, backfillStamp := none, probeStamp := none,
    tracker := Tracker.initial, clock := Clock.initial, expectation := none,
    mark := MarkUnit.initial }

/-- The empty set of ports. -/
def PortSet.none : PortSet := { mp0 := false, mp1 := false }

/-- The assembler after reset (R144). -/
def Assembler.initial : Assembler :=
  { table := [], freedMark := Option.none, created := 0, closedComplete := 0, closedDeadline := 0,
    evictions := 0, freed := 0 }

/-- The contribution pool holds 16,384 entries (R172). -/
def poolSize : Nat := 16384

/-- The record store after reset (R167). -/
def Store.initial : Store :=
  { slots := [], poolFree := poolSize, waiting := [], headBlocks := 0, forcedFrees := 0,
    poolShortages := 0, peakSlots := 0, peakEntries := 0 }

/-- A message port of the given role after reset (R179). -/
def Port.initial (role : Role) : Port :=
  { role := role, receiver := .hunting false, buffer := [], reply := none, line := .free,
    notices := 0, mask := 0xFF, subscribed := false, accepted := 0, badFrames := 0,
    lostRequests := 0, repliesSent := 0, noticesSent := 0, forcedFrees := 0 }

end Sys2Proof.Machine
end

