-- ==== Sys2Proof/Machine/State.lean ====
section
/-! DEFINITION. The state of the GT-48: everything the spec gives the part, and the queue of commands that
wait. Plain data, with `State.reset` the part right after reset. -/

namespace Sys2Proof.Machine

/-- The part. `held` says that the reset input is held low (R192). `pending` is the model's own queue of
commands, first in, first out. -/
structure State where
  timebase : Timebase
  links : Vector Link 6
  stations : Vector Station 48
  reservations : Vector (Option Reservation) 4
  assembler : Assembler
  store : Store
  mp0 : Port
  mp1 : Port
  faultRecord : Option FaultRecord
  faultCount : Nat
  held : Bool
  pending : List Instr
  deriving DecidableEq, Repr

/-- No command of this part ends in a fault: what goes wrong is counted, answered, recorded or raised as
a notice, all of which are effects on `State`. The type has no constructor, so nothing raises one; safe. -/
inductive Fault where
  deriving DecidableEq, Repr

/-- Why a command has no meaning. -/
inductive Refusal where
  /-- Raised by `exec` alone, for a command that has no meaning yet; safe. Every row has its meaning, so no
  arm raises it. -/
  | notModelled (mnemonic : String)
  deriving DecidableEq, Repr

/-- The part at its power-on values, with MP1's role from the level of ROLE1 (R24, R47, R65, R66, R88, R105,
R127, R144, R167, R179, R188). -/
def State.powerOn (role1 : Bool) : State :=
  { timebase := Timebase.initial
    links := Vector.replicate 6 Link.initial
    stations := Vector.replicate 48 Station.initial
    reservations := Vector.replicate 4 none
    assembler := Assembler.initial
    store := Store.initial
    mp0 := Port.initial .control
    mp1 := Port.initial (if role1 then .control else .observe)
    faultRecord := none
    faultCount := 0
    held := false
    pending := [] }

/-- The part right after power-on reset; the level of ROLE1 is the board's (log 6). -/
def State.reset : State := State.powerOn Config.role1Strap

end Sys2Proof.Machine
end

