-- ==== Sys2Proof/Machine/Ops.lean ====
section
/-! DEFINITION. The named operations over State: reading and writing each part of it, time, the end of an
event, and the record slots. -/

namespace Sys2Proof.Machine

/-! ## Reading and writing the parts of State -/

/-- The station numbered i. -/
def State.station (s : State) (i : StationId) : Station := s.stations[i]

/-- Puts a station's whole slot. -/
def State.setStation (s : State) (i : StationId) (x : Station) : State :=
  { s with stations := s.stations.set i x }

/-- Changes one station. -/
def State.modStation (s : State) (i : StationId) (f : Station → Station) : State :=
  s.setStation i (f (s.station i))

/-- Changes one station's counters. -/
def State.count (s : State) (i : StationId) (f : StationCounters → StationCounters) : State :=
  s.modStation i fun x => { x with counters := f x.counters }

/-- Changes one station's tracking state. -/
def State.modTracker (s : State) (i : StationId) (f : Tracker → Tracker) : State :=
  s.modStation i fun x => { x with tracker := f x.tracker }

/-- The link numbered l. -/
def State.link (s : State) (l : LinkId) : Link := s.links[l]

/-- Puts a link port. -/
def State.setLink (s : State) (l : LinkId) (x : Link) : State :=
  { s with links := s.links.set l x }

/-- Changes one link port. -/
def State.modLink (s : State) (l : LinkId) (f : Link → Link) : State :=
  s.setLink l (f (s.link l))

/-- Changes one link's counters. -/
def State.countLink (s : State) (l : LinkId) (f : LinkCounters → LinkCounters) : State :=
  s.modLink l fun x => { x with counters := f x.counters }

/-- The message port named. -/
def State.port (s : State) : PortId → Port
  | .mp0 => s.mp0
  | .mp1 => s.mp1

/-- Changes one message port. -/
def State.modPort (s : State) (p : PortId) (f : Port → Port) : State :=
  match p with
  | .mp0 => { s with mp0 := f s.mp0 }
  | .mp1 => { s with mp1 := f s.mp1 }

/-- Changes the timebase unit. -/
def State.modTimebase (s : State) (f : Timebase → Timebase) : State :=
  { s with timebase := f s.timebase }

/-- Changes the epoch assembler. -/
def State.modAssembler (s : State) (f : Assembler → Assembler) : State :=
  { s with assembler := f s.assembler }

/-- Changes the record store. -/
def State.modStore (s : State) (f : Store → Store) : State :=
  { s with store := f s.store }

/-- The reference named. -/
def Timebase.ref (t : Timebase) : RefId → Reference
  | .refA => t.refA
  | .refB => t.refB

/-- Puts a reference. -/
def Timebase.setRef (t : Timebase) (r : RefId) (x : Reference) : Timebase :=
  match r with
  | .refA => { t with refA := x }
  | .refB => { t with refB := x }

/-- The other reference. -/
def otherRef : RefId → RefId
  | .refA => .refB
  | .refB => .refA

/-- The reservation bank of a station: its number modulo 4 (R59). -/
def bankOf (i : StationId) : Fin 4 := ⟨i.val % 4, Nat.mod_lt _ (by decide)⟩

/-- The reservation entry of a station's bank. -/
def State.reservation (s : State) (i : StationId) : Option Reservation := s.reservations[bankOf i]

/-- Writes the reservation entry of a station's bank. -/
def State.setReservation (s : State) (i : StationId) (x : Option Reservation) : State :=
  { s with reservations := s.reservations.set (bankOf i) x }

/-- Invalidates the entry that names a station (R62). -/
def State.invalidateReservation (s : State) (i : StationId) : State :=
  match s.reservation i with
  | some x => if x.station = i then s.setReservation i none else s
  | none => s

/-- The station numbers in ascending order. -/
def allStations : List StationId := List.finRange 48

/-- The link numbers in ascending order. -/
def allLinks : List LinkId := List.finRange 6

/-- The stations whose binding names link l (R156). -/
def State.boundTo (s : State) (l : LinkId) (i : StationId) : Bool :=
  match (s.station i).binding with
  | some b => decide (b.link = l)
  | none => false

/-- The enabled station bound to link l and address a, if there is one (R33, R51). -/
def State.lookup (s : State) (l : LinkId) (a : Byte) : Option StationId :=
  allStations.find? fun i =>
    (s.station i).enabled &&
      match (s.station i).binding with
      | some b => decide (b.link = l) && decide (b.address = a)
      | none => false

/-- The nominal period of a station's sample rate; an enabled station is always bound (R50), and 0 stands
where there is no binding (log 33). -/
def Station.period (x : Station) : Nat :=
  match x.binding with
  | some b => b.rate.period
  | none => 0

/-- The component count of a station's binding. -/
def Station.components (x : Station) : Nat :=
  match x.binding with
  | some b => b.components
  | none => 0

/-! ## Time -/

/-- Part time: the whole ms of the oscillator since the last part reset (R5). -/
def State.partTime (s : State) : Nat := s.timebase.oscNs / 1000000

/-- The passing of `dt` ns of the part's oscillator: part time goes on, and hub time with it outside UNSET
(R5, R6). -/
def State.advance (s : State) (dt : Nat) : State :=
  s.modTimebase fun t =>
    { t with
      oscNs := t.oscNs + dt
      hubTime := match t.hubState with
        | .unset => t.hubTime
        | .referenced => t.hubTime + dt
        | .holdover => t.hubTime + dt }

/-- Whether a timeout has run out: it is started, and part time has reached its due value (R5). -/
def State.isDue (s : State) (due : Option Nat) : Bool :=
  match due with
  | some d => decide (d ≤ s.partTime)
  | none => false

/-- Hub time and hub state as they stand (R7). -/
def State.stamp (s : State) : Stamp := { time := s.timebase.hubTime, hub := s.timebase.hubState }

/-- The hub epoch, which exists while the grid is set and the hub is not UNSET (R22). -/
def State.hubEpoch (s : State) : Option Int :=
  match s.timebase.grid with
  | some g => if s.timebase.hubState = .unset then none else some (g.epochAt s.timebase.hubTime)
  | none => none

/-! ## Record slots and the contribution pool -/

/-- The number of record slots (R167). -/
def slotCount : Nat := 4096

/-- The number of HELD plus PLACED slots. -/
def State.slotsInUse (s : State) : Nat := s.store.slots.length

/-- The number of FREE slots (R167). -/
def State.slotsFree (s : State) : Nat := slotCount - s.slotsInUse

/-- The lowest slot number at or above k that a rising list of slots does not hold. -/
def lowestFree : (k : Nat) → List Slot → Nat
  | k, [] => k
  | k, x :: xs => if x.number = k then lowestFree (k + 1) xs else k

/-- Puts a slot into a rising list of slots. -/
def insertSlot (x : Slot) : List Slot → List Slot
  | [] => [x]
  | y :: ys => if x.number < y.number then x :: y :: ys else y :: insertSlot x ys

/-- The slot numbered k, when it is not FREE. -/
def State.slot? (s : State) (k : Nat) : Option Slot :=
  s.store.slots.find? fun x => decide (x.number = k)

/-- Takes the lowest-numbered FREE slot for a record (R168). -/
def State.takeSlot (s : State) (r : Record) : Nat × State :=
  let k := lowestFree 0 s.store.slots
  (k, s.modStore fun t =>
    { t with slots := insertSlot { number := k, record := r, timing := none, refs := 0 } t.slots })

/-- Returns a slot to FREE (R170). -/
def State.freeSlot (s : State) (k : Nat) : State :=
  s.modStore fun t => { t with slots := t.slots.filter fun x => decide (x.number ≠ k) }

/-- Returns each slot of a list to FREE. -/
def State.freeSlots (s : State) (ks : List Nat) : State := ks.foldl State.freeSlot s

/-- Changes the slot numbered k. -/
def State.modSlot (s : State) (k : Nat) (f : Slot → Slot) : State :=
  s.modStore fun t => { t with slots := t.slots.map fun x => if x.number = k then f x else x }

/-- One reference to slot k the less; at none the slot is FREE (R171). -/
def dropReference (k : Nat) : List Slot → List Slot
  | [] => []
  | x :: xs =>
    if x.number = k then
      if x.refs ≤ 1 then xs else { x with refs := x.refs - 1 } :: xs
    else x :: dropReference k xs

/-- The number of pool entries in use (R172). -/
def State.entriesInUse (s : State) : Nat := poolSize - s.store.poolFree

/-! ## The outbound lines and the end of an event -/

/-- What a free outbound line chooses to send: the pending reply, else a NOTICE with the whole set (R184). -/
def Port.choose (partTime : Nat) (p : Port) : Port :=
  match p.line with
  | .free =>
    if p.reply.isSome then { p with line := .reply }
    else if p.notices ≠ 0 then { p with line := .notice p.notices partTime, notices := 0 }
    else p
  | .reply => p
  | .notice _ _ => p

/-- The end of an event: the peaks of R178 are brought up to date and each free line chooses (R184, log 14). -/
def State.endEvent (s : State) : State :=
  { s with
    store := { s.store with
      peakSlots := max s.store.peakSlots s.slotsInUse
      peakEntries := max s.store.peakEntries s.entriesInUse }
    mp0 := s.mp0.choose s.partTime
    mp1 := s.mp1.choose s.partTime }

/-- One whole event: `dt` ns pass, the body takes effect, and the event ends. While the reset input is held
low the part is stopped and nothing happens (R192, log 8). -/
def State.event (s : State) (dt : Nat) (body : State → State) :
    Host.Outcome State Fault Refusal :=
  if s.held then .next s else .next (body (s.advance dt)).endEvent

end Sys2Proof.Machine
end

