-- ==== Sys2Proof/Machine/Flags.lean ====
section
/-! DEFINITION. The notice kinds and sets (R185), the stages of a reference and of a ladder (R11, R120), and
the codes of the enumerations as chapter 11 gives them. -/

namespace Sys2Proof.Machine

/-- The eight notice kinds. -/
inductive NoticeKind where
  | epoch
  | station
  | gap
  | link
  | reference
  | store
  | fault
  | probe
  deriving DecidableEq, Repr

/-- The bit of a kind in a notice set (chapter 11, Encoding). -/
def NoticeKind.bit : NoticeKind → BitVec 8
  | .epoch => 0x01
  | .station => 0x02
  | .gap => 0x04
  | .link => 0x08
  | .reference => 0x10
  | .store => 0x20
  | .fault => 0x40
  | .probe => 0x80

/-- A kind raised at one port enters its set when its mask passes it (R185). -/
def Port.raise (p : Port) (k : NoticeKind) : Port :=
  { p with notices := p.notices ||| (k.bit &&& p.mask) }

/-- A block raises a notice kind (R185). -/
def State.raise (s : State) (k : NoticeKind) : State :=
  { s with mp0 := s.mp0.raise k, mp1 := s.mp1.raise k }

/-- Raises a kind when a condition holds. -/
def State.raiseIf (s : State) (b : Bool) (k : NoticeKind) : State := if b then s.raise k else s

/-- The stage bit that a reference's run count equals, none otherwise (R11). -/
def runStage : Nat → BitVec 5
  | 4 => 0x01
  | 8 => 0x02
  | 16 => 0x04
  | 32 => 0x08
  | 64 => 0x10
  | _ => 0

/-- The stage bit that a ladder count equals, none otherwise (R120). -/
def ladderStage : Nat → BitVec 7
  | 1 => 0x01
  | 2 => 0x02
  | 4 => 0x04
  | 8 => 0x08
  | 16 => 0x10
  | 32 => 0x20
  | 64 => 0x40
  | _ => 0

/-- The set of one station. -/
def stationBit (i : StationId) : StationSet := (1 : StationSet) <<< i.val

/-- Whether a set holds a station. -/
def inSet (x : StationSet) (i : StationId) : Bool := x.getLsbD i.val

/-- The set of the stations that satisfy a test. -/
def setOf (f : StationId → Bool) : StationSet :=
  allStations.foldl (fun x i => if f i then x ||| stationBit i else x) 0

/-- Whether a set of ports holds a port. -/
def PortSet.has (x : PortSet) : PortId → Bool
  | .mp0 => x.mp0
  | .mp1 => x.mp1

/-- A set of ports with one port added. -/
def PortSet.add (x : PortSet) : PortId → PortSet
  | .mp0 => { x with mp0 := true }
  | .mp1 => { x with mp1 := true }

/-- A set of ports with one port removed. -/
def PortSet.remove (x : PortSet) : PortId → PortSet
  | .mp0 => { x with mp0 := false }
  | .mp1 => { x with mp1 := false }

/-- Whether every port of the first set is in the second. -/
def PortSet.within (x y : PortSet) : Bool := (!x.mp0 || y.mp0) && (!x.mp1 || y.mp1)

/-- A set of ports as a byte (chapter 11, Encoding). -/
def PortSet.byte (x : PortSet) : Byte :=
  (if x.mp0 then 1 else 0) ||| (if x.mp1 then 2 else 0)

/-- An ON/OFF switch or presence byte. -/
def boolByte (b : Bool) : Byte := if b then 1 else 0

/-- Hub state codes (chapter 11). -/
def HubState.code : HubState → Byte
  | .unset => 0
  | .referenced => 1
  | .holdover => 2

/-- Reference state codes (chapter 11). -/
def RefState.code : RefState → Byte
  | .off => 0
  | .absent => 1
  | .stabilizing => 2
  | .usable => 3
  | .fault => 4

/-- Selection codes (chapter 11). -/
def selectionCode : Option RefId → Byte
  | none => 0
  | some .refA => 1
  | some .refB => 2

/-- Link state codes (chapter 11). -/
def LinkState.code : LinkState → Byte
  | .off => 0
  | .down => 1
  | .up => 2
  | .silent => 3

/-- Codes of a damage cause, 0 for none (chapter 11). -/
def damageCode : Option DamageCause → Byte
  | none => 0
  | some .check => 1
  | some .length => 2
  | some .overrun => 3
  | some .format => 4

/-- Codes of a burst failure, 0 for none (chapter 11). -/
def failureCode : Option FailCause → Byte
  | none => 0
  | some .check => 1
  | some .length => 2

/-- Mark source codes (chapter 11). -/
def MarkSource.code : MarkSource → Byte
  | .sat => 0
  | .probe => 1

/-- Clock state codes (chapter 11). -/
def ClockState.code : ClockState → Byte
  | .unset => 0
  | .acquiring => 1
  | .locked => 2
  | .holdover => 3
  | .free => 4

/-- Quality codes (chapter 11). -/
def Quality.code : Quality → Byte
  | .qualified => 1
  | .holdover => 2
  | .unqualified => 3

/-- Path flag codes (chapter 11). -/
def PathFlag.code : PathFlag → Byte
  | .continuity => 0
  | .broke => 1
  | .tear => 2
  | .fill => 3

/-- A contribution's flags as a byte (chapter 11). -/
def Contribution.flags (c : Contribution) : Byte :=
  (if c.fill then 1 else 0) ||| (if c.tear then 2 else 0) ||| (if c.broke then 4 else 0) |||
    (if c.late then 8 else 0) ||| (if c.overlap then 16 else 0)

/-- Epoch state codes (chapter 11). -/
def EpochState.code : EpochState → Byte
  | .forming => 0
  | .closedComplete => 1
  | .closedDeadline => 1

/-- Close cause codes (chapter 11). -/
def EpochState.cause : EpochState → Byte
  | .forming => 0
  | .closedComplete => 1
  | .closedDeadline => 2

/-- Port role codes (chapter 11). -/
def Role.code : Role → Byte
  | .control => 0
  | .observe => 1

/-- Port numbers. -/
def PortId.code : PortId → Byte
  | .mp0 => 0
  | .mp1 => 1

end Sys2Proof.Machine
end

