-- ==== Sys2Proof/Machine/Operands.lean ====
section
/-! DEFINITION. The layouts of chapter 11: numbers as bytes, the check, the request bodies both ways, the
stuffing of the link lines and the division of a burst into entries. -/

namespace Sys2Proof.Machine

/-! ## Numbers as bytes, most significant first -/

/-- The low k bytes of a number, most significant first (chapter 11, Encoding). -/
def be : (k : Nat) → (v : Nat) → List Byte
  | 0, _ => []
  | k + 1, v => BitVec.ofNat 8 (v / 256 ^ k) :: be k v

/-- A signed number in k bytes, two's complement (chapter 11, Encoding). -/
def beInt (k : Nat) (v : Int) : List Byte := be k (v % (256 ^ k : Nat)).toNat

/-- The number that bytes spell, most significant first. -/
def ofBe (l : List Byte) : Nat := l.foldl (fun a b => a * 256 + b.toNat) 0

/-- A field of a reply that may be none: a presence byte and the field, or 0 bytes (chapter 11). -/
def optional (k : Nat) (x : Option (List Byte)) : List Byte :=
  match x with
  | some f => 1 :: f
  | none => 0 :: List.replicate k 0

/-! ## The check -/

/-- One bit of the check with generator x^16 + x^12 + x^5 + 1, most significant bit first (R31, R180). -/
def crcBit (r : BitVec 16) : BitVec 16 :=
  if r.msb then (r <<< 1) ^^^ 0x1021 else r <<< 1

/-- One byte of the check. -/
def crcByte (r : BitVec 16) (b : Byte) : BitVec 16 :=
  let x := r ^^^ (b.setWidth 16 <<< 8)
  crcBit (crcBit (crcBit (crcBit (crcBit (crcBit (crcBit (crcBit x)))))))

/-- The check of bytes with the register preset to `seed` and no final inversion (R31, R180). -/
def crc (seed : BitVec 16) (l : List Byte) : BitVec 16 := l.foldl crcByte seed

/-! ## Message frames -/

/-- The preset of a message frame's check (R180). -/
def frameSeed : BitVec 16 := 0xFFFF

/-- The bytes of a message frame that its check covers: body length, kind, tag and body. -/
def Frame.covered (f : Frame) : List Byte :=
  be 2 f.body.length ++ f.kind :: be 2 f.tag.toNat ++ f.body

/-- A message frame as it stands on the line (chapter 11, The message frame). -/
def Frame.bytes (f : Frame) : List Byte :=
  0xA5 :: 0x5A :: f.covered ++ be 2 (crc frameSeed f.covered).toNat

/-- The bytes that a port's outbound line is sending: its pending reply, or a NOTICE of kind 0x60 with tag 0
(R184, chapter 11). -/
def Port.sending (p : Port) : Option (List Byte) :=
  match p.line with
  | .free => none
  | .reply => p.reply.map Frame.bytes
  | .notice set t => some (Frame.bytes { kind := 0x60, tag := 0, body := set :: be 8 t })

/-! ## Request bodies -/

/-- The bytes of a one-byte optional field of a request, omitted when absent. -/
def optByte (x : Option Byte) : List Byte :=
  match x with
  | some b => [b]
  | none => []

/-- The bytes of an optional k-byte field of a request, omitted when absent. -/
def optField (k : Nat) {w : Nat} (x : Option (BitVec w)) : List Byte :=
  match x with
  | some b => be k b.toNat
  | none => []

/-- The presence bit of an optional field, at position i. -/
def presence (i : Nat) {α : Type} (x : Option α) : Nat :=
  match x with
  | some _ => 2 ^ i
  | none => 0

/-- The presence byte of GRID_SET and REF_CONFIG: bit 0, and the undefined bits as carried. -/
def presenceByte (reserved : BitVec 7) {α : Type} (x : Option α) : Byte :=
  BitVec.ofNat 8 (reserved.toNat * 2 + presence 0 x)

/-- The presence byte of LINK_CONFIG (chapter 11). -/
def linkPresence (f : LinkFields) : Byte :=
  BitVec.ofNat 8 (f.reserved.toNat * 32 + presence 0 f.seed + presence 1 f.noActivity +
    presence 2 f.carrierLoss + presence 3 f.asymmetry + presence 4 f.mask)

/-- The bytes of the control mask of LINK_CONFIG. -/
def maskBytes (x : Option MaskFields) : List Byte :=
  match x with
  | some m => [m.burstFail, m.linkDown, m.linkUp]
  | none => []

/-- The presence field of STATION_CONFIG (chapter 11). -/
def settingPresence (f : SettingFields) : Nat :=
  presence 0 f.source + presence 1 f.depth + presence 2 f.acqShift +
  presence 3 f.trackShift + presence 4 f.accept + presence 5 f.outlierLimit +
  presence 6 f.tearTolerance + presence 7 f.holdTime + presence 8 f.backfill +
  presence 9 f.attempts + presence 10 f.responseTimeout +
  presence 11 f.probeInterval + presence 12 f.maxRtt + presence 13 f.silence +
  presence 14 f.holdover + presence 15 f.calibration

/-- The settings present, in ascending bit order. -/
def settingBytes (f : SettingFields) : List Byte :=
  optField 1 f.source ++ optField 1 f.depth ++ optField 1 f.acqShift ++ optField 1 f.trackShift ++
  optField 4 f.accept ++ optField 1 f.outlierLimit ++ optField 4 f.tearTolerance ++
  optField 1 f.holdTime ++ optField 1 f.backfill ++ optField 1 f.attempts ++
  optField 1 f.responseTimeout ++ optField 2 f.probeInterval ++ optField 2 f.maxRtt ++
  optField 2 f.silence ++ optField 2 f.holdover ++ optField 4 f.calibration

/-- The kind byte of a request (chapter 11, The message frame). -/
def requestKind : Request → Byte
  | .partInfo _ => 0x01
  | .partReset => 0x02
  | .gridSet _ _ _ _ => 0x03
  | .gridGet => 0x04
  | .timebaseStatus _ => 0x05
  | .refConfig _ _ _ _ => 0x06
  | .refSelect _ => 0x07
  | .linkConfig _ _ _ => 0x08
  | .linkStatus _ _ => 0x09
  | .linkReset _ => 0x0A
  | .stationBind _ _ _ _ _ => 0x0B
  | .stationEnable _ => 0x0C
  | .stationDisable _ => 0x0D
  | .stationConfig _ _ => 0x0E
  | .stationStatus _ => 0x0F
  | .stationStats _ _ => 0x10
  | .calSet _ _ => 0x11
  | .calReserve _ => 0x12
  | .calStage _ _ => 0x13
  | .calApply _ => 0x14
  | .probeNow _ => 0x15
  | .epochList _ => 0x16
  | .epochSummary _ => 0x17
  | .contribFetch _ _ _ => 0x18
  | .epochRelease _ => 0x19
  | .subscribe _ => 0x1A
  | .noticeMask _ => 0x1B
  | .noticePoll => 0x1C
  | .faultRead => 0x1D
  | .faultClear => 0x1E

/-- The body of a request (chapter 11, Request bodies). -/
def requestBody : Request → List Byte
  | .partInfo c => optByte c
  | .partReset => []
  | .gridSet e o r l => e :: o :: presenceByte r l :: optField 2 l
  | .gridGet => []
  | .timebaseStatus c => optByte c
  | .refConfig t sw r v => t :: sw :: presenceByte r v :: optField 4 v
  | .refSelect x => [x]
  | .linkConfig l en f =>
      l :: en :: linkPresence f :: (optField 2 f.seed ++ optField 1 f.noActivity ++
        optField 1 f.carrierLoss ++ optField 4 f.asymmetry ++ maskBytes f.mask)
  | .linkStatus l c => l :: optByte c
  | .linkReset l => [l]
  | .stationBind i l a r c => [i, l, a, r, c]
  | .stationEnable i => [i]
  | .stationDisable i => [i]
  | .stationConfig i f => i :: (be 2 (settingPresence f) ++ settingBytes f)
  | .stationStatus i => [i]
  | .stationStats i c => i :: optByte c
  | .calSet i v => i :: be 4 v.toNat
  | .calReserve i => [i]
  | .calStage i v => i :: be 4 v.toNat
  | .calApply i => [i]
  | .probeNow i => [i]
  | .epochList c => optByte c
  | .epochSummary n => be 8 n.toNat
  | .contribFetch n i k => be 8 n.toNat ++ i :: be 2 k.toNat
  | .epochRelease n => be 8 n.toNat
  | .subscribe x => [x]
  | .noticeMask m => [m.epoch, m.station, m.gap, m.link, m.reference, m.store, m.fault, m.probe]
  | .noticePoll => []
  | .faultRead => []
  | .faultClear => []

/-- The frame of a request with a tag. -/
def requestFrame (r : Request) (tag : BitVec 16) : Frame :=
  { kind := requestKind r, tag := tag, body := requestBody r }

/-- What the kind and length tests of R182 make of a frame. -/
inductive Decoded where
  | unknownKind
  | badLength
  | request (r : Request)
  deriving DecidableEq, Repr

/-- A decoding of a body, where `none` is a length the layout does not allow. -/
def Decoded.ofOption (x : Option Request) : Decoded :=
  match x with
  | some r => .request r
  | none => .badLength

/-- The clear flag that may end a body. -/
def clearField : List Byte → Option (Option Byte)
  | [] => some none
  | [c] => some (some c)
  | _ => none

/-- A body of one byte. -/
def oneByte : List Byte → Option Byte
  | [b] => some b
  | _ => none

/-- The k bytes of a field announced present, read from the front of what remains of a body. -/
def takeField (w k : Nat) (present : Bool) (l : List Byte) : Option (Option (BitVec w) × List Byte) :=
  if present then
    if k ≤ l.length then some (some (BitVec.ofNat w (ofBe (l.take k))), l.drop k) else none
  else some (none, l)

/-- The control mask of LINK_CONFIG, announced present or not. -/
def takeMask (present : Bool) (l : List Byte) : Option (Option MaskFields × List Byte) :=
  if present then
    match l with
    | a :: b :: c :: rest => some (some { burstFail := a, linkDown := b, linkUp := c }, rest)
    | _ => none
  else some (none, l)

/-- The body of LINK_CONFIG after its link and enable bytes (R194). -/
def decodeLinkFields (pres : Byte) (l : List Byte) : Option LinkFields := do
  let (seed, l) ← takeField 16 2 (pres.getLsbD 0) l
  let (noActivity, l) ← takeField 8 1 (pres.getLsbD 1) l
  let (carrierLoss, l) ← takeField 8 1 (pres.getLsbD 2) l
  let (asymmetry, l) ← takeField 32 4 (pres.getLsbD 3) l
  let (mask, l) ← takeMask (pres.getLsbD 4) l
  if l = [] then
    some { reserved := BitVec.ofNat 3 (pres.toNat / 32), seed, noActivity, carrierLoss, asymmetry, mask }
  else none

/-- The body of STATION_CONFIG after its station byte (R194). -/
def decodeSettings (pres : BitVec 16) (l : List Byte) : Option SettingFields := do
  let (source, l) ← takeField 8 1 (pres.getLsbD 0) l
  let (depth, l) ← takeField 8 1 (pres.getLsbD 1) l
  let (acqShift, l) ← takeField 8 1 (pres.getLsbD 2) l
  let (trackShift, l) ← takeField 8 1 (pres.getLsbD 3) l
  let (accept, l) ← takeField 32 4 (pres.getLsbD 4) l
  let (outlierLimit, l) ← takeField 8 1 (pres.getLsbD 5) l
  let (tearTolerance, l) ← takeField 32 4 (pres.getLsbD 6) l
  let (holdTime, l) ← takeField 8 1 (pres.getLsbD 7) l
  let (backfill, l) ← takeField 8 1 (pres.getLsbD 8) l
  let (attempts, l) ← takeField 8 1 (pres.getLsbD 9) l
  let (responseTimeout, l) ← takeField 8 1 (pres.getLsbD 10) l
  let (probeInterval, l) ← takeField 16 2 (pres.getLsbD 11) l
  let (maxRtt, l) ← takeField 16 2 (pres.getLsbD 12) l
  let (silence, l) ← takeField 16 2 (pres.getLsbD 13) l
  let (holdover, l) ← takeField 16 2 (pres.getLsbD 14) l
  let (calibration, l) ← takeField 32 4 (pres.getLsbD 15) l
  if l = [] then
    some { source, depth, acqShift, trackShift, accept, outlierLimit, tearTolerance, holdTime,
           backfill, attempts, responseTimeout, probeInterval, maxRtt, silence, holdover, calibration }
  else none

/-- A presence byte of GRID_SET or REF_CONFIG with the optional k-byte field it announces (R194). -/
def decodePresence (w k : Nat) (pres : Byte) (l : List Byte) :
    Option (BitVec 7 × Option (BitVec w)) := do
  let (x, l) ← takeField w k (pres.getLsbD 0) l
  if l = [] then some (BitVec.ofNat 7 (pres.toNat / 2), x) else none

/-- The kind and length tests of R182 on a frame's kind and body (R194, chapter 11). -/
def decodeRequest (kind : Byte) (body : List Byte) : Decoded :=
  match kind.toNat with
  | 0x01 => .ofOption ((clearField body).map .partInfo)
  | 0x02 => if body = [] then .request .partReset else .badLength
  | 0x03 => .ofOption <| match body with
      | e :: o :: pres :: rest => (decodePresence 16 2 pres rest).map fun x => .gridSet e o x.1 x.2
      | _ => none
  | 0x04 => if body = [] then .request .gridGet else .badLength
  | 0x05 => .ofOption ((clearField body).map .timebaseStatus)
  | 0x06 => .ofOption <| match body with
      | t :: sw :: pres :: rest =>
        (decodePresence 32 4 pres rest).map fun x => .refConfig t sw x.1 x.2
      | _ => none
  | 0x07 => .ofOption ((oneByte body).map .refSelect)
  | 0x08 => .ofOption <| match body with
      | l :: en :: pres :: rest => (decodeLinkFields pres rest).map (.linkConfig l en)
      | _ => none
  | 0x09 => .ofOption <| match body with
      | l :: rest => (clearField rest).map (.linkStatus l)
      | _ => none
  | 0x0A => .ofOption ((oneByte body).map .linkReset)
  | 0x0B => match body with
      | [i, l, a, r, c] => .request (.stationBind i l a r c)
      | _ => .badLength
  | 0x0C => .ofOption ((oneByte body).map .stationEnable)
  | 0x0D => .ofOption ((oneByte body).map .stationDisable)
  | 0x0E => .ofOption <| match body with
      | i :: p1 :: p0 :: rest =>
        (decodeSettings (BitVec.ofNat 16 (ofBe [p1, p0])) rest).map (.stationConfig i)
      | _ => none
  | 0x0F => .ofOption ((oneByte body).map .stationStatus)
  | 0x10 => .ofOption <| match body with
      | i :: rest => (clearField rest).map (.stationStats i)
      | _ => none
  | 0x11 => match body with
      | [i, a, b, c, d] => .request (.calSet i (BitVec.ofNat 32 (ofBe [a, b, c, d])))
      | _ => .badLength
  | 0x12 => .ofOption ((oneByte body).map .calReserve)
  | 0x13 => match body with
      | [i, a, b, c, d] => .request (.calStage i (BitVec.ofNat 32 (ofBe [a, b, c, d])))
      | _ => .badLength
  | 0x14 => .ofOption ((oneByte body).map .calApply)
  | 0x15 => .ofOption ((oneByte body).map .probeNow)
  | 0x16 => .ofOption ((clearField body).map .epochList)
  | 0x17 => if body.length = 8 then .request (.epochSummary (BitVec.ofNat 64 (ofBe body)))
      else .badLength
  | 0x18 => match body with
      | [a, b, c, d, e, f, g, h, i, k1, k0] =>
        .request (.contribFetch (BitVec.ofNat 64 (ofBe [a, b, c, d, e, f, g, h])) i
          (BitVec.ofNat 16 (ofBe [k1, k0])))
      | _ => .badLength
  | 0x19 => if body.length = 8 then .request (.epochRelease (BitVec.ofNat 64 (ofBe body)))
      else .badLength
  | 0x1A => .ofOption ((oneByte body).map .subscribe)
  | 0x1B => match body with
      | [e, st, g, l, r, so, f, p] =>
        .request (.noticeMask { epoch := e, station := st, gap := g, link := l, reference := r,
                                store := so, fault := f, probe := p })
      | _ => .badLength
  | 0x1C => if body = [] then .request .noticePoll else .badLength
  | 0x1D => if body = [] then .request .faultRead else .badLength
  | 0x1E => if body = [] then .request .faultClear else .badLength
  | _ => .unknownKind

/-! ## Values of a request body (R195) -/

/-- An ON/OFF switch: any other value is outside its codes. -/
def switchOf (b : Byte) : Option Bool :=
  if b = 0 then some false else if b = 1 then some true else none

/-- A clear flag, absent meaning clear nothing. -/
def clearOf (c : Option Byte) : Option Bool :=
  match c with
  | none => some false
  | some b => switchOf b

/-- A station number, none above 47. -/
def stationOf (b : Byte) : Option StationId :=
  if h : b.toNat < 48 then some ⟨b.toNat, h⟩ else none

/-- A link number, none above 5. -/
def linkOf (b : Byte) : Option LinkId :=
  if h : b.toNat < 6 then some ⟨b.toNat, h⟩ else none

/-- A sample rate, none outside the five. -/
def rateOf (b : Byte) : Option Rate :=
  match b.toNat with
  | 20 => some .r20
  | 40 => some .r40
  | 50 => some .r50
  | 100 => some .r100
  | 200 => some .r200
  | _ => none

/-! ## The link lines: stuffing and the division of a burst (R197) -/

/-- The opening and closing delimiters and the escape of the link lines. -/
def openByte : Byte := 0xE6

/-- The closing delimiter. -/
def closeByte : Byte := 0xE7

/-- The escape byte. -/
def escapeByte : Byte := 0xE5

/-- One content byte as it is sent on a link line. -/
def stuffByte (b : Byte) : List Byte :=
  if b = escapeByte ∨ b = openByte ∨ b = closeByte then [escapeByte, b + 0x10] else [b]

/-- Content bytes as they are sent on a link line. -/
def stuff (l : List Byte) : List Byte := l.flatMap stuffByte

/-- A frame to a station: address, kind and content with their check under `seed`, stuffed, between
delimiters (chapter 11, Frames to stations; R198). -/
def stationFrame (seed : BitVec 16) (address kind : Byte) (content : List Byte) : List Byte :=
  let covered := address :: kind :: content
  openByte :: stuff (covered ++ be 2 (crc seed covered).toNat) ++ [closeByte]

/-- One divided entry of a burst: its kind code and its content. -/
structure RawEntry where
  kind : Byte
  content : List Byte
  deriving DecidableEq, Repr

/-- The division of the space between header and check into `k` entries, reading each kind and content
length in turn; none when they do not fill it exactly (R31, R197). -/
def divideEntries : (k : Nat) → List Byte → Option (List RawEntry)
  | 0, [] => some []
  | 0, _ :: _ => none
  | k + 1, kind :: h :: l :: rest =>
    let n := ofBe [h, l]
    if n ≤ rest.length then
      match divideEntries k (rest.drop n) with
      | some es => some ({ kind := kind, content := rest.take n } :: es)
      | none => none
    else none
  | _ + 1, _ => none

/-- The header flags and entries of a burst that passed its check. -/
structure RawBurst where
  address : Byte
  restart : Bool
  entries : List RawEntry
  deriving DecidableEq, Repr

/-- The two tests of a burst at its closing delimiter: the check, then the length; a bad escape fails with
LENGTH whatever the check (R31, R197; logs 22 and 31). -/
def Burst.judge (b : Burst) : Except FailCause RawBurst :=
  let body := b.content.take (b.content.length - 2)
  let carried := b.content.drop (b.content.length - 2)
  if b.badEscape || b.escaped || decide (b.content.length < 2) then .error .length
  else if (crc b.seed body).toNat ≠ ofBe carried then .error .check
  else
    match body with
    | address :: flags :: n :: rest =>
      if n.toNat = 0 ∨ 16 < n.toNat then .error .length
      else
        match divideEntries n.toNat rest with
        | some es => .ok { address := address, restart := flags.getLsbD 0, entries := es }
        | none => .error .length
    | _ => .error .length

/-- The entries of the burst buffer: the burst so far, divided, at most sixteen (R30). A burst still
arriving has no check to leave out. -/
def Burst.buffered (b : Burst) : List RawEntry := go 16 (b.content.drop 3)
where
  /-- Divides as many whole entries as have arrived. -/
  go : Nat → List Byte → List RawEntry
    | 0, _ => []
    | k + 1, kind :: h :: l :: rest =>
      let n := ofBe [h, l]
      if n ≤ rest.length then { kind := kind, content := rest.take n } :: go k (rest.drop n) else []
    | _ + 1, _ => []

/-- The content of a DATA entry: seq, K_first, n, components, payload (chapter 11, Station bursts). -/
def dataFields (station : StationId) (c : List Byte) : Record :=
  { station := station
    seq := BitVec.ofNat 16 (ofBe (c.take 2))
    kFirst := BitVec.ofNat 40 (ofBe ((c.drop 2).take 5))
    n := ofBe ((c.drop 7).take 2)
    components := ofBe ((c.drop 9).take 1)
    payload := c.drop 10 }

/-- The fault of a DATA entry, the first in the order of R34 with R197's SIZE ahead. -/
def dataFault (components : Nat) (c : List Byte) : Option EntryFault :=
  if c.length < 10 then some .size
  else
    let n := ofBe ((c.drop 7).take 2)
    let m := ofBe ((c.drop 9).take 1)
    if n = 0 then some .empty
    else if m ≠ components then some .components
    else if 300 < n * m ∨ c.length ≠ 10 + n * m * 3 then some .size
    else none

/-- The status of a FILL_END (chapter 11). -/
def statusOf (b : Byte) : Option FillStatus :=
  match b.toNat with
  | 1 => some .complete
  | 2 => some .partly
  | 3 => some .refused
  | _ => none

/-- What the format test of R34 makes of one entry: the queue entry it becomes, or an ECHO whose probe is
still to be matched (R44). -/
inductive Checked where
  | ready (e : Entry)
  | echo (identifier : Byte) (kr : Counter40) (tau : BitVec 32)
  | damaged (kind : Byte) (fault : EntryFault)
  deriving DecidableEq, Repr

/-- The format test of one entry of a matched burst against its station's period and components (R34,
R197). Its numbers are read as unsigned ones (DEDUCED, log 45). -/
def checkEntry (station : StationId) (period components : Nat) (e : RawEntry) : Checked :=
  match e.kind.toNat with
  | 0x01 =>
    match dataFault components e.content with
    | some f => .damaged e.kind f
    | none => .ready (.data (dataFields station e.content))
  | 0x02 =>
    if e.content.length ≠ 14 then .damaged e.kind .size
    else
      let p := BitVec.ofNat 32 (ofBe ((e.content.drop 5).take 4))
      if period ≤ p.toNat then .damaged e.kind .phase
      else
        .ready (.mark station (BitVec.ofNat 40 (ofBe (e.content.take 5))) p
          (BitVec.ofNat 32 (ofBe ((e.content.drop 9).take 4)))
          ((BitVec.ofNat 8 (ofBe ((e.content.drop 13).take 1)) : Byte).getLsbD 0))
  | 0x03 =>
    if e.content.length ≠ 10 then .damaged e.kind .size
    else
      .echo (BitVec.ofNat 8 (ofBe (e.content.take 1)))
        (BitVec.ofNat 40 (ofBe ((e.content.drop 1).take 5)))
        (BitVec.ofNat 32 (ofBe ((e.content.drop 6).take 4)))
  | 0x04 =>
    match e.content with
    | [identifier, status] =>
      match statusOf status with
      | some x => .ready (.fillEnd station identifier x)
      | none => .damaged e.kind .status
    | _ => .damaged e.kind .size
  | _ => .damaged e.kind .kind

end Sys2Proof.Machine
end

