-- ==== Sys2Proof/Machine/Assembly.lean ====
section
/-! DEFINITION. Epoch assembly and the record store's policy (chapters 8 and 9): freeing, forcing free and
closing epochs, completion and deadlines, the placement plan and its carrying out. -/

namespace Sys2Proof.Machine

/-! ## Epochs of the table -/

/-- The epoch numbered n, when it is in the table. -/
def State.epoch? (s : State) (n : Nat) : Option Epoch :=
  s.assembler.table.find? fun e => decide (e.number = n)

/-- Changes the epoch numbered n. -/
def State.modEpoch (s : State) (n : Nat) (f : Epoch → Epoch) : State :=
  s.modAssembler fun a => { a with table := a.table.map fun e => if e.number = n then f e else e }

/-- Puts an epoch into a table in ascending number (R144). -/
def insertEpoch (e : Epoch) : List Epoch → List Epoch
  | [] => [e]
  | x :: xs => if e.number < x.number then e :: x :: xs else x :: insertEpoch e xs

/-- The list of one station in an epoch (R153). -/
def Epoch.list (e : Epoch) (i : StationId) : List Contribution :=
  e.contributions.filter fun c => decide (c.station = i)

/-- The present set: the stations with at least one contribution (R144). -/
def Epoch.present (e : Epoch) : StationSet :=
  e.contributions.foldl (fun x c => x ||| stationBit c.station) 0

/-- Whether an epoch is CLOSED. -/
def Epoch.isClosed (e : Epoch) : Bool :=
  match e.state with
  | .forming => false
  | .closedComplete => true
  | .closedDeadline => true

/-- Whether every needed port has released an epoch. -/
def Epoch.fullyReleased (e : Epoch) : Bool := e.needed.within e.released

/-! ## Freeing (R161, R171, R175) -/

/-- The higher of the freed mark and a number (R161). -/
def raiseMark (mark : Option Nat) (n : Nat) : Option Nat :=
  match mark with
  | some m => some (max m n)
  | none => some n

/-- Frees an epoch: its entries return to the pool, the counts of its slots fall, it leaves the table, and
the freed mark rises (R161, R171, R172). -/
def State.freeEpoch (s : State) (n : Nat) : State :=
  match s.epoch? n with
  | none => s
  | some e =>
    { s with
      assembler := { s.assembler with
        table := s.assembler.table.filter fun x => decide (x.number ≠ n)
        freedMark := raiseMark s.assembler.freedMark n
        freed := bump s.assembler.freed }
      store := { s.store with
        poolFree := s.store.poolFree + e.contributions.length
        slots := e.contributions.foldl (fun l c => dropReference c.slot l) s.store.slots } }

/-- One more on a port's forced-free count when the epoch waited for it (R175). -/
def Port.countForced (p : Port) (waited : Bool) : Port :=
  if waited then { p with forcedFrees := bump p.forcedFrees } else p

/-- A forced free of one epoch, whatever its releases (R175). -/
def State.forceFree (s : State) (n : Nat) : State :=
  match s.epoch? n with
  | none => s
  | some e =>
    let s := { s with
      mp0 := s.mp0.countForced (e.needed.mp0 && !e.released.mp0)
      mp1 := s.mp1.countForced (e.needed.mp1 && !e.released.mp1) }
    ((s.freeEpoch n).modStore fun t => { t with forcedFrees := bump t.forcedFrees }).raise .store

/-- The eviction of an epoch from a full table: a forced free that is also counted (R150, R175). A FORMING
epoch is closed for it without a cause, and so leaves without the effects of R159. -/
def State.evict (s : State) (n : Nat) : State :=
  (s.forceFree n).modAssembler fun a => { a with evictions := bump a.evictions }

/-- The number of the oldest CLOSED epoch. -/
def State.oldestClosed (s : State) : Option Nat :=
  (s.assembler.table.find? Epoch.isClosed).map Epoch.number

/-- A slot shortage: more links wait than slots are FREE (R173). -/
def State.slotShortage (s : State) : Bool := decide (s.slotsFree < s.store.waiting.length)

/-- Forces free the oldest CLOSED epochs while a slot shortage exists, `fuel` of them at most (R173). -/
def State.forceForSlots : (fuel : Nat) → State → State
  | 0, s => s
  | fuel + 1, s =>
    if s.slotShortage then
      match s.oldestClosed with
      | some n => State.forceForSlots fuel (s.forceFree n)
      | none => s
    else s

/-- The overrun policy for slots (R173). -/
def State.slotPolicy (s : State) : State := s.forceForSlots s.assembler.table.length

/-! ## Closing (R157 to R159) -/

/-- The counting of a close by its cause (R159). -/
def Assembler.countClose (a : Assembler) (cause : EpochState) : Assembler :=
  match cause with
  | .closedComplete => { a with closedComplete := bump a.closedComplete }
  | .closedDeadline => { a with closedDeadline := bump a.closedDeadline }
  | .forming => a

/-- Closes a FORMING epoch with a cause: counted, EPOCH raised, freed at once when nothing is needed of it,
and the policy for slots applied when links wait (R159, R173). -/
def State.closeEpoch (cause : EpochState) (s : State) (n : Nat) : State :=
  match s.epoch? n with
  | none => s
  | some e =>
    if e.isClosed then s
    else
      let s := ((s.modEpoch n fun x => { x with state := cause }).modAssembler
        fun a => a.countClose cause).raise .epoch
      let s := if e.fullyReleased then s.freeEpoch n else s
      if s.store.waiting = [] then s else s.slotPolicy

/-- Whether a station covers network time `t`: timed up to it, and with an empty gap list (R157). -/
def Station.covers (x : Station) (t : Int) : Bool :=
  match x.tracker.covered with
  | some c => decide (t ≤ c) && decide (x.tracker.gaps = [])
  | none => false

/-- Whether an epoch is FORMING and every station of its expected set covers it (R157). -/
def State.complete (s : State) (g : Grid) (e : Epoch) : Bool :=
  !e.isClosed &&
    allStations.all fun i => !inSet e.expected i || (s.station i).covers (g.epochEnd e.number)

/-- The evaluation of completion: the complete epochs close in ascending order (R157). -/
def State.evalCompletion (s : State) : State :=
  match s.timebase.grid with
  | none => s
  | some g =>
    ((s.assembler.table.filter (s.complete g)).map Epoch.number).foldl
      (State.closeEpoch .closedComplete) s

/-- Whether an epoch is FORMING and hub time has reached its deadline (R158). -/
def State.deadlineReached (s : State) (g : Grid) (e : Epoch) : Bool :=
  !e.isClosed && decide (g.deadline e.number ≤ s.timebase.hubTime)

/-- Closes, in ascending order, every FORMING epoch whose deadline hub time has reached (R158). -/
def State.closeDeadlines (s : State) : State :=
  match s.timebase.grid with
  | none => s
  | some g =>
    if s.timebase.hubState = .unset then s
    else
      ((s.assembler.table.filter (s.deadlineReached g)).map Epoch.number).foldl
        (State.closeEpoch .closedDeadline) s

/-- Stations leave the expected set of every FORMING epoch (R156). -/
def State.removeExpected (s : State) (out : StationSet) : State :=
  s.modAssembler fun a =>
    { a with table := a.table.map fun e =>
        if e.isClosed then e else { e with expected := e.expected &&& ~~~out } }

/-! ## Planning a placement (R148 to R150) -/

/-- What a placement plans to do. `table` is the numbers that will be present, with whether each is to take
a contribution of this record. -/
structure Plan where
  table : List Nat
  mark : Option Nat
  entries : List Nat
  creations : List Nat
  evictions : List Nat
  tooLate : Nat
  deriving DecidableEq, Repr

/-- The number of epochs the table holds at most (R144). -/
def tableSize : Nat := 16

/-- A part of the record that is refused. -/
def Plan.refuse (p : Plan) : Plan := { p with tooLate := p.tooLate + 1 }

/-- A part of the record planned into epoch n. -/
def Plan.enter (p : Plan) (n : Nat) : Plan := { p with entries := p.entries ++ [n] }

/-- The three tests that make an absent epoch too late (R149). The table is in ascending order, so its head
is the lowest number present. -/
def Plan.isTooLate (p : Plan) (g : Grid) (stamp : Stamp) (n : Nat) : Bool :=
  (match p.mark with
    | some m => decide (n ≤ m)
    | none => false) ||
  (match p.table with
    | m :: _ => decide (n < m)
    | [] => false) ||
  (decide (stamp.hub ≠ .unset) && decide (g.deadline n ≤ stamp.time))

/-- The judgement of one epoch of a record's run (R149, R150). -/
def Plan.judge (g : Grid) (stamp : Stamp) (p : Plan) (n : Nat) : Plan :=
  if p.table.contains n then p.enter n
  else if p.isTooLate g stamp n then p.refuse
  else if p.table.length < tableSize then
    { p with
      table := (p.table.filter fun m => decide (m < n)) ++ n :: p.table.filter fun m => decide (n < m)
      creations := p.creations ++ [n]
      entries := p.entries ++ [n] }
  else
    match p.table with
    | oldest :: rest =>
      if p.table.any fun m => decide (n ≤ m) then p.refuse
      else if p.entries.contains oldest then p.refuse
      else
        { p with
          table := rest ++ [n]
          mark := raiseMark p.mark oldest
          creations := p.creations ++ [n]
          evictions := p.evictions ++ [oldest]
          entries := p.entries ++ [n] }
    | [] => p.refuse

/-- The plan of a run of epochs on the table as it stands (R149). -/
def State.plan (s : State) (g : Grid) (run : List Nat) : Plan :=
  run.foldl (Plan.judge g s.stamp)
    { table := s.assembler.table.map Epoch.number, mark := s.assembler.freedMark, entries := [],
      creations := [], evictions := [], tooLate := 0 }

/-- The entries a plan may take: the free ones, and those that its evictions return (R151). -/
def State.available (s : State) (p : Plan) : Nat :=
  s.store.poolFree +
    ((s.assembler.table.filter fun e => p.evictions.contains e.number).map
      fun e => e.contributions.length).sum

/-- A pool shortage for a plan (R174). -/
def State.poolShortage (s : State) (p : Plan) : Bool := decide (s.available p < p.entries.length)

/-- Forces free the oldest CLOSED epochs while the shortage for a plan remains, `fuel` of them at most
(R174). -/
def State.forceForPool (p : Plan) : (fuel : Nat) → State → State
  | 0, s => s
  | fuel + 1, s =>
    if s.poolShortage p then
      match s.oldestClosed with
      | some n => State.forceForPool p fuel (s.forceFree n)
      | none => s
    else s

/-- A plan that the pool can supply, if there is one, after the policy for entries and planning again, `fuel`
times at most; and the state as the policy left it (R151, R174). -/
def State.settlePlan (g : Grid) (run : List Nat) : (fuel : Nat) → State → Option Plan × State
  | 0, s => (none, s)
  | fuel + 1, s =>
    let p := s.plan g run
    if s.poolShortage p then
      match s.oldestClosed with
      | some _ => State.settlePlan g run fuel (s.forceForPool p s.assembler.table.length)
      | none => (none, s)
    else (some p, s)

/-! ## Carrying out a placement (R152 to R155, R160) -/

/-- The stations an epoch created now waits for: enabled, and with a clock that is not UNSET (R155). -/
def State.expectedNow (s : State) : StationSet :=
  setOf fun i => (s.station i).enabled && decide ((s.station i).clock.state ≠ .unset)

/-- Creates epoch n (R155). -/
def State.createEpoch (s : State) (n : Nat) : State :=
  s.modAssembler fun a =>
    { a with
      table := insertEpoch
        { number := n, state := .forming, amended := false, late := 0, expected := s.expectedNow,
          needed := { mp0 := s.mp0.subscribed, mp1 := s.mp1.subscribed }, released := PortSet.none,
          contributions := [] } a.table
      created := bump a.created }

/-- A contribution's start: the network time of its first sample (R145). -/
def Contribution.begins (epochStart : Int) (c : Contribution) : Int := epochStart + c.offset

/-- Whether a contribution of the same station begins before the end of the one ahead of it (R154). -/
def overlaps (ahead : Option Contribution) (c : Contribution) (begins : Int) : Bool :=
  match ahead with
  | some x => decide (x.station = c.station) && decide (begins < x.stop)
  | none => false

/-- Inserts a contribution into the contributions of an epoch, which are kept by station and then by record
start, equal starts in order of entry; with the OVERLAP flags of the new one and of the one behind it
(R153, R154). `ahead` is the contribution just passed. -/
def insertContribution (es : Int) (c : Contribution) :
    (ahead : Option Contribution) → List Contribution → List Contribution
  | ahead, [] => [{ c with overlap := overlaps ahead c (c.begins es) }]
  | ahead, x :: xs =>
    if x.station < c.station ∨ (x.station = c.station ∧ x.start ≤ c.start) then
      x :: insertContribution es c (some x) xs
    else
      { c with overlap := overlaps ahead c (c.begins es) } ::
        { x with overlap := x.overlap || overlaps (some c) x (x.begins es) } :: xs

/-- The contribution of a timed record to epoch n (R145, R147, R154). -/
def makeContribution (g : Grid) (n : Nat) (period slot : Nat) (r : Record) (t : Timing) (late : Bool) :
    Contribution :=
  let i0 := firstIndex period t.rho t.start r.n (g.epochStart n)
  let stop := firstIndex period t.rho t.start r.n (g.epochEnd n)
  { station := r.station, slot := slot, i0 := i0, count := stop - i0
    offset := t.start + duration period t.rho i0 - g.epochStart n
    start := t.start, n := r.n, rho := t.rho, quality := t.quality
    fill := decide (t.path = .fill), tear := decide (t.path = .tear), broke := decide (t.path = .broke)
    late := late, overlap := false
    stop := t.start + duration period t.rho stop }

/-- The limit of an epoch's late count (R160). -/
def lateMax : Nat := 65535

/-- Enters a record's contribution into epoch n, taking one pool entry; into a CLOSED epoch it is late
(R153, R160, R172). -/
def State.enter (g : Grid) (period slot : Nat) (r : Record) (t : Timing) (s : State) (n : Nat) : State :=
  match s.epoch? n with
  | none => s
  | some e =>
    let c := makeContribution g n period slot r t e.isClosed
    let s := (s.modEpoch n fun x =>
      { x with contributions := insertContribution (g.epochStart n) c none x.contributions }).modStore
        fun y => { y with poolFree := y.poolFree - 1 }
    if e.isClosed then
      ((s.modEpoch n fun x => { x with amended := true, late := min (x.late + 1) lateMax }).count
        r.station fun y => { y with lateContributions := bump y.lateContributions }).raise .epoch
    else s

/-- Carries out a plan that the pool can supply (R152, steps 1 to 4). -/
def State.carryOut (g : Grid) (period slot : Nat) (r : Record) (t : Timing) (p : Plan) (s : State) :
    State :=
  let s := p.evictions.foldl State.evict s
  let s := p.creations.foldl State.createEpoch s
  let s := p.entries.foldl (State.enter g period slot r t) s
  let s := s.count r.station fun y => { y with tooLate := bumpBy y.tooLate p.tooLate }
  if p.entries = [] then s.freeSlot slot
  else s.modSlot slot fun x => { x with refs := p.entries.length }

/-- A record that the pool cannot take is dropped (R151, R172). -/
def State.dropExhausted (s : State) (slot : Nat) (i : StationId) : State :=
  (((s.count i fun y => { y with poolExhausted := bump y.poolExhausted }).modStore
    fun t => { t with poolShortages := bump t.poolShortages }).freeSlot slot).raise .store

/-- Whether a record that ends in epoch `last` lies beyond the epoch after the hub's (R148). -/
def State.isFuture (s : State) (last : Int) : Bool :=
  match s.hubEpoch with
  | some h => decide (h + 1 < last)
  | none => false

/-- The placement of a timed record in the slot given, without the evaluation that follows it (R146, R148,
R151, R152). -/
def State.placeRecord (g : Grid) (period slot : Nat) (r : Record) (t : Timing) (s : State) : State :=
  let first := g.epochAt t.start
  let last := g.epochAt (t.start + duration period t.rho (r.n - 1))
  if first < 0 then
    (s.count r.station fun y => { y with outOfRange := bump y.outOfRange }).freeSlot slot
  else if s.isFuture last then
    (s.count r.station fun y => { y with future := bump y.future }).freeSlot slot
  else
    let run := List.range' first.toNat (last - first + 1).toNat
    match s.settlePlan g run (s.assembler.table.length + 1) with
    | (some p, s) => s.carryOut g period slot r t p
    | (none, s) => s.dropExhausted slot r.station

/-- A timed record handed to the assembler: placed or refused, and completion evaluated (R140, R152, R157). -/
def State.place (g : Grid) (period slot : Nat) (r : Record) (t : Timing) (s : State) : State :=
  (s.placeRecord g period slot r t).evalCompletion

/-- Frees the CLOSED epochs that every needed port has released, in ascending order (R163). -/
def State.freeReleased (s : State) : State :=
  ((s.assembler.table.filter fun e => e.isClosed && e.fullyReleased).map Epoch.number).foldl
    State.freeEpoch s

/-! ## The waiting list (R169, R176) -/

/-- A link leaves the waiting list unserved (R176). -/
def State.leaveWaiting (s : State) (l : LinkId) : State :=
  s.modStore fun t => { t with waiting := t.waiting.filter fun x => decide (x ≠ l) }

end Sys2Proof.Machine
end

