-- ==== Sys2Proof/Machine/Timing.lean ====
section
/-! DEFINITION. Record timing and continuity (chapter 7): the model time of a record, the case it is timed by,
the expectation, covered-until and the hand-off to the assembler. -/

namespace Sys2Proof.Machine

/-- The two ways the tracker releases a record (R67). -/
inductive Stream where
  | main
  | fill
  deriving DecidableEq, Repr

/-- The quality that follows a clock state; an UNSET clock times no record (R137). -/
def ClockState.quality : ClockState → Quality
  | .locked => .qualified
  | .holdover => .holdover
  | .acquiring => .unqualified
  | .free => .unqualified
  | .unset => .unqualified

/-- The anchor that a clock times records on: none in UNSET (R106, R129). -/
def Clock.usable (c : Clock) : Option Anchor :=
  match c.state with
  | .unset => none
  | .acquiring => c.anchor
  | .locked => c.anchor
  | .holdover => c.anchor
  | .free => c.anchor

/-- Whether Δ lies within the span limit (R106). -/
def inSpan (delta : Int) : Bool := decide (-spanLimit ≤ delta) && decide (delta ≤ spanLimit)

/-- The model time of a record: T(K_first) − C (R128). -/
def Station.modelStart (x : Station) (a : Anchor) (k : Counter40) : Int :=
  modelTime x.period a.t0 x.clock.rho (counterDiff k a.k0) - x.config.calibration

/-- How a main-stream record is timed: its start, its path flag, and whether it counts as a counter
discontinuity or as a tear (R131). -/
structure Case where
  start : Int
  path : PathFlag
  discontinuity : Bool
  tear : Bool
  deriving DecidableEq, Repr

/-- The case of R131 for a main-stream record with model time `tmod` (R131 to R134), and of R136 for a
fill. -/
def Station.timingCase (x : Station) (stream : Stream) (kFirst : Counter40) (tmod : Int) : Case :=
  match stream with
  | .fill => { start := tmod, path := .fill, discontinuity := false, tear := false }
  | .main =>
    match x.expectation with
    | none => { start := tmod, path := .broke, discontinuity := false, tear := false }
    | some e =>
      if kFirst.toNat ≠ e.kx then
        { start := tmod, path := .broke, discontinuity := true, tear := false }
      else if (tmod - e.tx).natAbs ≤ x.config.tearTolerance then
        { start := e.tx, path := .continuity, discontinuity := false, tear := false }
      else { start := tmod, path := .tear, discontinuity := false, tear := true }

/-- What becomes of a released record at its timing (R129, R131, R136). -/
inductive Timed where
  | untimed
  | beyondSpan
  | timed (c : Case) (t : Timing) (stop : Int)
  deriving DecidableEq, Repr

/-- The timing of a record on its station as it stands (R128 to R138). `stop` is start + D(n). -/
def Station.time (x : Station) (stream : Stream) (r : Record) : Timed :=
  match x.clock.usable with
  | none => .untimed
  | some a =>
    if inSpan (counterDiff r.kFirst a.k0) then
      let c := x.timingCase stream r.kFirst (x.modelStart a r.kFirst)
      let stop := c.start + duration x.period x.clock.rho r.n
      if inNetworkTime c.start && inNetworkTime stop then
        .timed c { start := c.start, rho := x.clock.rho, quality := x.clock.state.quality,
                   path := c.path } stop
      else .beyondSpan
    else .beyondSpan

/-- The station after one of its records is timed: a main-stream record moves the expectation and
covered-until, a fill neither (R132, R135, R136, R139). -/
def Station.afterTiming (x : Station) (stream : Stream) (r : Record) (c : Case) (stop : Int) : Station :=
  match stream with
  | .fill => x
  | .main =>
    { x with
      expectation := some { kx := r.kFirst.toNat + r.n, tx := stop }
      tracker := { x.tracker with covered := some stop }
      counters := { x.counters with
        discontinuities :=
          if c.discontinuity then bump x.counters.discontinuities else x.counters.discontinuities
        tears := if c.tear then bump x.counters.tears else x.counters.tears } }

/-- The correction unit takes the record in a slot, released to it for station i: timed and handed on, or
counted and freed (R127, R129, R140). -/
def State.correct (stream : Stream) (i : StationId) (slot : Nat) (s : State) : State :=
  match s.slot? slot with
  | none => s
  | some x =>
    match (s.station i).time stream x.record with
    | .untimed => (s.count i fun y => { y with untimed := bump y.untimed }).freeSlot slot
    | .beyondSpan => (s.count i fun y => { y with beyondSpan := bump y.beyondSpan }).freeSlot slot
    | .timed c t stop =>
      let s := s.modStation i fun y => y.afterTiming stream x.record c stop
      let s := s.modSlot slot fun y => { y with timing := some t }
      match s.timebase.grid with
      | none => (s.count i fun y => { y with noGrid := bump y.noGrid }).freeSlot slot
      | some g => s.place g (s.station i).period slot x.record t

/-- The expectation becomes not valid (R141). -/
def State.invalidateExpectation (s : State) (i : StationId) : State :=
  s.modStation i fun x => { x with expectation := none }

end Sys2Proof.Machine
end

