-- ==== Sys2Proof/Machine/Tracking.lean ====
section
/-! DEFINITION. The sequence tracker (chapter 4): the main stream, the hold, declare-and-advance, the gap list
and the endings of backfill requests. A gap that leaves its list is followed by an evaluation of
completion at the end of the event (R157, log 11), which the commands make. -/

namespace Sys2Proof.Machine

/-- The number of gaps and of held records a station has at most (R66). -/
def gapLimit : Nat := 4

/-- Whether a gap's range holds a seq (R77). -/
def Gap.holds (g : Gap) (a : Seq) : Bool :=
  decide (stepsAfter g.first a ≤ stepsAfter g.first g.last)

/-- `k` gaps abandoned: counted, and a GAP notice raised where the cause gives one (R80, R82). -/
def State.countAbandoned (s : State) (i : StationId) (k : Nat) (notify : Bool) : State :=
  (s.count i fun y => { y with gapsAbandoned := bumpBy y.gapsAbandoned k }).raiseIf
    (notify && decide (0 < k)) .gap

/-- Abandons the gaps of a station that satisfy a test, with a GAP notice (R82). -/
def State.abandonWhere (s : State) (i : StationId) (out : Gap → Bool) : State :=
  let gaps := (s.station i).tracker.gaps
  (s.modTracker i fun t => { t with gaps := gaps.filter fun g => !out g }).countAbandoned i
    (gaps.countP out) true

/-- A gap is created OPEN at the tail, the oldest being abandoned first on a full list (R76). -/
def State.createGap (s : State) (i : StationId) (first last : Seq) : State :=
  let gaps := (s.station i).tracker.gaps
  let s := if gapLimit ≤ gaps.length then
      (s.modTracker i fun t => { t with gaps := gaps.drop 1 }).countAbandoned i 1 true
    else s
  (s.modTracker i fun t => { t with gaps := t.gaps ++
    [{ first := first, last := last, attempts := 0, request := none, damaged := false }] }).count i
    fun y => { y with gapsDeclared := bump y.gapsDeclared }

/-- Whether a gap's first seq lies 32,768 or more steps behind q (R76). -/
def Gap.aged (q : Seq) (g : Gap) : Bool :=
  decide (stepsAfter g.first q = 0) || decide (32768 ≤ stepsAfter g.first q)

/-- The gap list is aged against q (R76). -/
def State.ageGaps (s : State) (i : StationId) : State :=
  match (s.station i).tracker.q with
  | some q => s.abandonWhere i (Gap.aged q)
  | none => s

/-- The hold drains: while its lowest record's seq equals q, that record is released main-stream and q goes
one step on, `fuel` records at most (R69, step 4). -/
def State.drain (i : StationId) : (fuel : Nat) → State → State
  | 0, s => s
  | fuel + 1, s =>
    match (s.station i).tracker.q, (s.station i).tracker.hold with
    | some q, h :: rest =>
      if h.seq = q then
        State.drain i fuel
          ((s.modTracker i fun t => { t with q := some (q + 1), hold := rest }).correct .main i h.slot)
      else s
    | _, _ => s

/-- The whole hold drains as far as it goes. -/
def State.drainHold (s : State) (i : StationId) : State :=
  s.drain i (s.station i).tracker.hold.length

/-- The hold timer is stopped when the hold is empty (R69, R73). -/
def State.restHold (s : State) (i : StationId) : State :=
  s.modTracker i fun t => if t.hold = [] then { t with holdDue := none } else t

/-- The hold timer is started to run out after the station's hold time (R70). -/
def State.startHold (s : State) (i : StationId) : State :=
  s.modStation i fun x =>
    { x with tracker := { x.tracker with
        holdDue := some (s.partTime + x.config.holdTime * 1000) } }

/-- The hold timer is started again when records are still held, and stopped otherwise (R71, R75). -/
def State.renewHold (s : State) (i : StationId) : State :=
  if (s.station i).tracker.hold = [] then s.modTracker i fun t => { t with holdDue := none }
  else s.startHold i

/-- A record at q is released main-stream, and the hold drains behind it (R69). -/
def State.inSequence (s : State) (i : StationId) (slot : Nat) (a : Seq) : State :=
  let s := s.count i fun y => { y with inSequence := bump y.inSequence }
  let s := s.correct .main i slot
  let s := s.modTracker i fun t => { t with q := some (a + 1) }
  ((s.drainHold i).restHold i).ageGaps i

/-- Declare-and-advance to h: the gap before h, q moved to h, and the hold drained (R73). -/
def State.declareAdvance (s : State) (i : StationId) (q h : Seq) : State :=
  let s := s.createGap i q (h - 1)
  let s := s.modTracker i fun t => { t with q := some h }
  ((s.drainHold i).restHold i).ageGaps i

/-- The value h of R73: the lowest held seq, or the seq that caused the step when the hold is empty. -/
def Tracker.lowest (t : Tracker) (a : Seq) : Seq :=
  match t.hold with
  | h :: _ => h.seq
  | [] => a

/-- A held record at its serial position after q (R70). -/
def insertHeld (q : Seq) (x : Held) : List Held → List Held
  | [] => [x]
  | y :: ys =>
    if stepsAfter q x.seq < stepsAfter q y.seq then x :: y :: ys else y :: insertHeld q x ys

/-- A record that is a duplicate is counted and freed (R70, R77). -/
def State.dropDuplicate (s : State) (i : StationId) (slot : Nat) : State :=
  (s.count i fun y => { y with duplicates := bump y.duplicates }).freeSlot slot

/-- A record 1 to 8 steps after q is held, or is a duplicate of one held (R70). -/
def State.holdRecord (s : State) (i : StationId) (slot : Nat) (q a : Seq) : State :=
  let t := (s.station i).tracker
  if t.hold.any fun h => decide (h.seq = a) then s.dropDuplicate i slot
  else
    let s := (s.modTracker i fun t =>
      { t with hold := insertHeld q { slot := slot, seq := a } t.hold }).count i
        fun y => { y with held := bump y.held }
    if t.hold = [] then s.startHold i else s

/-- Declare-and-advance repeated while a is 9 or more steps after q, `fuel` times at most (R74). -/
def State.advanceTo (i : StationId) (a : Seq) : (fuel : Nat) → State → State
  | 0, s => s
  | fuel + 1, s =>
    match (s.station i).tracker.q with
    | some q =>
      if 9 ≤ stepsAfter q a ∧ stepsAfter q a ≤ 32767 then
        State.advanceTo i a fuel (s.declareAdvance i q ((s.station i).tracker.lowest a))
      else s
    | none => s

/-- A record within 8 steps of q is released or held (R74, last sentence). -/
def State.takeNear (s : State) (i : StationId) (slot : Nat) (a : Seq) : State :=
  match (s.station i).tracker.q with
  | some q => if a = q then s.inSequence i slot a else s.holdRecord i slot q a
  | none => s.inSequence i slot a

/-- Replaces the first gap that satisfies a test. -/
def replaceGap (at_ : Gap → Bool) (new : List Gap) : List Gap → List Gap
  | [] => []
  | g :: gs => if at_ g then new ++ gs else g :: replaceGap at_ new gs

/-- The gap that holds seq a is filled, shrunk or split (R78, R79). -/
def State.shrinkGap (s : State) (i : StationId) (a : Seq) (g : Gap) : State :=
  let put (new : List Gap) : State :=
    s.modTracker i fun t => { t with gaps := replaceGap (fun x => x.holds a) new t.gaps }
  if g.first = a ∧ g.last = a then
    ((put []).count i fun y => { y with gapsFilled := bump y.gapsFilled }).raiseIf
      (g.request.isSome || decide (1 ≤ g.attempts)) .gap
  else if g.first = a then put [{ g with first := a + 1 }]
  else if g.last = a then put [{ g with last := a - 1 }]
  else if gapLimit ≤ (s.station i).tracker.gaps.length then
    (put [{ g with last := a - 1 }]).countAbandoned i 1 true
  else put [{ g with last := a - 1 }, { g with first := a + 1 }]

/-- A record behind q is a fill when a gap holds its seq, and a duplicate otherwise (R77). -/
def State.takeBehind (s : State) (i : StationId) (slot : Nat) (a : Seq) : State :=
  match (s.station i).tracker.gaps.find? fun g => g.holds a with
  | some g =>
    ((s.shrinkGap i a g).count i fun y => { y with fills := bump y.fills }).correct .fill i slot
  | none => s.dropDuplicate i slot

/-- A DATA record handed to the tracker is classed against q (R67, R68). -/
def State.track (s : State) (i : StationId) (slot : Nat) (a : Seq) : State :=
  match (s.station i).tracker.q with
  | none => (s.modTracker i fun t => { t with q := some a }).inSequence i slot a
  | some q =>
    if stepsAfter q a ≤ 8 then s.takeNear i slot a
    else if stepsAfter q a ≤ 32767 then
      (s.advanceTo i a ((s.station i).tracker.hold.length + 1)).takeNear i slot a
    else s.takeBehind i slot a

/-- One declare-and-advance for a station that holds records; none otherwise (R71, R75). -/
def State.giveUp (s : State) (i : StationId) : State :=
  match (s.station i).tracker.q, (s.station i).tracker.hold with
  | some q, h :: _ => (s.declareAdvance i q h.seq).renewHold i
  | _, _ => s

/-- A gap returned to OPEN loses its identifier and its damaged flag (R81). -/
def Gap.reopen (g : Gap) : Gap := { g with request := none, damaged := false }

/-- What an ending makes of one gap that carries the request's identifier; none is abandoned (R81). -/
def Gap.ended (limit : Nat) (e : Ending) (g : Gap) : Option Gap :=
  let attempt : Option Gap :=
    if limit ≤ g.attempts + 1 then none else some { g.reopen with attempts := g.attempts + 1 }
  match e with
  | .complete => attempt
  | .refused => attempt
  | .timeout => attempt
  | .partly => if g.damaged then attempt else none
  | .linkLost => some g.reopen

/-- The ending of a backfill request, applied to each gap of the station that carries its identifier (R81). -/
def State.endRequest (s : State) (i : StationId) (identifier : Byte) (e : Ending) : State :=
  let limit := (s.station i).config.attempts
  let step (g : Gap) : Option Gap :=
    if g.request = some identifier then g.ended limit e else some g
  let gaps := (s.station i).tracker.gaps
  (s.modTracker i fun t => { t with gaps := gaps.filterMap step }).countAbandoned i
    (gaps.countP fun g => (step g).isNone) true

/-- The attempts setting lowered: each OPEN gap already at or above it is abandoned (R57). -/
def State.lowerAttempts (s : State) (i : StationId) : State :=
  s.abandonWhere i fun g =>
    g.request.isNone && decide ((s.station i).config.attempts ≤ g.attempts)

/-- The oldest OPEN gap of a station (R83). -/
def Tracker.oldestOpen (t : Tracker) : Option Gap := t.gaps.find? fun g => g.request.isNone

/-- Marks the oldest OPEN gap of a list REQUESTED (R83). -/
def requestOldest (identifier : Byte) : List Gap → List Gap
  | [] => []
  | g :: gs =>
    if g.request.isNone then { g with request := some identifier } :: gs
    else g :: requestOldest identifier gs

/-- A station's tracking returned to "before the first record": its held slots are freed and its gaps
abandoned without a notice (R52 step 2, R86 steps 1 to 4). -/
def State.clearTracking (s : State) (i : StationId) : State :=
  let t := (s.station i).tracker
  (((s.freeSlots (t.hold.map Held.slot)).countAbandoned i t.gaps.length false).modTracker i
    fun _ => Tracker.initial)

end Sys2Proof.Machine
end

