-- ==== Sys2Proof/Machine/ClockModel.lean ====
section
/-! DEFINITION. Station clock models (chapter 6): a mark point taken, the changes of clock state, the timers,
and the changes of depth and source. -/

namespace Sys2Proof.Machine

/-- The limits of the rate correction in ppb (R112). -/
def rhoLimit : Int := 100000

/-- The saturation of the ladder count (R120). -/
def ladderMax : Nat := 64

/-- The due values of the two clock timers started at part time `now` with the station's settings (R118,
R119). -/
def StationConfig.silenceFrom (c : StationConfig) (now : Nat) : Option Nat := some (now + c.silence * 1000)

/-- The holdover timer started at part time `now` (R119). -/
def StationConfig.holdoverFrom (c : StationConfig) (now : Nat) : Option Nat :=
  some (now + c.holdover * 60000)

/-- The acceptance limit of a clock state (R111). -/
def StationConfig.acceptLimit (c : StationConfig) (x : ClockState) : Nat :=
  match x with
  | .holdover => 4 * c.accept
  | .acquiring => c.accept
  | .locked => c.accept
  | .free => c.accept
  | .unset => c.accept

/-- The gain shift of a clock state (R112). -/
def StationConfig.gainShift (c : StationConfig) (x : ClockState) : Nat :=
  match x with
  | .acquiring => c.acqShift
  | .locked => c.trackShift
  | .holdover => c.trackShift
  | .free => c.acqShift
  | .unset => c.acqShift

/-- The anchor placed on a mark point, with the ladder at 1 (R108, R113). -/
def Clock.anchorAt (c : Clock) (km : Counter40) (tm : Int) : Clock :=
  { c with anchor := some { k0 := km, t0 := tm }, count := 1, stages := ladderStage 1, outliers := 0,
           silenceDue := none }

/-- The first anchor of an UNSET clock (R108). -/
def Clock.firstAnchor (cfg : StationConfig) (now : Nat) (km : Counter40) (tm : Int) (c : Clock) : Clock :=
  { c.anchorAt km tm with state := .acquiring, rho := 0, residual := some 0,
                          holdoverDue := cfg.holdoverFrom now }

/-- A re-anchor that enters ACQUIRING from another state and starts the holdover timer (R110, R115, R117). -/
def Clock.reanchorEnter (cfg : StationConfig) (now : Nat) (km : Counter40) (tm : Int) (residual : Int)
    (c : Clock) : Clock :=
  { c.anchorAt km tm with state := .acquiring, residual := some residual,
                          holdoverDue := cfg.holdoverFrom now }

/-- A re-anchor within ACQUIRING, which leaves the holdover timer as it was (R110, R114). -/
def Clock.reanchorStay (km : Counter40) (tm : Int) (residual : Int) (c : Clock) : Clock :=
  { c.anchorAt km tm with residual := some residual }

/-- The state an accepted mark point leads to with the new ladder count (R114, R116). -/
def acceptedState (cfg : StationConfig) (x : ClockState) (count : Nat) : ClockState :=
  match x with
  | .acquiring => if cfg.depth ≤ count then .locked else .acquiring
  | .locked => .locked
  | .holdover => .locked
  | .free => .free
  | .unset => .unset

/-- The update by an accepted mark point with residual e (R112), and the state it leads to (R114, R116). The
silence timer runs in LOCKED only (R118). -/
def Clock.update (cfg : StationConfig) (now period : Nat) (a : Anchor) (km : Counter40) (e : Int)
    (c : Clock) : Clock :=
  let g := cfg.gainShift c.state
  let delta := counterDiff km a.k0
  let count := min (c.count + 1) ladderMax
  let state := acceptedState cfg c.state count
  { state := state
    anchor := some
      { k0 := km, t0 := modelTime period a.t0 c.rho delta + roundDiv e (2 ^ g) }
    rho := clampInt (-rhoLimit) rhoLimit
      (c.rho + roundDiv (e * nsPerSecond) (delta.toNat * period * 2 ^ g))
    count := count
    stages := c.stages ||| ladderStage count
    outliers := 0
    residual := some e
    silenceDue := if state = .locked then cfg.silenceFrom now else none
    holdoverDue := cfg.holdoverFrom now }

/-- What a mark point does to a clock: the clock after it, and what else comes of it. `reanchored` tells the
correction unit to invalidate the expectation (R125). -/
structure MarkEffect where
  clock : Clock
  reanchored : Bool
  accepted : Bool
  outlier : Bool
  stale : Bool
  step : Bool
  deriving DecidableEq, Repr

/-- The effect of a mark point that leaves all but the clock alone. -/
def MarkEffect.only (c : Clock) : MarkEffect :=
  { clock := c, reanchored := false, accepted := false, outlier := false, stale := false, step := false }

/-- A mark point beyond the span of the model (R110). -/
def Clock.beyond (cfg : StationConfig) (now : Nat) (km : Counter40) (tm : Int) (c : Clock) : MarkEffect :=
  match c.state with
  | .acquiring => { MarkEffect.only (c.reanchorStay km tm 0) with reanchored := true }
  | .locked => { MarkEffect.only (c.reanchorEnter cfg now km tm 0) with reanchored := true, step := true }
  | .holdover => { MarkEffect.only (c.reanchorEnter cfg now km tm 0) with reanchored := true, step := true }
  | .free => { MarkEffect.only (c.reanchorEnter cfg now km tm 0) with reanchored := true }
  | .unset => { MarkEffect.only (c.firstAnchor cfg now km tm) with reanchored := true }

/-- An outlier with residual e (R114, R115). -/
def Clock.outlier (cfg : StationConfig) (now : Nat) (km : Counter40) (tm e : Int) (c : Clock) :
    MarkEffect :=
  match c.state with
  | .acquiring =>
    { MarkEffect.only (c.reanchorStay km tm e) with reanchored := true, outlier := true }
  | _ =>
    if cfg.outlierLimit ≤ c.outliers + 1 then
      { MarkEffect.only (c.reanchorEnter cfg now km tm e) with
          reanchored := true, outlier := true, step := true }
    else
      { MarkEffect.only { c with outliers := c.outliers + 1, residual := some e } with outlier := true }

/-- A mark point judged by its residual (R111). -/
def Clock.judge (cfg : StationConfig) (now period : Nat) (a : Anchor) (km : Counter40) (tm : Int)
    (c : Clock) : MarkEffect :=
  let e := tm - modelTime period a.t0 c.rho (counterDiff km a.k0)
  if e.natAbs ≤ cfg.acceptLimit c.state then
    { MarkEffect.only (c.update cfg now period a km e) with accepted := true }
  else c.outlier cfg now km tm e

/-- A mark point taken by the first case of R107 that applies. -/
def Clock.take (cfg : StationConfig) (now period : Nat) (km : Counter40) (tm : Int) (c : Clock) :
    MarkEffect :=
  match c.usable with
  | none => { MarkEffect.only (c.firstAnchor cfg now km tm) with reanchored := true }
  | some a =>
    let delta := counterDiff km a.k0
    if delta ≤ 0 then { MarkEffect.only c with stale := true }
    else if spanLimit < delta then c.beyond cfg now km tm
    else if c.state = .free then
      { MarkEffect.only (c.reanchorEnter cfg now km tm 0) with reanchored := true }
    else c.judge cfg now period a km tm

/-- One more when a condition holds. -/
def bumpIf (b : Bool) (n : Nat) : Nat := if b then bump n else n

/-- The station after a mark point (R108 to R117, R126). -/
def Station.afterMark (x : Station) (m : MarkEffect) : Station :=
  { x with
    clock := m.clock
    expectation := if m.reanchored then none else x.expectation
    counters := { x.counters with
      marksAccepted := bumpIf m.accepted x.counters.marksAccepted
      outliers := bumpIf m.outlier x.counters.outliers
      staleMarks := bumpIf m.stale x.counters.staleMarks
      clockSteps := bumpIf m.step x.counters.clockSteps } }

/-- A mark point handed to the clock model unit (R107), with a STATION notice at a change of clock state or a
clock step (R126). -/
def State.takeMark (s : State) (i : StationId) (km : Counter40) (tm : Int) : State :=
  let x := s.station i
  let m := x.clock.take x.config s.partTime x.period km tm
  (s.modStation i fun y => y.afterMark m).raiseIf
    (m.step || decide (m.clock.state ≠ x.clock.state)) .station

/-- Puts a station's clock, with a STATION notice when its state changes (R126). -/
def State.putClock (s : State) (i : StationId) (c : Clock) : State :=
  (s.modStation i fun x => { x with clock := c }).raiseIf
    (decide (c.state ≠ (s.station i).clock.state)) .station

/-- The clock returns to UNSET (R124). -/
def State.unsetClock (s : State) (i : StationId) : State := s.putClock i Clock.initial

/-- The silence timer runs out in LOCKED (R118). -/
def Clock.silenceOut (c : Clock) : Clock := { c with state := .holdover, silenceDue := none }

/-- The holdover timer runs out (R119). -/
def Clock.holdoverOut (c : Clock) : Clock :=
  { c with state := .free, count := 0, stages := 0, outliers := 0, silenceDue := none,
           holdoverDue := none }

/-- A change of mark source (R122). -/
def Clock.changeSource (c : Clock) : Clock :=
  match c.state with
  | .locked => { c with count := 0, stages := 0, outliers := 0, state := .acquiring, silenceDue := none }
  | .holdover => { c with count := 0, stages := 0, outliers := 0, state := .acquiring, silenceDue := none }
  | .acquiring => { c with count := 0, stages := 0, outliers := 0 }
  | .free => { c with count := 0, stages := 0, outliers := 0 }
  | .unset => { c with count := 0, stages := 0, outliers := 0 }

/-- A change of required depth, `cfg` holding the new one (R121). -/
def Clock.changeDepth (cfg : StationConfig) (now : Nat) (c : Clock) : Clock :=
  match c.state with
  | .acquiring =>
    if cfg.depth ≤ c.count then { c with state := .locked, silenceDue := cfg.silenceFrom now } else c
  | .locked => if c.count < cfg.depth then { c with state := .acquiring, silenceDue := none } else c
  | .holdover => if c.count < cfg.depth then { c with state := .acquiring } else c
  | .free => c
  | .unset => c

end Sys2Proof.Machine
end

