-- ==== Sys2Proof/Machine/Marks.lean ====
section
/-! DEFINITION. Time marks and probe exchanges (chapter 5): the judgement of MARK and ECHO entries, the probe
schedule, and the endings of probes. -/

namespace Sys2Proof.Machine

/-- A MARK entry judged by source, phase and lock; one that passes gives a mark point (R90). -/
def State.judgeMark (s : State) (i : StationId) (km : Counter40) (p sec : BitVec 32) (locked : Bool) :
    State :=
  let x := s.station i
  if x.config.source = .probe ∨ x.period ≤ p.toNat then
    s.count i fun y => { y with ignoredMarks := bump y.ignoredMarks }
  else if locked = false then
    s.count i fun y => { y with unlockedMarks := bump y.unlockedMarks }
  else s.takeMark i km ((sec.toNat : Int) * nsPerSecond - p.toNat)

/-- The asymmetry correction of a station's link (R25, R101). -/
def State.asymmetryOf (s : State) (i : StationId) : Int :=
  match (s.station i).binding with
  | some b => (s.link b.link).asymmetry
  | none => 0

/-- The last RTT set (R88). -/
def State.setRtt (s : State) (i : StationId) (rtt : Int) : State :=
  s.modStation i fun x => { x with mark := { x.mark with lastRtt := some rtt } }

/-- An ECHO entry judged by hub state, sign and slowness; what it gives follows the mark source (R98 to
R102). -/
def State.judgeEcho (s : State) (i : StationId) (kr : Counter40) (tau : BitVec 32) (ts ta : Stamp) :
    State :=
  let rtt := ta.time - ts.time - tau.toNat
  if ts.hub ≠ .referenced ∨ ta.hub ≠ .referenced then
    s.count i fun y => { y with unreferencedEchoes := bump y.unreferencedEchoes }
  else if rtt < 0 then
    s.count i fun y => { y with invalidEchoes := bump y.invalidEchoes }
  else if ((s.station i).config.maxRtt : Int) * 1000000 < rtt then
    (s.setRtt i rtt).count i fun y => { y with slowEchoes := bump y.slowEchoes }
  else
    match (s.station i).config.source with
    | .probe => (s.setRtt i rtt).takeMark i kr (ts.time + rtt / 2 + s.asymmetryOf i)
    | .sat => s.setRtt i rtt

/-- The next due time of an active schedule (R92). -/
def nextDue (interval now : Nat) (lastSent : Option Nat) : Nat :=
  match lastSent with
  | some t => t + interval * 1000
  | none => now

/-- The mark unit when a probe is sent at part time `now` (R95). -/
def MarkUnit.sent (interval now : Nat) (m : MarkUnit) : MarkUnit :=
  { m with due := false, requested := false, lastSent := some now
           schedule := match m.schedule with
             | some _ => some (now + interval * 1000)
             | none => none }

/-- The schedule after a change of source or interval, `cfg` being the new settings (R93). -/
def MarkUnit.reschedule (old cfg : StationConfig) (now : Nat) (m : MarkUnit) : MarkUnit :=
  match old.source, cfg.source with
  | .sat, .probe =>
    let d := nextDue cfg.probeInterval now m.lastSent
    { m with schedule := some d, due := m.due || decide (d ≤ now) }
  | .probe, .probe =>
    if old.probeInterval = cfg.probeInterval then m
    else
      let d := match m.lastSent with
        | some t => t + cfg.probeInterval * 1000
        | none => m.schedule.getD now
      { m with schedule := some d
               due := if d ≤ now then true else m.due && m.requested }
  | .probe, .sat => { m with schedule := none, due := m.due && m.requested }
  | .sat, .sat => m

/-- A probe that carries the PROBE_NOW flag ends (R103). -/
def State.probeEnded (s : State) (requested : Bool) : State := s.raiseIf requested .probe

/-- The probe in flight on a link ends without an echo: the slot is emptied and the mark unit told (R44,
R97, R103). -/
def State.abandonProbe (s : State) (l : LinkId) : State :=
  match (s.link l).probe with
  | some x => (s.modLink l fun y => { y with probe := none }).probeEnded x.requested
  | none => s

/-- Every probe in flight is abandoned, as at a change of hub state (R44). -/
def State.abandonProbes (s : State) : State := allLinks.foldl State.abandonProbe s

end Sys2Proof.Machine
end

