-- ==== Sys2Proof/Machine/Links.lean ====
section
/-! DEFINITION. Station telemetry links (chapter 2): bursts received byte by byte, failures, validity, the
inbound queue, the backfill and probe slots, link loss and reset, and the outbound line. -/

namespace Sys2Proof.Machine

/-! ## The inbound queue (R35 to R37) -/

/-- The entries an inbound queue holds at most. -/
def queueSize : Nat := 64

/-- A control entry is placed at the tail, or lost on a full queue (R36). -/
def State.pushControl (s : State) (l : LinkId) (e : Entry) : State :=
  if (s.link l).queue.length < queueSize then
    s.modLink l fun x => { x with queue := x.queue ++ [e] }
  else (s.countLink l fun c => { c with controlLost := bump c.controlLost }).raise .link

/-- A control entry whose mask switch decides whether it is generated (R36). -/
def State.pushMasked (s : State) (l : LinkId) (passes : Bool) (e : Entry) : State :=
  if passes then s.pushControl l e else s

/-- The entry at the head of a queue that may be taken: none while the head is blocked (R37). -/
def State.head? (s : State) (l : LinkId) : Option Entry :=
  if (s.link l).blocked then none else (s.link l).queue.head?

/-- The head entry leaves the queue. -/
def State.popHead (s : State) (l : LinkId) : State :=
  s.modLink l fun x => { x with queue := x.queue.tail }

/-- An entry of a station disabled since it was queued is counted as it is discarded (R37). -/
def State.countDisabled (s : State) (l : LinkId) : State :=
  s.countLink l fun c => { c with disabledEntries := bump c.disabledEntries }

/-! ## The backfill request in flight (R38, R41, R42) -/

/-- A gap that carries a request's identifier takes the damaged flag (R38). -/
def Gap.damage (identifier : Byte) (g : Gap) : Gap :=
  if g.request = some identifier then { g with damaged := true } else g

/-- A damage event sets the damaged flag of the request in flight and of its gaps, unless it is set (R38). -/
def State.damageRequest (s : State) (l : LinkId) (cause : DamageCause) : State :=
  match (s.link l).backfill with
  | none => s
  | some b =>
    if b.damage.isSome then s
    else
      (s.modLink l fun x => { x with backfill := some { b with damage := some cause } }).modTracker
        b.station fun t => { t with gaps := t.gaps.map (Gap.damage b.identifier) }

/-- The request in flight ends: the slot is emptied and the tracker handed the ending (R41, R42). -/
def State.endBackfill (s : State) (l : LinkId) (e : Ending) : State :=
  match (s.link l).backfill with
  | none => s
  | some b => (s.modLink l fun x => { x with backfill := none }).endRequest b.station b.identifier e

/-! ## Receiving a burst (R30 to R35) -/

/-- The damage cause of a failed burst (R38). -/
def FailCause.damage : FailCause → DamageCause
  | .check => .check
  | .length => .length

/-- A burst fails: it is discarded, counted and recorded, BURST_FAIL queued when the mask passes it, and the
request in flight damaged (R32). -/
def State.failBurst (s : State) (l : LinkId) (b : Burst) (cause : FailCause) : State :=
  let s := s.modLink l fun x =>
    { x with burst := none, lastFailure := some cause
             counters := { x.counters with checkFailures := bump x.counters.checkFailures } }
  (s.pushMasked l (s.link l).maskBurstFail (.burstFail b.content.head?)).damageRequest l cause.damage

/-- A valid burst as activity of its link: counted, the no-activity timeout started, and UP entered from DOWN
or SILENT (R27, R46). -/
def State.linkActive (s : State) (l : LinkId) : State :=
  let before := (s.link l).state
  let s := s.modLink l fun x =>
    { x with burst := none, state := .up, noActivityDue := some (s.partTime + x.noActivity * 1000)
             counters := { x.counters with goodBursts := bump x.counters.goodBursts } }
  if before = .up then s
  else (s.pushMasked l (s.link l).maskLinkUp .linkUp).raise .link

/-- A DAMAGED entry is created: counted, and the request in flight for its station damaged (R34, R38). -/
def State.countDamaged (l : LinkId) (i : StationId) (s : State) (e : Checked) : State :=
  match e with
  | .ready _ => s
  | .echo _ _ _ => s
  | .damaged _ _ =>
    let s := s.countLink l fun c => { c with damagedEntries := bump c.damagedEntries }
    match (s.link l).backfill with
    | some b => if b.station = i then s.damageRequest l .format else s
    | none => s

/-- Whether an echo matches the probe in flight (R44). -/
def ProbeSlot.matched (x : ProbeSlot) (identifier : Byte) (i : StationId) : Bool :=
  decide (x.identifier = identifier) && decide (x.station = i)

/-- One entry of an accepted burst is appended to the queue; an ECHO is first matched against the probe slot
(R35, R44, R96). -/
def State.acceptEntry (l : LinkId) (i : StationId) (ta : Stamp) (s : State) (e : Checked) : State :=
  let append (s : State) (e : Entry) : State :=
    s.modLink l fun x => { x with queue := x.queue ++ [e] }
  match e with
  | .ready e => append s e
  | .damaged kind fault => append s (.damaged i kind fault)
  | .echo identifier kr tau =>
    let stale := s.countLink l fun c => { c with staleEchoes := bump c.staleEchoes }
    match (s.link l).probe with
    | some x =>
      if x.matched identifier i then
        (append (s.modLink l fun y => { y with probe := none })
          (.echo i kr tau x.ts ta x.requested)).probeEnded x.requested
      else stale
    | none => stale

/-- A matched burst enters the queue whole or not at all (R34, R35). -/
def State.queueBurst (s : State) (l : LinkId) (i : StationId) (ta : Stamp) (b : RawBurst) : State :=
  let x := s.station i
  let es := b.entries.map (checkEntry i x.period x.components)
  let s := es.foldl (State.countDamaged l i) s
  let need := es.length + (if b.restart then 1 else 0)
  if need ≤ queueSize - (s.link l).queue.length then
    let s := if b.restart then s.modLink l fun y => { y with queue := y.queue ++ [.restart i] } else s
    es.foldl (State.acceptEntry l i ta) s
  else
    ((s.countLink l fun c => { c with queueOverruns := bump c.queueOverruns }).raise .link).damageRequest
      l .overrun

/-- A burst that ended at its closing delimiter: failed, or valid and then matched to a station (R31, R33). -/
def State.judgeBurst (s : State) (l : LinkId) (b : Burst) : State :=
  match b.judge with
  | .error cause => s.failBurst l b cause
  | .ok raw =>
    let s := s.linkActive l
    match s.lookup l raw.address with
    | some i => s.queueBurst l i b.stamp raw
    | none => s.countLink l fun c => { c with unboundBursts := bump c.unboundBursts }

/-- The bytes a burst may have before its closing delimiter (R30). -/
def burstLimit : Nat := 16384

/-- A content byte received into a burst, unstuffed as it arrives (R197, log 23). -/
def Burst.receive (b : Burst) (x : Byte) : Burst :=
  let b := { b with received := b.received + 1 }
  if b.escaped then
    if x = 0xF5 ∨ x = 0xF6 ∨ x = 0xF7 then
      { b with escaped := false, content := b.content ++ [x - 0x10] }
    else { b with escaped := false, badEscape := true }
  else if x = escapeByte then { b with escaped := true }
  else { b with content := b.content ++ [x] }

/-- A burst under way is cut short: it fails with cause LENGTH (R30). -/
def State.cutBurst (s : State) (l : LinkId) : State :=
  match (s.link l).burst with
  | some b => s.failBurst l b .length
  | none => s

/-- An opening delimiter: a burst under way is cut short, and a new burst opens with its stamp and the seed
held (R25, R30). -/
def State.openBurst (s : State) (l : LinkId) : State :=
  let s := s.cutBurst l
  s.modLink l fun x =>
    { x with burst := some { stamp := s.stamp, seed := x.seed, received := 0, escaped := false,
                             badEscape := false, content := [] } }

/-- A closing delimiter: the burst under way, if there is one, is judged (R30, R31). -/
def State.closeBurst (s : State) (l : LinkId) : State :=
  match (s.link l).burst with
  | some b => s.judgeBurst l b
  | none => s

/-- Any other byte: it enters the burst under way, and the one past the limit makes the burst fail (R30). -/
def State.contentByte (s : State) (l : LinkId) (x : Byte) : State :=
  match (s.link l).burst with
  | some b =>
    if burstLimit < b.received + 1 then s.failBurst l (b.receive x) .length
    else s.modLink l fun y => { y with burst := some (b.receive x) }
  | none => s

/-- One byte on the receive line of an enabled link (R30, R197). -/
def State.linkByte (l : LinkId) (s : State) (x : Byte) : State :=
  if x = openByte then s.openBurst l
  else if x = closeByte then s.closeBurst l
  else s.contentByte l x

/-- Bytes on the receive line of a link; a disabled link ignores them (R26, R30). -/
def State.linkBytes (s : State) (l : LinkId) (bytes : List Byte) : State :=
  if (s.link l).state = .off then s else bytes.foldl (State.linkByte l) s

/-! ## Link loss, disable and reset (R26, R29, R45) -/

/-- Whether a link may send: UP or SILENT (R39). -/
def LinkState.sends : LinkState → Bool
  | .off => false
  | .down => false
  | .up => true
  | .silent => true

/-- The request and the probe of a link that is lost end, and a frame being sent is cut off (R39, R42, R44). -/
def State.loseSlots (s : State) (l : LinkId) : State :=
  ((s.endBackfill l .linkLost).abandonProbe l).modLink l fun x => { x with outbound := none }

/-- Steps 1 to 6 of LINK_RESET (R45), with the link leaving the waiting list (R176). -/
def State.resetLink (s : State) (l : LinkId) : State :=
  let s := (s.leaveWaiting l).modLink l fun x => { x with burst := none, queue := [], blocked := false }
  (s.loseSlots l).modLink l fun x =>
    { x with noActivityDue := none, carrierDue := none, counters := LinkCounters.zero,
             lastFailure := none }

/-- Disabling an enabled link (R26). -/
def State.disableLink (s : State) (l : LinkId) : State :=
  (s.resetLink l).modLink l fun x => { x with state := .off }

/-- The carrier is lost: the link goes DOWN (R29). -/
def State.loseCarrier (s : State) (l : LinkId) : State :=
  let s := s.modLink l fun x =>
    { x with state := .down, noActivityDue := none, carrierDue := none }
  let s := s.loseSlots l
  (s.pushMasked l (s.link l).maskLinkDown (.linkDown .carrier)).raise .link

/-! ## Grants (R39, R40, R43) -/

/-- The identifier after one, cycling 1 to 255 (R40, R43). -/
def nextIdentifier (x : Byte) : Byte := if x = 255 then 1 else x + 1

/-- Whether a station is enabled and bound to a link. -/
def State.served (s : State) (l : LinkId) (i : StationId) : Bool :=
  (s.station i).enabled && s.boundTo l i

/-- The candidate stations of a link for backfill, in ascending number (R40). -/
def State.candidates (s : State) (l : LinkId) : List StationId :=
  allStations.filter fun i =>
    s.served l i && (s.station i).config.backfill && (s.station i).tracker.oldestOpen.isSome

/-- The stations of a link that are due a probe, in ascending number (R43). -/
def State.dueStations (s : State) (l : LinkId) : List StationId :=
  allStations.filter fun i => s.served l i && (s.station i).mark.due

/-- The station granted first: the lowest with no stamp, else the one with the lowest stamp (R40, R43). -/
def leastRecent (stamp : StationId → Option (BitVec 64)) (l : List StationId) : Option StationId :=
  match l.find? fun i => (stamp i).isNone with
  | some i => some i
  | none =>
    l.foldl (fun best i =>
      match best with
      | none => some i
      | some j => if (stamp i).getD 0 < (stamp j).getD 0 then some i else some j) none

/-- Whether a link's outbound line is free and the link may send (R39). -/
def Link.canSend (x : Link) : Bool := x.state.sends && x.outbound.isNone

/-- The station a probe would be granted to now, if any (R43). -/
def State.probeCandidate (s : State) (l : LinkId) : Option StationId :=
  if (s.link l).canSend && (s.link l).probe.isNone then
    leastRecent (fun i => (s.station i).probeStamp) (s.dueStations l)
  else none

/-- The station a backfill request would be granted to now, if any; a probe that can be granted goes first
(R39, R40). -/
def State.backfillCandidate (s : State) (l : LinkId) : Option StationId :=
  if (s.link l).canSend && (s.link l).backfill.isNone && (s.probeCandidate l).isNone then
    leastRecent (fun i => (s.station i).backfillStamp) (s.candidates l)
  else none

/-- The address a station is bound at. -/
def Station.address (x : Station) : Byte :=
  match x.binding with
  | some b => b.address
  | none => 0

/-- A backfill request granted to station i for gap g (R40, steps 1 to 7; R83, R198). -/
def State.grantBackfill (s : State) (l : LinkId) (i : StationId) (g : Gap) : State :=
  let y := s.link l
  let x := s.station i
  let s := s.modLink l fun _ =>
    { y with
      backfill := some { identifier := y.nextRequest, station := i, first := g.first, last := g.last,
                         damage := none, due := s.partTime + x.config.responseTimeout * 1000 }
      outbound := some
        { probe := false
          bytes := stationFrame y.seed x.address 0x21
            (y.nextRequest :: be 2 g.first.toNat ++ be 2 g.last.toNat) }
      nextRequest := nextIdentifier y.nextRequest
      grants := y.grants + 1
      counters := { y.counters with backfillSent := bump y.counters.backfillSent } }
  s.modStation i fun x =>
    { x with
      backfillStamp := some y.grants
      tracker := { x.tracker with gaps := requestOldest y.nextRequest x.tracker.gaps }
      counters := { x.counters with backfillSent := bump x.counters.backfillSent } }

/-- A probe granted to station i, stamped and sent (R43, steps 1 to 7; R95, R198). -/
def State.grantProbe (s : State) (l : LinkId) (i : StationId) : State :=
  let y := s.link l
  let x := s.station i
  let s' := s.modLink l fun _ =>
    { y with
      probe := some { identifier := y.nextProbe, station := i, ts := s.stamp, sentAt := s.partTime,
                      expiry := s.partTime + x.config.maxRtt + 1000, requested := x.mark.requested }
      outbound := some
        { probe := true, bytes := stationFrame y.seed x.address 0x22 [y.nextProbe] }
      nextProbe := nextIdentifier y.nextProbe
      grants := y.grants + 1
      counters := { y.counters with probesSent := bump y.counters.probesSent } }
  s'.modStation i fun x =>
    { x with probeStamp := some y.grants, mark := x.mark.sent x.config.probeInterval s.partTime }

end Sys2Proof.Machine
end

