-- ==== Sys2Proof/Machine/HeadCommands.lean ====
section
/-! DEFINITION. The commands at the head of a link's inbound queue (R37), and the serving of the waiting list
(R169). Each has its effect when the head may be taken and is an entry of its kind. -/

namespace Sys2Proof.Machine

/-! ## DATA entries and record slots (R168, R169) -/

/-- The DATA entry at the head takes a slot and goes to the tracker; completion is evaluated after it (R157,
R168). -/
def State.takeData (s : State) (l : LinkId) (r : Record) : State :=
  let (slot, s) := (s.popHead l).takeSlot r
  (s.track r.station slot r.seq).evalCompletion

/-- The head blocks, and the policy for slots is applied when no slot is FREE (R168). -/
def State.blockHead (s : State) (l : LinkId) : State :=
  let s := ((s.modLink l fun x => { x with blocked := true }).modStore fun t =>
    { t with waiting := t.waiting ++ [l], headBlocks := bump t.headBlocks }).raise .store
  if s.slotsFree = 0 then s.slotPolicy else s

/-- A station's entry is taken, or discarded and counted when the station is disabled (R37). -/
def State.ifEnabled (s : State) (l : LinkId) (i : StationId) (f : State → State) : State :=
  if (s.station i).enabled then f s else (s.popHead l).countDisabled l

/-- The DATA entry at the head asks for a slot (R168). -/
def State.askSlot (s : State) (l : LinkId) (r : Record) : State :=
  if s.store.waiting = [] ∧ s.slotsFree ≠ 0 then s.takeData l r else s.blockHead l

/-- A DATA entry at the head, if one may be taken. -/
def State.headData (s : State) (l : LinkId) : State :=
  match s.head? l with
  | some (.data r) => s.ifEnabled l r.station fun s => s.askSlot l r
  | _ => s

/-- HEAD_DATA (R37, R168). -/
def execHeadData (dt : Nat) (l : LinkId) (s : State) : Host.Outcome State Fault Refusal :=
  s.event dt (State.headData · l)

/-- The link at the head of the waiting list is served: its blocked DATA entry takes the lowest FREE slot
(R169). -/
def State.serveLink (s : State) (l : LinkId) : State :=
  let s := (s.leaveWaiting l).modLink l fun x => { x with blocked := false }
  match (s.link l).queue with
  | .data r :: _ => s.takeData l r
  | _ => s

/-- The waiting list served while a link waits and a slot is FREE, `fuel` links at most (R169). -/
def State.serveWaiting : (fuel : Nat) → State → State
  | 0, s => s
  | fuel + 1, s =>
    match s.store.waiting with
    | [] => s
    | l :: _ => if s.slotsFree = 0 then s else State.serveWaiting fuel (s.serveLink l)

/-- WAITING_LIST_SERVE (R169). -/
def execWaitingListServe (dt : Nat) (s : State) : Host.Outcome State Fault Refusal :=
  s.event dt fun s => s.serveWaiting s.store.waiting.length

/-! ## MARK and ECHO entries -/

/-- A MARK entry at the head, if one may be taken (R90). -/
def State.headMark (s : State) (l : LinkId) : State :=
  match s.head? l with
  | some (.mark i km p sec locked) =>
    s.ifEnabled l i fun s => (s.popHead l).judgeMark i km p sec locked
  | _ => s

/-- HEAD_MARK (R90). -/
def execHeadMark (dt : Nat) (l : LinkId) (s : State) : Host.Outcome State Fault Refusal :=
  s.event dt (State.headMark · l)

/-- An ECHO entry at the head, if one may be taken (R98). -/
def State.headEcho (s : State) (l : LinkId) : State :=
  match s.head? l with
  | some (.echo i kr tau ts ta _) =>
    s.ifEnabled l i fun s => (s.popHead l).judgeEcho i kr tau ts ta
  | _ => s

/-- HEAD_ECHO (R98). -/
def execHeadEcho (dt : Nat) (l : LinkId) (s : State) : Host.Outcome State Fault Refusal :=
  s.event dt (State.headEcho · l)

/-! ## FILL_END entries -/

/-- The ending that a FILL_END status gives (R41). -/
def FillStatus.ending : FillStatus → Ending
  | .complete => .complete
  | .partly => .partly
  | .refused => .refused

/-- Whether a FILL_END matches the request in flight (R41). -/
def BackfillSlot.matched (x : BackfillSlot) (i : StationId) (identifier : Byte) : Bool :=
  decide (x.identifier = identifier) && decide (x.station = i)

/-- A FILL_END of an enabled station ends the matching request, or is stale (R41). -/
def State.fillEnds (s : State) (l : LinkId) (i : StationId) (identifier : Byte) (st : FillStatus) : State :=
  let stale := s.countLink l fun c => { c with staleFillEnds := bump c.staleFillEnds }
  match (s.link l).backfill with
  | some b => if b.matched i identifier then (s.endBackfill l st.ending).evalCompletion else stale
  | none => stale

/-- A FILL_END entry at the head, if one may be taken (R41). -/
def State.headFillEnd (s : State) (l : LinkId) : State :=
  match s.head? l with
  | some (.fillEnd i identifier st) =>
    s.ifEnabled l i fun s => (s.popHead l).fillEnds l i identifier st
  | _ => s

/-- HEAD_FILL_END (R41). -/
def execHeadFillEnd (dt : Nat) (l : LinkId) (s : State) : Host.Outcome State Fault Refusal :=
  s.event dt (State.headFillEnd · l)

/-! ## Control entries -/

/-- The clearing that a RESTART entry makes of a station (R86). -/
def State.restartStation (s : State) (i : StationId) : State :=
  let s := ((s.clearTracking i).invalidateExpectation i).unsetClock i
  ((s.removeExpected (stationBit i)).invalidateReservation i).evalCompletion

/-- A RESTART entry at the head, if one may be taken (R86). -/
def State.headRestart (s : State) (l : LinkId) : State :=
  match s.head? l with
  | some (.restart i) => s.ifEnabled l i fun s => (s.popHead l).restartStation i
  | _ => s

/-- HEAD_RESTART (R86). -/
def execHeadRestart (dt : Nat) (l : LinkId) (s : State) : Host.Outcome State Fault Refusal :=
  s.event dt (State.headRestart · l)

/-- A DAMAGED entry at the head, if one may be taken (R75). -/
def State.headDamaged (s : State) (l : LinkId) : State :=
  match s.head? l with
  | some (.damaged i _ _) => s.ifEnabled l i fun s => ((s.popHead l).giveUp i).evalCompletion
  | _ => s

/-- HEAD_DAMAGED (R75). -/
def execHeadDamaged (dt : Nat) (l : LinkId) (s : State) : Host.Outcome State Fault Refusal :=
  s.event dt (State.headDamaged · l)

/-- The station that a BURST_FAIL entry resolves to (R37). -/
def State.resolve (s : State) (l : LinkId) (address : Option Byte) : Option StationId :=
  match address with
  | some a => s.lookup l a
  | none => none

/-- A BURST_FAIL entry at the head, if one may be taken (R37, R75). -/
def State.headBurstFail (s : State) (l : LinkId) : State :=
  match s.head? l with
  | some (.burstFail address) =>
    match s.resolve l address with
    | some i => ((s.popHead l).giveUp i).evalCompletion
    | none => s.popHead l
  | _ => s

/-- HEAD_BURST_FAIL (R75). -/
def execHeadBurstFail (dt : Nat) (l : LinkId) (s : State) : Host.Outcome State Fault Refusal :=
  s.event dt (State.headBurstFail · l)

/-- A station of link l that holds records has its hold timer started again (R72). -/
def State.refreshHold (l : LinkId) (s : State) (i : StationId) : State :=
  if s.served l i ∧ (s.station i).tracker.hold ≠ [] then s.startHold i else s

/-- A LINK_UP entry at the head, if one may be taken (R72). -/
def State.headLinkUp (s : State) (l : LinkId) : State :=
  match s.head? l with
  | some .linkUp => allStations.foldl (State.refreshHold l) (s.popHead l)
  | _ => s

/-- HEAD_LINK_UP (R72). -/
def execHeadLinkUp (dt : Nat) (l : LinkId) (s : State) : Host.Outcome State Fault Refusal :=
  s.event dt (State.headLinkUp · l)

/-- A LINK_DOWN entry at the head, if one may be taken (R156). -/
def State.headLinkDown (s : State) (l : LinkId) : State :=
  match s.head? l with
  | some (.linkDown _) => ((s.popHead l).removeExpected (setOf (s.boundTo l))).evalCompletion
  | _ => s

/-- HEAD_LINK_DOWN (R156). -/
def execHeadLinkDown (dt : Nat) (l : LinkId) (s : State) : Host.Outcome State Fault Refusal :=
  s.event dt (State.headLinkDown · l)

end Sys2Proof.Machine
end

