-- ==== Sys2Proof/Machine/LinkCommands.lean ====
section
/-! DEFINITION. The commands of the telemetry links that are not at a queue head: bursts, the carrier, the
timeouts, the grants and the outbound line. -/

namespace Sys2Proof.Machine

/-- BURST_OPEN: bytes on a link's receive line, ended by an opening delimiter (R30). -/
def execBurstOpen (dt : Nat) (l : LinkId) (bytes : List Byte) (s : State) :
    Host.Outcome State Fault Refusal :=
  s.event dt fun s => s.linkBytes l (bytes ++ [openByte])

/-- BURST_CLOSE: bytes on a link's receive line, ended by a closing delimiter (R30 to R35). -/
def execBurstClose (dt : Nat) (l : LinkId) (bytes : List Byte) (s : State) :
    Host.Outcome State Fault Refusal :=
  s.event dt fun s => s.linkBytes l (bytes ++ [closeByte])

/-- BURST_BYTE_LIMIT: bytes on a link's receive line, the last of which passes the limit (R30). -/
def execBurstByteLimit (dt : Nat) (l : LinkId) (bytes : List Byte) (s : State) :
    Host.Outcome State Fault Refusal :=
  s.event dt fun s => s.linkBytes l bytes

/-- The carrier-loss timeout started in UP or SILENT (R29). -/
def Link.startCarrier (now : Nat) (x : Link) : Link :=
  if x.state.sends then { x with carrierDue := some (now + x.carrierLoss * 10) } else x

/-- The carrier falls on a link: a burst under way is cut short, and the timeout starts (R26, R29, R30). -/
def State.carrierFalls (s : State) (l : LinkId) (bytes : List Byte) : State :=
  if (s.link l).state = .off then s
  else
    let s := (s.linkBytes l bytes).cutBurst l
    s.modLink l (Link.startCarrier s.partTime)

/-- CARRIER_FALL: bytes on a link's receive line, and then the fall of carrier detect (R29, R30). -/
def execCarrierFall (dt : Nat) (l : LinkId) (bytes : List Byte) (s : State) :
    Host.Outcome State Fault Refusal :=
  s.event dt fun s => s.carrierFalls l bytes

/-- CARRIER_RISE: a running carrier-loss timeout is stopped (R29). -/
def execCarrierRise (dt : Nat) (l : LinkId) (s : State) : Host.Outcome State Fault Refusal :=
  s.event dt fun s => s.modLink l fun x => { x with carrierDue := none }

/-- The carrier-loss timeout runs out in UP or SILENT (R29). -/
def State.carrierOut (s : State) (l : LinkId) : State :=
  if (s.link l).state.sends ∧ s.isDue (s.link l).carrierDue then s.loseCarrier l else s

/-- CARRIER_LOSS_TIMEOUT (R29). -/
def execCarrierLossTimeout (dt : Nat) (l : LinkId) (s : State) : Host.Outcome State Fault Refusal :=
  s.event dt (State.carrierOut · l)

/-- The no-activity timeout runs out in UP (R28). -/
def State.fallSilent (s : State) (l : LinkId) : State :=
  if (s.link l).state = .up ∧ s.isDue (s.link l).noActivityDue then
    let s := s.modLink l fun x => { x with state := .silent, noActivityDue := none }
    (s.pushMasked l (s.link l).maskLinkDown (.linkDown .silent)).raise .link
  else s

/-- NO_ACTIVITY_TIMEOUT (R28). -/
def execNoActivityTimeout (dt : Nat) (l : LinkId) (s : State) : Host.Outcome State Fault Refusal :=
  s.event dt (State.fallSilent · l)

/-- OUTBOUND_FRAME_DONE: the outbound line becomes free (R39). -/
def execOutboundFrameDone (dt : Nat) (l : LinkId) (s : State) : Host.Outcome State Fault Refusal :=
  s.event dt fun s => s.modLink l fun x => { x with outbound := none }

/-- A backfill request granted when one can be (R40). -/
def State.tryBackfill (s : State) (l : LinkId) : State :=
  match s.backfillCandidate l with
  | none => s
  | some i =>
    match (s.station i).tracker.oldestOpen with
    | some g => s.grantBackfill l i g
    | none => s

/-- BACKFILL_GRANT (R40). -/
def execBackfillGrant (dt : Nat) (l : LinkId) (s : State) : Host.Outcome State Fault Refusal :=
  s.event dt (State.tryBackfill · l)

/-- A probe granted when one can be (R43). -/
def State.tryProbe (s : State) (l : LinkId) : State :=
  match s.probeCandidate l with
  | some i => s.grantProbe l i
  | none => s

/-- PROBE_GRANT (R43). -/
def execProbeGrant (dt : Nat) (l : LinkId) (s : State) : Host.Outcome State Fault Refusal :=
  s.event dt (State.tryProbe · l)

/-- The response timeout of the request in flight runs out (R42). -/
def State.responseTimesOut (s : State) (l : LinkId) : State :=
  match (s.link l).backfill with
  | none => s
  | some b =>
    if s.isDue (some b.due) then
      ((s.countLink l fun c => { c with responseTimeouts := bump c.responseTimeouts }).endBackfill l
        .timeout).evalCompletion
    else s

/-- BACKFILL_RESPONSE_TIMEOUT (R42). -/
def execBackfillResponseTimeout (dt : Nat) (l : LinkId) (s : State) : Host.Outcome State Fault Refusal :=
  s.event dt (State.responseTimesOut · l)

/-- The expiry of the probe in flight runs out (R44). -/
def State.probeExpires (s : State) (l : LinkId) : State :=
  match (s.link l).probe with
  | none => s
  | some x =>
    if s.isDue (some x.expiry) then
      (s.countLink l fun c => { c with probeExpiries := bump c.probeExpiries }).abandonProbe l
    else s

/-- PROBE_EXPIRY (R44). -/
def execProbeExpiry (dt : Nat) (l : LinkId) (s : State) : Host.Outcome State Fault Refusal :=
  s.event dt (State.probeExpires · l)

end Sys2Proof.Machine
end

