-- ==== Sys2Proof/Machine/TimebaseUnit.lean ====
section
/-! DEFINITION. The network time base (chapter 1): messages and pulses of the references, the pulse windows,
selection, and the stepping of hub time. -/

namespace Sys2Proof.Machine

/-- Changes one reference. -/
def State.modRef (s : State) (r : RefId) (f : Reference → Reference) : State :=
  s.modTimebase fun t => t.setRef r (f (t.ref r))

/-- The hub enters a state: a change raises REFERENCE and abandons every probe in flight (R6, R44). -/
def State.setHubState (s : State) (h : HubState) : State :=
  if s.timebase.hubState = h then s
  else ((s.modTimebase fun t => { t with hubState := h }).raise .reference).abandonProbes

/-- A REFERENCED hub enters HOLDOVER (R6). -/
def State.enterHoldover (s : State) : State :=
  if s.timebase.hubState = .referenced then s.setHubState .holdover else s

/-- The selection becomes another one, which raises REFERENCE (R14). -/
def State.setSelection (s : State) (x : Option RefId) : State :=
  if s.timebase.selection = x then s
  else (s.modTimebase fun t => { t with selection := x }).raise .reference

/-- A reference state in which a run is under way (R9). -/
def RefState.running : RefState → Bool
  | .off => false
  | .absent => false
  | .stabilizing => true
  | .usable => true
  | .fault => false

/-- A time message on an enabled reference (R8). `intact` says that its check passes and that it was not cut
short; `locked` is the receiver's lock flag. -/
def Reference.message (intact locked : Bool) (second : Nat) (x : Reference) : Reference :=
  if x.state = .off then x
  else if intact && locked then { x with pendingSecond := some second }
  else { x with badMessages := bump x.badMessages }

/-- The interval a good pulse keeps from the last one, in ns (R9). -/
def goodInterval (ns : Nat) : Bool := decide (999900000 ≤ ns) && decide (ns ≤ 1000100000)

/-- Whether a pulse taken in a run at oscillator time `now` is good (R9, step 1). -/
def Reference.good (x : Reference) (now : Nat) : Bool :=
  match x.pendingSecond, x.lastGood with
  | some s, some g => decide (s = g + 1) && goodInterval (now - x.lastPulse)
  | _, _ => false

/-- The saturation of a run count (R11). -/
def runMax : Nat := 64

/-- A run ended: count 0 and no stages, in the state given. -/
def Reference.endRun (x : Reference) (st : RefState) : Reference :=
  { x with state := st, run := 0, stages := 0 }

/-- A pulse with a pending second starts a run; one without leaves the state (R10). -/
def Reference.startRun (x : Reference) : Reference :=
  match x.pendingSecond with
  | some s => { x with state := .stabilizing, run := 1, stages := 0, lastGood := some s }
  | none => x

/-- A good pulse raises the run, and the count against the depth sets the state (R11). -/
def Reference.advanceRun (x : Reference) : Reference :=
  let run := min (x.run + 1) runMax
  { x with
    run := run, stages := x.stages ||| runStage run, lastGood := x.pendingSecond
    state := if x.depth ≤ run then .usable else .stabilizing }

/-- A bad pulse in a run (R11). -/
def Reference.breakRun (x : Reference) : Reference :=
  match x.state with
  | .usable => { x.endRun .fault with faults := bump x.faults }
  | _ =>
    match x.pendingSecond with
    | some _ => x.startRun
    | none => x.endRun .absent

/-- The change of run and state by a pulse at oscillator time `now`, with its count (R9 steps 1, 4 and 5). -/
def Reference.judgePulse (now : Nat) (x : Reference) : Reference :=
  if x.state.running then
    if x.good now then { x.advanceRun with goodPulses := bump x.goodPulses }
    else { x.breakRun with badPulses := bump x.badPulses }
  else
    match x.pendingSecond with
    | some _ => { x.startRun with goodPulses := bump x.goodPulses }
    | none => { x with badPulses := bump x.badPulses }

/-- The pulse window in ms (R9). -/
def pulseWindow : Nat := 1500

/-- A pulse taken on an enabled reference at oscillator time `now` and part time `ms` (R9). -/
def Reference.pulse (now ms : Nat) (x : Reference) : Reference :=
  let y := x.judgePulse now
  { y with
    lastPulse := now, pendingSecond := none
    window := if y.state.running then some (ms + pulseWindow) else none }

/-- The pulse window of a reference runs out (R12). -/
def Reference.windowOut (x : Reference) : Reference :=
  match x.state with
  | .stabilizing =>
    { x.endRun .absent with missedPulses := bump x.missedPulses, window := none }
  | .usable =>
    { x.endRun .fault with missedPulses := bump x.missedPulses, faults := bump x.faults, window := none }
  | .off => { x with window := none }
  | .absent => { x with window := none }
  | .fault => { x with window := none }

/-- Whether the selection is NONE or names a reference that is not USABLE (R15). -/
def Timebase.unserved (t : Timebase) : Bool :=
  match t.selection with
  | none => true
  | some r => decide ((t.ref r).state ≠ .usable)

/-- The selected reference has left USABLE: the other is selected, or the hub holds over (R16). -/
def State.fallback (s : State) (r : RefId) : State :=
  if (s.timebase.ref (otherRef r)).state = .usable then s.setSelection (some (otherRef r))
  else s.enterHoldover

/-- What a change of a reference's state brings with it: REFERENCE on entering USABLE or FAULT (R19),
auto-selection (R15), and fallback of the selected reference (R16). `before` is its state before. -/
def State.afterRef (s : State) (r : RefId) (before : RefState) : State :=
  let now := (s.timebase.ref r).state
  let s := s.raiseIf (decide (now ≠ before) && (decide (now = .usable) || decide (now = .fault))) .reference
  if before = .usable ∧ now ≠ .usable ∧ s.timebase.selection = some r then s.fallback r
  else if before ≠ .usable ∧ now = .usable ∧ s.timebase.autoSelect ∧ s.timebase.unserved then
    s.setSelection (some r)
  else s

/-- Hub time stepped to the start of second S by a good pulse (R17), with the deadlines it passes (R158). -/
def State.stepHub (s : State) (second : Nat) : State :=
  let target : Int := (second : Int) * nsPerSecond
  let step := target - s.timebase.hubTime
  let s := match s.timebase.hubState with
    | .unset => s.modTimebase fun t => { t with hubTime := target, lastStep := 0 }
    | .holdover => s.modTimebase fun t => { t with hubTime := target, lastStep := step }
    | .referenced =>
      let large := decide (s.timebase.stepLimit < step.natAbs)
      (s.modTimebase fun t =>
        { t with hubTime := target, lastStep := step
                 largeSteps := if large then bump t.largeSteps else t.largeSteps }).raiseIf large
        .reference
  (s.setHubState .referenced).closeDeadlines

/-- A pulse on an enabled reference (R9 to R11, R15 to R17). A good pulse that makes the selected reference USABLE again
steps the hub itself, as R17 has it, where R16 speaks of its next good pulse (DEDUCED, log 44). -/
def State.pulse (s : State) (r : RefId) : State :=
  let x := s.timebase.ref r
  if x.state = .off then s
  else
    let now := s.timebase.oscNs
    let ms := s.partTime
    let s := (s.modRef r fun y => y.pulse now ms).afterRef r x.state
    match x.pendingSecond with
    | some second =>
      if x.state.running && x.good now && decide (s.timebase.selection = some r) &&
          decide ((s.timebase.ref r).state = .usable) then s.stepHub second
      else s
    | none => s

/-- A pulse window that is due runs out (R12). -/
def State.windowExpiry (s : State) (r : RefId) : State :=
  let x := s.timebase.ref r
  if s.isDue x.window then (s.modRef r Reference.windowOut).afterRef r x.state else s

/-- The check of the selection when auto-select is turned on (R18). -/
def State.checkSelection (s : State) : State :=
  if s.timebase.unserved then
    if s.timebase.refA.state = .usable then s.setSelection (some .refA)
    else if s.timebase.refB.state = .usable then s.setSelection (some .refB)
    else s
  else s

end Sys2Proof.Machine
end

