-- ==== Sys2Proof/Machine/Replies.lean ====
section
/-! DEFINITION. What every request shares: the result codes, an answer as the state after the request with the
body of its reply, the test of a request's station or link number, and the byte forms of sets and switches. -/

namespace Sys2Proof.Machine

/-- The result codes (chapter 11). -/
inductive Result where
  | ok
  | already
  | unknownKind
  | badLength
  | badValue
  | notPermitted
  | notEnabled
  | notBound
  | inUse
  | notReady
  | alreadySet
  | noGrid
  | noEpoch
  | notClosed
  | noEntry
  | duplicateBinding
  | linkDown
  deriving DecidableEq, Repr

/-- The byte of a result code (chapter 11). -/
def Result.code : Result → Byte
  | .ok => 0
  | .already => 1
  | .unknownKind => 2
  | .badLength => 3
  | .badValue => 4
  | .notPermitted => 5
  | .notEnabled => 6
  | .notBound => 7
  | .inUse => 8
  | .notReady => 9
  | .alreadySet => 10
  | .noGrid => 11
  | .noEpoch => 12
  | .notClosed => 13
  | .noEntry => 14
  | .duplicateBinding => 15
  | .linkDown => 16

/-- The outcome of a request: the state after it, and the body of its reply (R183). -/
abbrev Answer := State × List Byte

/-- An answer with OK and the fields that follow the result code (R196). -/
def State.ok (s : State) (fields : List Byte) : Answer := (s, Result.ok.code :: fields)

/-- An answer that changes nothing and carries a result code alone (R196). -/
def State.refuse (s : State) (r : Result) : Answer := (s, [r.code])

/-- An answer to a request that names a station: BAD_VALUE above 47 (R48, R195). -/
def State.onStation (s : State) (b : Byte) (f : StationId → Answer) : Answer :=
  match stationOf b with
  | some i => f i
  | none => s.refuse .badValue

/-- An answer to a request that names a link: BAD_VALUE above 5 (R195). -/
def State.onLink (s : State) (b : Byte) (f : LinkId → Answer) : Answer :=
  match linkOf b with
  | some l => f l
  | none => s.refuse .badValue

/-- An answer to a request with a clear flag: BAD_VALUE for a flag other than 0 or 1 (R195). -/
def State.onClear (s : State) (c : Option Byte) (f : Bool → Answer) : Answer :=
  match clearOf c with
  | some b => f b
  | none => s.refuse .badValue

/-- An answer to a request that needs the grid: NO_GRID while it is unset. -/
def State.onGrid (s : State) (f : Grid → Answer) : Answer :=
  match s.timebase.grid with
  | some g => f g
  | none => s.refuse .noGrid

/-- A set of stations as six bytes, station s being bit s mod 8 of byte s / 8 (chapter 11, Encoding). -/
def setBytes (x : StationSet) : List Byte :=
  [x.extractLsb' 0 8, x.extractLsb' 8 8, x.extractLsb' 16 8, x.extractLsb' 24 8, x.extractLsb' 32 8,
   x.extractLsb' 40 8]

/-- A station number as a byte. -/
def stationByte (i : StationId) : Byte := BitVec.ofNat 8 i.val

/-- A link number as a byte. -/
def linkByte (l : LinkId) : Byte := BitVec.ofNat 8 l.val

end Sys2Proof.Machine
end

