-- ==== Sys2Proof/Machine/EpochRequests.lean ====
section
/-! DEFINITION. The requests of the epoch assembler (chapter 8): EPOCH_LIST, EPOCH_SUMMARY, CONTRIB_FETCH,
EPOCH_RELEASE and SUBSCRIBE. -/

namespace Sys2Proof.Machine

/-- The epoch of the table that a request's number names; the number is signed (chapter 11, Encoding). -/
def State.epochNamed (s : State) (n : BitVec 64) : Option Epoch :=
  s.assembler.table.find? fun e => decide ((e.number : Int) = n.toInt)

/-- An answer to a request that names an epoch: NO_EPOCH when it is not in the table. -/
def State.onEpoch (s : State) (n : BitVec 64) (f : Epoch → Answer) : Answer :=
  match s.epochNamed n with
  | some e => f e
  | none => s.refuse .noEpoch

/-! ## Reading the table (R164 to R166) -/

/-- One epoch in EPOCH_LIST: number, state, cause, amended, late count, needed, released (R164). -/
def Epoch.listed (e : Epoch) : List Byte :=
  be 8 e.number ++ e.state.code :: e.state.cause :: boolByte e.amended :: (be 2 e.late ++
    [e.needed.byte, e.released.byte])

/-- The report of EPOCH_LIST (R164). -/
def State.epochReport (s : State) : List Byte :=
  let a := s.assembler
  optional 8 (a.freedMark.map (be 8)) ++ optional 8 (s.hubEpoch.map (beInt 8)) ++
    boolByte s.mp0.subscribed :: boolByte s.mp1.subscribed :: (be 4 a.created ++ be 4 a.closedComplete ++
      be 4 a.closedDeadline ++ be 4 a.evictions ++ be 4 a.freed ++ be 1 a.table.length ++
      a.table.flatMap Epoch.listed)

/-- The five assembler counters set to 0 (R164). -/
def Assembler.clearCounters (a : Assembler) : Assembler :=
  { a with created := 0, closedComplete := 0, closedDeadline := 0, evictions := 0, freed := 0 }

/-- EPOCH_LIST (R164). The grid is tested before the clear flag (log 18). -/
def State.answerEpochList (clear : Option Byte) (s : State) : Answer :=
  s.onGrid fun _ => s.onClear clear fun c =>
    (if c then s.modAssembler Assembler.clearCounters else s).ok s.epochReport

/-- The report of EPOCH_SUMMARY (R165). -/
def Epoch.report (g : Grid) (e : Epoch) : List Byte :=
  be 8 e.number ++ beInt 8 (g.epochStart e.number) ++ beInt 8 (g.epochEnd e.number) ++
    beInt 8 (g.deadline e.number) ++ e.state.code :: e.state.cause :: boolByte e.amended ::
    (be 2 e.late ++ setBytes e.expected ++ setBytes e.present ++ e.needed.byte :: e.released.byte ::
      (allStations.filter (inSet e.present)).flatMap fun i => be 2 (e.list i).length)

/-- EPOCH_SUMMARY (R165). -/
def State.answerEpochSummary (n : BitVec 64) (s : State) : Answer :=
  s.onGrid fun g => s.onEpoch n fun e => s.ok (e.report g)

/-- A contribution with the stored record it refers to, as CONTRIB_FETCH carries them (R166). -/
def Contribution.report (c : Contribution) (x : Slot) : List Byte :=
  stationByte c.station :: (be 2 c.slot ++ be 2 c.i0 ++ be 2 c.count ++ beInt 8 c.offset ++
    beInt 8 c.start ++ be 2 c.n ++ beInt 4 c.rho ++ c.quality.code :: c.flags ::
    (be 2 x.record.seq.toNat ++ be 5 x.record.kFirst.toNat ++ be 1 x.record.components ++
      (match x.timing with
        | some t => t.path.code
        | none => 0) :: x.record.payload))

/-- CONTRIB_FETCH (R166). A contribution always names a slot that holds a record (R167); were there none, the
answer would be NO_ENTRY (log 33). -/
def State.answerContribFetch (n : BitVec 64) (station : Byte) (position : BitVec 16) (s : State) : Answer :=
  s.onGrid fun _ => s.onStation station fun i => s.onEpoch n fun e =>
    match (e.list i)[position.toNat]? with
    | none => s.refuse .noEntry
    | some c =>
      match s.slot? c.slot with
      | some x => s.ok (c.report x)
      | none => s.refuse .noEntry

/-! ## Release and subscription (R162, R163) -/

/-- EPOCH_RELEASE (R162). -/
def State.answerEpochRelease (p : PortId) (n : BitVec 64) (s : State) : Answer :=
  s.onGrid fun _ => s.onEpoch n fun e =>
    if e.isClosed = false then s.refuse .notClosed
    else if e.released.has p then s.refuse .already
    else
      let s := s.modEpoch e.number fun x => { x with released := x.released.add p }
      if e.needed.within (e.released.add p) then (s.freeEpoch e.number).ok [1] else s.ok [0]

/-- The number of epochs that an unsubscribe frees (R163). -/
def State.releasable (s : State) : Nat := s.assembler.table.countP fun e => e.isClosed && e.fullyReleased

/-- A port's subscription flag turned off: it is needed no more, and the epochs released by all that are
needed are freed (R163). -/
def State.unsubscribe (p : PortId) (s : State) : Answer :=
  let s := (s.modPort p fun x => { x with subscribed := false }).modAssembler fun a =>
    { a with table := a.table.map fun e => { e with needed := e.needed.remove p } }
  s.freeReleased.ok (0 :: be 1 s.releasable)

/-- SUBSCRIBE (R163). -/
def State.answerSubscribe (p : PortId) (switch : Byte) (s : State) : Answer :=
  match switchOf switch with
  | none => s.refuse .badValue
  | some on =>
    if on = (s.port p).subscribed then s.refuse .already
    else if on then (s.modPort p fun x => { x with subscribed := true }).ok [1, 0]
    else s.unsubscribe p

end Sys2Proof.Machine
end

