-- ==== Sys2Proof/Machine/LinkRequests.lean ====
section
/-! DEFINITION. The requests of the station telemetry links (chapter 2): LINK_CONFIG, LINK_STATUS and
LINK_RESET. -/

namespace Sys2Proof.Machine

/-- The LINK_CONFIG fields of a reply: enable, state, seed, no-activity, carrier-loss, asymmetry, mask. -/
def Link.configFields (x : Link) : List Byte :=
  boolByte (decide (x.state ≠ .off)) :: x.state.code :: (be 2 x.seed.toNat ++ be 1 x.noActivity ++
    be 1 x.carrierLoss ++ beInt 4 x.asymmetry ++
      [boolByte x.maskBurstFail, boolByte x.maskLinkDown, boolByte x.maskLinkUp])

/-- Whether a switch of a carried control mask is neither ON nor OFF (R25). -/
def badMask (m : Option MaskFields) : Bool :=
  match m with
  | some m => (switchOf m.burstFail).isNone || (switchOf m.linkDown).isNone || (switchOf m.linkUp).isNone
  | none => false

/-- The limit of the asymmetry correction in ns (R25). -/
def asymmetryLimit : Int := 1000000

/-- The parameters carried, clamped, written to a link (R25). The two times are read as unsigned numbers (DEDUCED,
log 45). -/
def Link.putParameters (f : LinkFields) (x : Link) : Link :=
  { x with
    seed := f.seed.getD x.seed
    noActivity := match f.noActivity with
      | some v => clampNat 1 255 v.toNat
      | none => x.noActivity
    carrierLoss := match f.carrierLoss with
      | some v => clampNat 1 255 v.toNat
      | none => x.carrierLoss
    asymmetry := match f.asymmetry with
      | some v => clampInt (-asymmetryLimit) asymmetryLimit v.toInt
      | none => x.asymmetry
    maskBurstFail := match f.mask with
      | some m => decide (m.burstFail = 1)
      | none => x.maskBurstFail
    maskLinkDown := match f.mask with
      | some m => decide (m.linkDown = 1)
      | none => x.maskLinkDown
    maskLinkUp := match f.mask with
      | some m => decide (m.linkUp = 1)
      | none => x.maskLinkUp }

/-- A disabled link enabled in DOWN with both timeouts stopped (R25). -/
def State.enableLink (s : State) (l : LinkId) : State :=
  s.modLink l fun x => { x with state := .down, noActivityDue := none, carrierDue := none }

/-- The enable setting of LINK_CONFIG (R25, R26). -/
def State.switchLink (s : State) (l : LinkId) (on : Bool) : State :=
  if (s.link l).state = .off then if on then s.enableLink l else s
  else if on then s else s.disableLink l

/-- LINK_CONFIG (R25, R194). -/
def State.answerLinkConfig (link enable : Byte) (f : LinkFields) (s : State) : Answer :=
  s.onLink link fun l =>
    match switchOf enable with
    | none => s.refuse .badValue
    | some on =>
      if f.reserved ≠ 0 ∨ badMask f.mask then s.refuse .badValue
      else
        let s := (s.modLink l (Link.putParameters f)).switchLink l on
        s.ok (s.link l).configFields

/-- The backfill slot as a field of LINK_STATUS. -/
def BackfillSlot.fields (x : BackfillSlot) : List Byte :=
  x.identifier :: stationByte x.station :: (be 2 x.first.toNat ++ be 2 x.last.toNat ++
    damageCode x.damage :: be 8 x.due)

/-- The probe slot as a field of LINK_STATUS. -/
def ProbeSlot.fields (x : ProbeSlot) : List Byte :=
  x.identifier :: stationByte x.station :: (beInt 8 x.ts.time ++ x.ts.hub.code :: be 8 x.expiry)

/-- The thirteen link counters in the order of the table of R46. -/
def LinkCounters.fields (c : LinkCounters) : List Byte :=
  be 4 c.goodBursts ++ be 4 c.checkFailures ++ be 4 c.unboundBursts ++ be 4 c.damagedEntries ++
  be 4 c.queueOverruns ++ be 4 c.controlLost ++ be 4 c.disabledEntries ++ be 4 c.staleFillEnds ++
  be 4 c.responseTimeouts ++ be 4 c.backfillSent ++ be 4 c.probesSent ++ be 4 c.staleEchoes ++
  be 4 c.probeExpiries

/-- The report of LINK_STATUS (R46). -/
def Link.report (x : Link) : List Byte :=
  x.configFields ++ be 1 x.queue.length ++ boolByte x.blocked ::
    (optional 15 (x.backfill.map BackfillSlot.fields) ++ optional 19 (x.probe.map ProbeSlot.fields) ++
      x.nextRequest :: x.nextProbe :: failureCode x.lastFailure :: x.counters.fields)

/-- LINK_STATUS (R46). -/
def State.answerLinkStatus (link : Byte) (clear : Option Byte) (s : State) : Answer :=
  s.onLink link fun l => s.onClear clear fun c =>
    (if c then s.modLink l fun x => { x with counters := LinkCounters.zero, lastFailure := none }
     else s).ok (s.link l).report

/-- Step 7 of LINK_RESET: an enabled link goes DOWN, and a link that was UP or SILENT queues LINK_DOWN with
cause RESET and raises LINK when its mask passes it (R45, log 19). -/
def State.downAfterReset (s : State) (l : LinkId) (before : LinkState) : State :=
  if before = .off then s
  else
    let s := s.modLink l fun x => { x with state := .down }
    if before.sends && (s.link l).maskLinkDown then (s.pushControl l (.linkDown .reset)).raise .link
    else s

/-- LINK_RESET (R45). -/
def State.answerLinkReset (link : Byte) (s : State) : Answer :=
  s.onLink link fun l =>
    let s := (s.resetLink l).downAfterReset l (s.link l).state
    s.ok [(s.link l).state.code]

end Sys2Proof.Machine
end

