-- ==== Sys2Proof/Machine/PortRequests.lean ====
section
/-! DEFINITION. The requests that the message ports answer themselves (chapter 10): PART_INFO, PART_RESET,
NOTICE_MASK, NOTICE_POLL, FAULT_READ and FAULT_CLEAR. -/

namespace Sys2Proof.Machine

/-! ## PART_INFO (R178, R193) -/

/-- "Gorel" in ASCII, padded with spaces to eight bytes (R193, chapter 11; log 29). -/
def familyName : List Byte := [0x47, 0x6F, 0x72, 0x65, 0x6C, 0x20, 0x20, 0x20]

/-- "GT-48" in ASCII, padded with spaces to eight bytes. -/
def partName : List Byte := [0x47, 0x54, 0x2D, 0x34, 0x38, 0x20, 0x20, 0x20]

/-- The identity and the capacities of PART_INFO (R193). -/
def identity : List Byte :=
  familyName ++ partName ++ Config.revision :: (be 1 48 ++ be 1 6 ++ be 1 16 ++ be 2 4096 ++
    be 2 16384 ++ be 1 4 ++ be 2 1024)

/-- A port in PART_INFO: role, notice mask, subscription, five frame counters (R193). -/
def Port.report (p : Port) : List Byte :=
  p.role.code :: p.mask :: boolByte p.subscribed :: (be 4 p.accepted ++ be 4 p.badFrames ++
    be 4 p.lostRequests ++ be 4 p.repliesSent ++ be 4 p.noticesSent)

/-- The number of HELD slots: in use, with no reference (R167). -/
def Store.held (t : Store) : Nat := t.slots.countP fun x => decide (x.refs = 0)

/-- The number of PLACED slots (R167). -/
def Store.placed (t : Store) : Nat := t.slots.countP fun x => decide (x.refs ≠ 0)

/-- The waiting links in their order, six bytes, 0xFF after the last (R178, R196). -/
def waitingBytes (l : List LinkId) : List Byte :=
  (l.map linkByte ++ List.replicate 6 0xFF).take 6

/-- The record store's part of PART_INFO (R178). -/
def State.storeReport (s : State) : List Byte :=
  let t := s.store
  be 2 s.slotsFree ++ be 2 t.held ++ be 2 t.placed ++ be 2 t.peakSlots ++ be 2 t.poolFree ++
    be 2 t.peakEntries ++ be 1 t.waiting.length ++ waitingBytes t.waiting ++ be 4 t.headBlocks ++
    be 4 t.forcedFrees ++ be 4 t.poolShortages ++ be 4 s.mp0.forcedFrees ++ be 4 s.mp1.forcedFrees

/-- The report of PART_INFO (R193). -/
def State.partReport (s : State) : List Byte :=
  identity ++ be 8 s.partTime ++ s.mp0.report ++ s.mp1.report ++ be 1 s.faultCount ++ s.storeReport

/-- A port's frame counters and forced-free count set to 0 (R178, R193). -/
def Port.clearCounters (p : Port) : Port :=
  { p with accepted := 0, badFrames := 0, lostRequests := 0, repliesSent := 0, noticesSent := 0,
           forcedFrees := 0 }

/-- The clearing that PART_INFO asks for: each peak becomes the present number in use (R178, R193). -/
def State.clearPart (s : State) : State :=
  { s with
    mp0 := s.mp0.clearCounters
    mp1 := s.mp1.clearCounters
    store := { s.store with
      headBlocks := 0, forcedFrees := 0, poolShortages := 0
      peakSlots := s.slotsInUse, peakEntries := s.entriesInUse } }

/-- PART_INFO (R193). -/
def State.answerPartInfo (clear : Option Byte) (s : State) : Answer :=
  s.onClear clear fun c => (if c then s.clearPart else s).ok s.partReport

/-- PART_RESET on a control port: the reset waits for the end of its reply (R191). -/
def State.answerPartReset (s : State) : Answer := s.ok []

/-! ## Notices (R186, R187) -/

/-- The eight switches of NOTICE_MASK as a notice set, if each is ON or OFF (R186). -/
def maskOf (m : KindSwitches) : Option (BitVec 8) := do
  let e ← switchOf m.epoch
  let st ← switchOf m.station
  let g ← switchOf m.gap
  let l ← switchOf m.link
  let r ← switchOf m.reference
  let so ← switchOf m.store
  let f ← switchOf m.fault
  let p ← switchOf m.probe
  pure ((if e then NoticeKind.epoch.bit else 0) ||| (if st then NoticeKind.station.bit else 0) |||
    (if g then NoticeKind.gap.bit else 0) ||| (if l then NoticeKind.link.bit else 0) |||
    (if r then NoticeKind.reference.bit else 0) ||| (if so then NoticeKind.store.bit else 0) |||
    (if f then NoticeKind.fault.bit else 0) ||| (if p then NoticeKind.probe.bit else 0))

/-- NOTICE_MASK (R186). -/
def State.answerNoticeMask (p : PortId) (m : KindSwitches) (s : State) : Answer :=
  match maskOf m with
  | none => s.refuse .badValue
  | some mask =>
    (s.modPort p fun x => { x with mask := mask, notices := x.notices &&& mask }).ok
      [mask, (s.port p).notices &&& mask]

/-- NOTICE_POLL (R187). -/
def State.answerNoticePoll (p : PortId) (s : State) : Answer :=
  (s.modPort p fun x => { x with notices := 0 }).ok [(s.port p).notices]

/-! ## The fault record (R189, R190) -/

/-- The fault record as the fields port, kind, and the station if the request named one. -/
def FaultRecord.fields (x : FaultRecord) : List Byte :=
  PortId.code x.port :: x.kind :: optional 1 (x.station.map fun b => [b])

/-- The fault record and the fault count as they stand (R190). -/
def State.faultReport (s : State) : List Byte :=
  optional 4 (s.faultRecord.map FaultRecord.fields) ++ be 1 s.faultCount

/-- FAULT_READ (R190). -/
def State.answerFaultRead (s : State) : Answer := s.ok s.faultReport

/-- FAULT_CLEAR (R190). -/
def State.answerFaultClear (s : State) : Answer :=
  ({ s with faultRecord := none, faultCount := 0 } : State).ok s.faultReport

end Sys2Proof.Machine
end

