-- ==== Sys2Proof/Machine/StationTable.lean ====
section
/-! DEFINITION. The requests of the station table (chapter 3) and PROBE_NOW (chapter 5). -/

namespace Sys2Proof.Machine

/-! ## Binding, enabling, disabling -/

/-- A binding as the fields link, address, rate, components, P. -/
def Binding.fields (b : Binding) : List Byte :=
  linkByte b.link :: b.address :: (be 1 b.rate.hz ++ be 1 b.components ++ be 4 b.rate.period)

/-- The binding that the values of STATION_BIND give, if each is allowed (R49). -/
def makeBinding (link address rate components : Byte) : Option Binding :=
  match linkOf link, rateOf rate with
  | some l, some r =>
    if 1 ≤ components.toNat ∧ components.toNat ≤ 3 then
      some { link := l, address := address, rate := r, components := components.toNat }
    else none
  | _, _ => none

/-- STATION_BIND (R49). -/
def State.answerStationBind (station link address rate components : Byte) (s : State) : Answer :=
  s.onStation station fun i =>
    if (s.station i).enabled then s.refuse .inUse
    else
      match makeBinding link address rate components with
      | none => s.refuse .badValue
      | some b =>
        (s.modStation i fun x =>
          { x with binding := some b, backfillStamp := none, probeStamp := none }).ok b.fields

/-- The enabled station other than i that holds a binding's link and address, if there is one (R50). -/
def State.holder (s : State) (i : StationId) (b : Binding) : Option StationId :=
  allStations.find? fun j =>
    decide (j ≠ i) && (s.station j).enabled &&
      match (s.station j).binding with
      | some c => decide (c.link = b.link) && decide (c.address = b.address)
      | none => false

/-- A station's values on enabling (R50). -/
def Station.enable (x : Station) : Station :=
  { x with
    enabled := true, config := StationConfig.initial, tracker := Tracker.initial,
    clock := Clock.initial, expectation := none, mark := MarkUnit.initial }

/-- STATION_ENABLE (R50). -/
def State.answerStationEnable (station : Byte) (s : State) : Answer :=
  s.onStation station fun i =>
    if (s.station i).enabled then s.refuse .already
    else
      match (s.station i).binding with
      | none => s.refuse .notBound
      | some b =>
        match s.holder i b with
        | some j => (s, [Result.duplicateBinding.code, stationByte j])
        | none => (s.modStation i Station.enable).ok []

/-- A link whose blocked head is a DATA entry of station i drops that entry and leaves the waiting list (R53,
R176). -/
def State.dropBlockedHead (i : StationId) (s : State) (l : LinkId) : State :=
  if (s.link l).blocked then
    match (s.link l).queue with
    | .data r :: _ =>
      if r.station = i then
        ((s.popHead l).countDisabled l |>.modLink l fun x => { x with blocked := false }).leaveWaiting l
      else s
    | _ => s
  else s

/-- A station's enable, expectation, mark unit and configuration returned to reset (R52, steps 1, 3, 5, 8). -/
def Station.disable (x : Station) : Station :=
  { x with enabled := false, expectation := none, mark := MarkUnit.initial, config := StationConfig.initial }

/-- The disabling of an enabled station (R52, R53). -/
def State.disableStation (s : State) (i : StationId) : State :=
  let s := ((s.modStation i Station.disable).clearTracking i).unsetClock i
  let s := (s.removeExpected (stationBit i)).invalidateReservation i
  (allLinks.foldl (State.dropBlockedHead i) s).evalCompletion

/-- STATION_DISABLE (R52). -/
def State.answerStationDisable (station : Byte) (s : State) : Answer :=
  s.onStation station fun i =>
    if (s.station i).enabled then (s.disableStation i).ok [] else s.refuse .already

/-! ## Configuration (R55 to R57) -/

/-- A mark source by its code. -/
def sourceOf (b : Byte) : Option MarkSource :=
  if b = 0 then some .sat else if b = 1 then some .probe else none

/-- The required depths (chapter 3, Configuration). -/
def markDepths : List Nat := [2, 4, 8, 16, 32]

/-- Whether a carried source, depth or backfill value is outside its set (R55, step 1). -/
def badEnumerated (f : SettingFields) : Bool :=
  (match f.source with
    | some v => (sourceOf v).isNone
    | none => false) ||
  (match f.depth with
    | some v => !markDepths.contains v.toNat
    | none => false) ||
  (match f.backfill with
    | some v => (switchOf v).isNone
    | none => false)

/-- A numeric setting carried or held: clamped when carried, and read as an unsigned number (DEDUCED, log 45). -/
def setting {w : Nat} (lo hi : Nat) (v : Option (BitVec w)) (held : Nat) : Nat :=
  match v with
  | some x => clampNat lo hi x.toNat
  | none => held

/-- The probe interval: 0 stands as 0, any other value is clamped to 10 to 3,600 (R55). -/
def clampInterval (n : Nat) : Nat := if n = 0 then 0 else clampNat 10 3600 n

/-- The limit of a calibration delay in ns. -/
def calibrationLimit : Int := 10000000

/-- A calibration delay clamped (R58). -/
def clampCalibration (v : BitVec 32) : Int := clampInt (-calibrationLimit) calibrationLimit v.toInt

/-- The settings that would result from a request, each carried value clamped (R55, step 2; chapter 3,
Configuration). `period` is the station's P, half of which bounds the tear tolerance. -/
def StationConfig.apply (period : Nat) (f : SettingFields) (c : StationConfig) : StationConfig :=
  { source := match f.source with
      | some v => (sourceOf v).getD c.source
      | none => c.source
    depth := match f.depth with
      | some v => v.toNat
      | none => c.depth
    acqShift := setting 0 4 f.acqShift c.acqShift
    trackShift := setting 0 4 f.trackShift c.trackShift
    accept := setting 100 1000000 f.accept c.accept
    outlierLimit := setting 2 8 f.outlierLimit c.outlierLimit
    tearTolerance := setting 100 (period / 2) f.tearTolerance c.tearTolerance
    holdTime := setting 1 60 f.holdTime c.holdTime
    backfill := match f.backfill with
      | some v => decide (v = 1)
      | none => c.backfill
    attempts := setting 1 3 f.attempts c.attempts
    responseTimeout := setting 1 120 f.responseTimeout c.responseTimeout
    probeInterval := match f.probeInterval with
      | some v => clampInterval v.toNat
      | none => c.probeInterval
    maxRtt := setting 1 2000 f.maxRtt c.maxRtt
    silence := setting 10 3600 f.silence c.silence
    holdover := setting 1 1440 f.holdover c.holdover
    calibration := match f.calibration with
      | some v => clampCalibration v
      | none => c.calibration }

/-- The interlock of R55: mark source PROBE with interval 0. -/
def StationConfig.interlocked (c : StationConfig) : Bool :=
  decide (c.source = .probe) && decide (c.probeInterval = 0)

/-- The sixteen settings in bit order (chapter 11). -/
def StationConfig.fields (c : StationConfig) : List Byte :=
  c.source.code :: (be 1 c.depth ++ be 1 c.acqShift ++ be 1 c.trackShift ++ be 4 c.accept ++
    be 1 c.outlierLimit ++ be 4 c.tearTolerance ++ be 1 c.holdTime ++ boolByte c.backfill ::
    (be 1 c.attempts ++ be 1 c.responseTimeout ++ be 2 c.probeInterval ++ be 2 c.maxRtt ++
      be 2 c.silence ++ be 2 c.holdover ++ beInt 4 c.calibration))

/-- The clock under a change of settings: the source first, then the depth (R56, R121, R122, log 21). -/
def Clock.reconfigure (old new : StationConfig) (now : Nat) (c : Clock) : Clock :=
  let c := if old.source = new.source then c else c.changeSource
  if old.depth = new.depth then c else c.changeDepth new now

/-- The settings of a station replaced, with what takes effect at once: clock, schedule, gaps and the
reservation (R56, R57, R62, R93). -/
def State.configure (s : State) (i : StationId) (new : StationConfig) (calibrated : Bool) : State :=
  let x := s.station i
  let old := x.config
  let now := s.partTime
  let s := (s.modStation i fun x =>
    { x with config := new, mark := x.mark.reschedule old new now }).putClock i
      (x.clock.reconfigure old new now)
  let s := if calibrated then s.invalidateReservation i else s
  if new.attempts < old.attempts then (s.lowerAttempts i).evalCompletion else s

/-- STATION_CONFIG (R55). -/
def State.answerStationConfig (station : Byte) (f : SettingFields) (s : State) : Answer :=
  s.onStation station fun i =>
    let x := s.station i
    if x.enabled = false then s.refuse .notEnabled
    else if badEnumerated f then s.refuse .badValue
    else
      let new := x.config.apply x.period f
      if new.interlocked then s.refuse .inUse
      else (s.configure i new f.calibration.isSome).ok new.fields

/-! ## Status and counters (R63, R64) -/

/-- The reservation entry that names station i, if it is valid and does (R64). -/
def State.reservationOf (s : State) (i : StationId) : Option Reservation :=
  match s.reservation i with
  | some x => if x.station = i then some x else none
  | none => none

/-- A reservation entry as the fields port, staged, staged value, where `unstaged` is the value sent when nothing is
staged (R64, R196; what that value is, the spec leaves open: log 41). -/
def Reservation.fields (unstaged : BitVec 32) (x : Reservation) : List Byte :=
  PortId.code x.port :: boolByte x.staged.isSome :: beInt 4 (x.staged.getD unstaged.toInt)

/-- A station as STATION_STATUS shows it: a disabled one with the values of R50 (R54, R64). -/
def Station.shown (x : Station) : Station :=
  if x.enabled then x
  else { Station.initial with binding := x.binding, counters := x.counters,
                              backfillStamp := x.backfillStamp, probeStamp := x.probeStamp }

/-- The summary of a station's state in the other blocks (R64). -/
def Station.summary (x : Station) : List Byte :=
  optional 2 (x.tracker.q.map fun q => be 2 q.toNat) ++ be 1 x.tracker.hold.length ++
  be 1 x.tracker.gaps.length ++ boolByte x.expectation.isSome ::
  (optional 8 (x.tracker.covered.map (beInt 8)) ++ x.clock.state.code :: (be 1 x.clock.count ++
    x.clock.stages.setWidth 8 :: (beInt 4 x.clock.rho ++ optional 8 (x.clock.residual.map (beInt 8)) ++
      boolByte x.mark.due :: optional 8 (x.mark.lastRtt.map (beInt 8)))))

/-- The report of STATION_STATUS (R64). -/
def State.stationReport (s : State) (i : StationId) : List Byte :=
  let x := (s.station i).shown
  optional 8 (x.binding.map Binding.fields) ++ boolByte x.enabled :: (x.config.fields ++
    optional 6 ((s.reservationOf i).map
      (Reservation.fields (Config.unstagedValue i.val s.timebase.oscNs))) ++
    optional 8 (x.backfillStamp.map fun n => be 8 n.toNat) ++
    optional 8 (x.probeStamp.map fun n => be 8 n.toNat) ++ x.summary)

/-- STATION_STATUS (R64). -/
def State.answerStationStatus (station : Byte) (s : State) : Answer :=
  s.onStation station fun i => s.ok (s.stationReport i)

/-- The twenty-seven station counters in the order of the table of R63, each row left to right. -/
def StationCounters.fields (c : StationCounters) : List Byte :=
  be 4 c.inSequence ++ be 4 c.held ++ be 4 c.fills ++ be 4 c.duplicates ++
  be 4 c.gapsDeclared ++ be 4 c.gapsFilled ++ be 4 c.gapsAbandoned ++ be 4 c.backfillSent ++
  be 4 c.untimed ++ be 4 c.beyondSpan ++ be 4 c.tears ++ be 4 c.discontinuities ++ be 4 c.noGrid ++
  be 4 c.outOfRange ++ be 4 c.future ++ be 4 c.tooLate ++ be 4 c.lateContributions ++
  be 4 c.poolExhausted ++ be 4 c.marksAccepted ++ be 4 c.outliers ++ be 4 c.staleMarks ++
  be 4 c.clockSteps ++ be 4 c.unlockedMarks ++ be 4 c.ignoredMarks ++ be 4 c.invalidEchoes ++
  be 4 c.slowEchoes ++ be 4 c.unreferencedEchoes

/-- STATION_STATS (R63). -/
def State.answerStationStats (station : Byte) (clear : Option Byte) (s : State) : Answer :=
  s.onStation station fun i => s.onClear clear fun c =>
    (if c then s.count i fun _ => StationCounters.zero else s).ok (s.station i).counters.fields

/-! ## Calibration (R58 to R62) -/

/-- Writes a station's calibration delay. -/
def State.putCalibration (s : State) (i : StationId) (v : Int) : State :=
  s.modStation i fun x => { x with config := { x.config with calibration := v } }

/-- CAL_SET (R58). -/
def State.answerCalSet (station : Byte) (value : BitVec 32) (s : State) : Answer :=
  s.onStation station fun i =>
    if (s.station i).enabled then
      ((s.putCalibration i (clampCalibration value)).invalidateReservation i).ok
        (beInt 4 (clampCalibration value))
    else s.refuse .notEnabled

/-- CAL_RESERVE (R59). -/
def State.answerCalReserve (p : PortId) (station : Byte) (s : State) : Answer :=
  s.onStation station fun i =>
    if (s.station i).enabled then
      (s.setReservation i (some { port := p, station := i, staged := none })).ok
        (beInt 4 (s.station i).config.calibration ++
          optional 2 ((s.reservation i).map fun x => [PortId.code x.port, stationByte x.station]))
    else s.refuse .notEnabled

/-- CAL_STAGE outcomes (chapter 11). -/
inductive StageOutcome where
  | staged
  | cancelled
  | dropped
  deriving DecidableEq, Repr

/-- The outcome of CAL_STAGE against an entry (R60). -/
def stageOutcome (p : PortId) (i : StationId) (x : Option Reservation) : StageOutcome :=
  match x with
  | none => .dropped
  | some x =>
    if x.port ≠ p then .dropped
    else if x.station = i ∧ x.staged = none then .staged
    else .cancelled

/-- CAL_STAGE (R60). -/
def State.answerCalStage (p : PortId) (station : Byte) (value : BitVec 32) (s : State) : Answer :=
  s.onStation station fun i =>
    match stageOutcome p i (s.reservation i) with
    | .staged =>
      (s.setReservation i (some { port := p, station := i, staged := some (clampCalibration value) })).ok
        (1 :: beInt 4 (clampCalibration value))
    | .cancelled => (s.setReservation i none).ok (2 :: beInt 4 0)
    | .dropped => s.ok (3 :: beInt 4 0)

/-- What CAL_APPLY against an entry does: whether the entry ends, and the value applied, if any (R61). -/
def applyOutcome (p : PortId) (i : StationId) (x : Option Reservation) : Bool × Option Int :=
  match x with
  | none => (false, none)
  | some x =>
    if x.port ≠ p then (false, none)
    else if x.station = i then (true, x.staged)
    else (true, none)

/-- CAL_APPLY (R61). -/
def State.answerCalApply (p : PortId) (station : Byte) (s : State) : Answer :=
  s.onStation station fun i =>
    let (ends, value) := applyOutcome p i (s.reservation i)
    let s := if ends then s.setReservation i none else s
    match value with
    | some v => (s.putCalibration i v).ok (1 :: beInt 4 v)
    | none => s.ok (0 :: beInt 4 (s.station i).config.calibration)

/-! ## PROBE_NOW (R94) -/

/-- PROBE_NOW (R94). -/
def State.answerProbeNow (station : Byte) (s : State) : Answer :=
  s.onStation station fun i =>
    if (s.station i).enabled = false then s.refuse .notEnabled
    else
      match (s.station i).binding with
      | none => s.refuse .linkDown
      | some b =>
        if (s.link b.link).state.sends then
          (s.modStation i fun x => { x with mark := { x.mark with due := true, requested := true } }).ok
            (be 8 s.partTime)
        else s.refuse .linkDown

end Sys2Proof.Machine
end

