-- ==== Sys2Proof/Machine/TimebaseRequests.lean ====
section
/-! DEFINITION. The requests of the network time base (chapter 1): GRID_SET, GRID_GET, TIMEBASE_STATUS,
REF_CONFIG and REF_SELECT. -/

namespace Sys2Proof.Machine

/-! ## The grid -/

/-- The epoch lengths (R20). -/
def epochLengths : List Nat := [1, 2, 5, 10, 20, 30, 60]

/-- The fields E, O and L of a reply. -/
def Grid.fields (g : Grid) : List Byte := be 1 g.e ++ be 1 g.o ++ be 2 g.l

/-- The grid that GRID_SET makes of its values: O and L clamped, L 30 when absent (R20). Both are read as unsigned
numbers (DEDUCED, log 45). -/
def Grid.make (e o : Byte) (l : Option (BitVec 16)) : Grid :=
  { e := e.toNat
    o := clampNat 0 (e.toNat - 1) o.toNat
    l := match l with
      | some v => clampNat 1 600 v.toNat
      | none => 30 }

/-- GRID_SET (R20). A presence byte other than 0 or 1 is refused with BAD_VALUE (R194), but on a set grid no
value is examined (log 17). -/
def State.answerGridSet (e o : Byte) (reserved : BitVec 7) (l : Option (BitVec 16)) (s : State) : Answer :=
  match s.timebase.grid with
  | some _ => s.refuse .alreadySet
  | none =>
    if reserved ≠ 0 ∨ ¬ e.toNat ∈ epochLengths then s.refuse .badValue
    else
      let g := Grid.make e o l
      (s.modTimebase fun t => { t with grid := some g }).ok g.fields

/-- The hub epoch as a field of a reply (R22). -/
def State.hubEpochField (s : State) : List Byte := optional 8 (s.hubEpoch.map (beInt 8))

/-- GRID_GET (R21). -/
def State.answerGridGet (s : State) : Answer :=
  s.onGrid fun g =>
    s.ok (g.fields ++
      optional 16 (s.hubEpoch.map fun h => beInt 8 h ++ beInt 8 s.timebase.hubTime))

/-! ## Status -/

/-- The report of one reference: enable, state, run count, stages, depth, last good second, five counters
(R23). -/
def Reference.report (x : Reference) : List Byte :=
  boolByte (decide (x.state ≠ .off)) :: x.state.code :: (be 1 x.run ++ x.stages.setWidth 8 ::
    (be 1 x.depth ++ optional 8 (x.lastGood.map (be 8)) ++ be 4 x.goodPulses ++ be 4 x.badPulses ++
      be 4 x.missedPulses ++ be 4 x.faults ++ be 4 x.badMessages))

/-- The five counters of a reference set to 0. -/
def Reference.clearCounters (x : Reference) : Reference :=
  { x with goodPulses := 0, badPulses := 0, missedPulses := 0, faults := 0, badMessages := 0 }

/-- The eleven counters of the timebase set to 0 (R23). -/
def Timebase.clearCounters (t : Timebase) : Timebase :=
  { t with largeSteps := 0, refA := t.refA.clearCounters, refB := t.refB.clearCounters }

/-- The report of TIMEBASE_STATUS (R23). -/
def State.timebaseReport (s : State) : List Byte :=
  let t := s.timebase
  be 8 s.partTime ++ beInt 8 t.hubTime ++ t.hubState.code :: (beInt 8 t.lastStep ++
    be 4 t.largeSteps ++ selectionCode t.selection :: boolByte t.autoSelect :: (be 4 t.stepLimit ++
      boolByte t.grid.isSome :: (s.hubEpochField ++ t.refA.report ++ t.refB.report)))

/-- TIMEBASE_STATUS (R23). -/
def State.answerTimebaseStatus (clear : Option Byte) (s : State) : Answer :=
  s.onClear clear fun c =>
    (if c then s.modTimebase Timebase.clearCounters else s).ok s.timebaseReport

/-! ## REF_CONFIG and REF_SELECT -/

/-- The stabilization depths (R13). -/
def refDepths : List Nat := [4, 8, 16, 32, 64]

/-- A reference put at the start of a state: no run, no stages, no pending second, the window stopped (R13). -/
def Reference.restart (x : Reference) (st : RefState) : Reference :=
  { x.endRun st with pendingSecond := none, window := none }

/-- The enable setting applied to a reference (R13). -/
def Reference.switch (on : Bool) (x : Reference) : Reference :=
  if on then if x.state = .off then x.restart .absent else x
  else if x.state = .off then x else x.restart .off

/-- Stores a depth when one is carried (R13). -/
def Reference.putDepth (depth : Option (BitVec 32)) (x : Reference) : Reference :=
  match depth with
  | some d => { x with depth := d.toNat }
  | none => x

/-- The fields of the reply to REF_CONFIG for a reference: enable, state, run count, depth (R13). -/
def Reference.configFields (x : Reference) : List Byte :=
  boolByte (decide (x.state ≠ .off)) :: x.state.code :: (be 1 x.run ++ be 1 x.depth)

/-- Whether a depth is carried that is none of the five (R13). -/
def badRefDepth (depth : Option (BitVec 32)) : Bool :=
  match depth with
  | some d => !refDepths.contains d.toNat
  | none => false

/-- REF_CONFIG addressed to a reference (R13). Values are tested before the selection (R195, log 16). -/
def State.answerRefConfig (r : RefId) (switch : Byte) (reserved : BitVec 7) (depth : Option (BitVec 32))
    (s : State) : Answer :=
  match switchOf switch with
  | none => s.refuse .badValue
  | some on =>
    if reserved ≠ 0 ∨ badRefDepth depth then s.refuse .badValue
    else if on = false ∧ (s.timebase.ref r).state ≠ .off ∧ s.timebase.selection = some r then
      s.refuse .inUse
    else
      let s := s.modRef r fun x => (x.switch on).putDepth depth
      s.ok (s.timebase.ref r).configFields

/-- The step limit that REF_CONFIG for the hub leaves: clamped when carried (R18). The four bytes are read as an unsigned
number (DEDUCED, log 43). -/
def newStepLimit (limit : Option (BitVec 32)) (held : Nat) : Nat :=
  match limit with
  | some v => clampNat 1000 1000000 v.toNat
  | none => held

/-- REF_CONFIG addressed to the hub (R18). The selection is checked when the flag turns on (log 20). -/
def State.answerHubConfig (switch : Byte) (reserved : BitVec 7) (limit : Option (BitVec 32)) (s : State) :
    Answer :=
  match switchOf switch with
  | none => s.refuse .badValue
  | some on =>
    if reserved ≠ 0 then s.refuse .badValue
    else
      let turnedOn := on && !s.timebase.autoSelect
      let s := s.modTimebase fun t =>
        { t with autoSelect := on, stepLimit := newStepLimit limit t.stepLimit }
      let s := if turnedOn then s.checkSelection else s
      s.ok (boolByte s.timebase.autoSelect :: (be 4 s.timebase.stepLimit ++
        [selectionCode s.timebase.selection]))

/-- The two shapes of REF_CONFIG by its target; any other target is refused with BAD_VALUE (R195). -/
def State.answerRefTarget (target switch : Byte) (reserved : BitVec 7) (value : Option (BitVec 32))
    (s : State) : Answer :=
  match target.toNat with
  | 1 => s.answerRefConfig .refA switch reserved value
  | 2 => s.answerRefConfig .refB switch reserved value
  | 3 => s.answerHubConfig switch reserved value
  | _ => s.refuse .badValue

/-- The reply to an accepted REF_SELECT: the selection and the hub state (R14). -/
def State.okSelection (s : State) : Answer :=
  s.ok [selectionCode s.timebase.selection, s.timebase.hubState.code]

/-- REF_SELECT naming a reference (R14). -/
def State.select (r : RefId) (s : State) : Answer :=
  if (s.timebase.ref r).state = .usable then (s.setSelection (some r)).okSelection
  else s.refuse .notReady

/-- REF_SELECT (R14). -/
def State.answerRefSelect (selection : Byte) (s : State) : Answer :=
  match selection.toNat with
  | 0 => ((s.setSelection none).enterHoldover).okSelection
  | 1 => s.select .refA
  | 2 => s.select .refB
  | _ => s.refuse .badValue

end Sys2Proof.Machine
end

