-- ==== Sys2Proof/Machine/Ports.lean ====
section
/-! DEFINITION. The message ports (chapter 10): the role test, the owner of each request, the taking of a
request and its reply, the input buffer, the receiver, and the end of a reply or NOTICE. -/

namespace Sys2Proof.Machine

/-! ## The role test (R189) -/

/-- The eleven requests that only a control port may make (R189). -/
def Request.controlOnly : Request → Bool
  | .partInfo _ => false
  | .partReset => true
  | .gridSet _ _ _ _ => true
  | .gridGet => false
  | .timebaseStatus _ => false
  | .refConfig _ _ _ _ => true
  | .refSelect _ => true
  | .linkConfig _ _ _ => true
  | .linkStatus _ _ => false
  | .linkReset _ => true
  | .stationBind _ _ _ _ _ => true
  | .stationEnable _ => true
  | .stationDisable _ => true
  | .stationConfig _ _ => true
  | .stationStatus _ => false
  | .stationStats _ _ => false
  | .calSet _ _ => false
  | .calReserve _ => false
  | .calStage _ _ => false
  | .calApply _ => false
  | .probeNow _ => true
  | .epochList _ => false
  | .epochSummary _ => false
  | .contribFetch _ _ _ => false
  | .epochRelease _ => false
  | .subscribe _ => false
  | .noticeMask _ => false
  | .noticePoll => false
  | .faultRead => false
  | .faultClear => false

/-- The station number that a control-only request carries, as carried (R189). -/
def Request.stationCarried : Request → Option Byte
  | .stationBind i _ _ _ _ => some i
  | .stationEnable i => some i
  | .stationDisable i => some i
  | .stationConfig i _ => some i
  | .probeNow i => some i
  | _ => none

/-- A request refused at the role test: the fault record, the fault count and FAULT (R189). -/
def State.notPermitted (p : PortId) (r : Request) (s : State) : Answer :=
  (({ s with
      faultRecord := some { port := p, kind := requestKind r, station := Request.stationCarried r }
      faultCount := min (s.faultCount + 1) 255 } : State).raise .fault, [Result.notPermitted.code])

/-! ## The owners -/

/-- A request handed to the block that owns it (R182, step 4). -/
def State.answer (p : PortId) (r : Request) (s : State) : Answer :=
  match r with
  | .partInfo c => s.answerPartInfo c
  | .partReset => s.answerPartReset
  | .gridSet e o res l => s.answerGridSet e o res l
  | .gridGet => s.answerGridGet
  | .timebaseStatus c => s.answerTimebaseStatus c
  | .refConfig t sw res v => s.answerRefTarget t sw res v
  | .refSelect x => s.answerRefSelect x
  | .linkConfig l en f => s.answerLinkConfig l en f
  | .linkStatus l c => s.answerLinkStatus l c
  | .linkReset l => s.answerLinkReset l
  | .stationBind i l a rate c => s.answerStationBind i l a rate c
  | .stationEnable i => s.answerStationEnable i
  | .stationDisable i => s.answerStationDisable i
  | .stationConfig i f => s.answerStationConfig i f
  | .stationStatus i => s.answerStationStatus i
  | .stationStats i c => s.answerStationStats i c
  | .calSet i v => s.answerCalSet i v
  | .calReserve i => s.answerCalReserve p i
  | .calStage i v => s.answerCalStage p i v
  | .calApply i => s.answerCalApply p i
  | .probeNow i => s.answerProbeNow i
  | .epochList c => s.answerEpochList c
  | .epochSummary n => s.answerEpochSummary n
  | .contribFetch n i k => s.answerContribFetch n i k
  | .epochRelease n => s.answerEpochRelease p n
  | .subscribe sw => s.answerSubscribe p sw
  | .noticeMask m => s.answerNoticeMask p m
  | .noticePoll => s.answerNoticePoll p
  | .faultRead => s.answerFaultRead
  | .faultClear => s.answerFaultClear

/-- A request that has passed the kind and length tests: the role test, then its owner (R182). -/
def State.serve (p : PortId) (r : Request) (s : State) : Answer :=
  if Request.controlOnly r ∧ (s.port p).role = .observe then s.notPermitted p r else s.answer p r

/-! ## Taking a request (R182, R183) -/

/-- The kind of the reply to a request of a kind: 0x80 more, in one byte (R183, log 25). -/
def replyKind (k : Byte) : Byte := k + 0x80

/-- An answer becomes the port's pending reply (R183). -/
def State.reply (p : PortId) (kind : Byte) (tag : BitVec 16) (a : Answer) : State :=
  a.1.modPort p fun x => { x with reply := some { kind := replyKind kind, tag := tag, body := a.2 } }

/-- A frame taken from the input buffer and judged by kind, length, role and owner (R182). -/
def State.takeFrame (p : PortId) (f : Frame) (s : State) : State :=
  match decodeRequest f.kind f.body with
  | .unknownKind => State.reply p f.kind f.tag (s.refuse .unknownKind)
  | .badLength => State.reply p f.kind f.tag (s.refuse .badLength)
  | .request r => State.reply p f.kind f.tag (s.serve p r)

/-- A port without a pending reply takes the frame at the head of its buffer (R182). -/
def State.takeNext (p : PortId) (s : State) : State :=
  match (s.port p).reply, (s.port p).buffer with
  | none, f :: rest => (s.modPort p fun x => { x with buffer := rest }).takeFrame p f
  | _, _ => s

/-- The frames an input buffer holds at most (R181). -/
def bufferSize : Nat := 4

/-- A good frame is complete: counted, then buffered or lost, and taken at once by an idle port (R180 to
R182). -/
def State.frameArrives (p : PortId) (f : Frame) (s : State) : State :=
  let s := s.modPort p fun x => { x with accepted := bump x.accepted }
  if (s.port p).buffer.length < bufferSize then
    (s.modPort p fun x => { x with buffer := x.buffer ++ [f] }).takeNext p
  else s.modPort p fun x => { x with lostRequests := bump x.lostRequests }

/-- Whether a port takes a request at the moment it arrives: no pending reply and an empty buffer, whatever its line
sends (R182, log 42). -/
def Port.idle (x : Port) : Bool := x.reply.isNone && x.buffer.isEmpty

/-- A whole good frame that carries a request completes at a port, which returns to hunting (R180 to R182,
log 4). A port that is not idle gets the frame itself. A NOTICE on the line does not keep an idle port from taking the
request (R182; the worked sequence of chapter 10 has one wait: DEDUCED, log 42). -/
def State.requestArrives (p : PortId) (tag : BitVec 16) (r : Request) (s : State) : State :=
  let s := s.modPort p fun x => { x with receiver := .hunting false }
  if (s.port p).idle then
    State.reply p (requestKind r) tag
      ((s.modPort p fun x => { x with accepted := bump x.accepted }).serve p r)
  else s.frameArrives p (requestFrame r tag)

/-! ## The receiver (R180) -/

/-- The largest body length (R180). -/
def bodyLimit : Nat := 1024

/-- The time without a byte that ends a frame, in ms (R180). -/
def byteTimeout : Nat := 100

/-- A frame is discarded: counted, and the receiver hunts again (R180). -/
def State.badFrame (p : PortId) (s : State) : State :=
  s.modPort p fun x => { x with receiver := .hunting false, badFrames := bump x.badFrames }

/-- The frame that the bytes after the sync pair spell. -/
def frameOf (l : List Byte) : Frame :=
  { kind := (l[2]?).getD 0
    tag := BitVec.ofNat 16 (ofBe ((l.drop 3).take 2))
    body := (l.drop 5).take (l.length - 7) }

/-- A frame whose last check byte has been read: discarded, or complete (R180). -/
def State.frameEnds (p : PortId) (l : List Byte) (s : State) : State :=
  let covered := l.take (l.length - 2)
  if (crc frameSeed covered).toNat = ofBe (l.drop (l.length - 2)) then
    (s.modPort p fun x => { x with receiver := .hunting false }).frameArrives p (frameOf l)
  else s.badFrame p

/-- One byte on a port's receive line (R180). -/
def State.portByte (p : PortId) (s : State) (b : Byte) : State :=
  match (s.port p).receiver with
  | .hunting sawSync =>
    if sawSync ∧ b = 0x5A then
      s.modPort p fun x => { x with receiver := .inside [] (s.partTime + byteTimeout) }
    else s.modPort p fun x => { x with receiver := .hunting (decide (b = 0xA5)) }
  | .inside bytes _ =>
    let l := bytes ++ [b]
    let n := ofBe (l.take 2)
    if l.length = 2 ∧ bodyLimit < n then s.badFrame p
    else if 2 ≤ l.length ∧ l.length = 7 + n then s.frameEnds p l
    else s.modPort p fun x => { x with receiver := .inside l (s.partTime + byteTimeout) }

/-- Bytes on a port's receive line. -/
def State.portBytes (s : State) (p : PortId) (bytes : List Byte) : State :=
  bytes.foldl (State.portByte p) s

/-- The bytes of a frame stop for 100 ms: it is discarded (R180). -/
def State.byteTimeoutOut (p : PortId) (s : State) : State :=
  match (s.port p).receiver with
  | .hunting _ => s
  | .inside _ due => if s.isDue (some due) then s.badFrame p else s

/-! ## The end of a reply or NOTICE (R184, R191) -/

/-- Every block at its power-on values, both roles kept (R191). The commands that wait are not the part's. -/
def State.partReset (s : State) : State :=
  let fresh := State.powerOn false
  { fresh with
    mp0 := Port.initial s.mp0.role
    mp1 := Port.initial s.mp1.role
    pending := s.pending }

/-- Whether a reply is the OK reply to PART_RESET (R191). -/
def Frame.isPartReset (f : Frame) : Bool :=
  decide (f.kind = replyKind 0x02) && decide (f.body = [Result.ok.code])

/-- The last byte of a reply has been sent (R182, R184, R191). -/
def State.replySent (p : PortId) (s : State) : State :=
  match (s.port p).line, (s.port p).reply with
  | .reply, some f =>
    if f.isPartReset then s.partReset
    else
      (s.modPort p fun x =>
        { x with reply := none, line := .free, repliesSent := bump x.repliesSent }).takeNext p
  | _, _ => s

/-- The last byte of a NOTICE has been sent (R184). -/
def State.noticeSent (p : PortId) (s : State) : State :=
  match (s.port p).line with
  | .notice _ _ =>
    s.modPort p fun x => { x with line := .free, noticesSent := bump x.noticesSent }
  | .free => s
  | .reply => s

end Sys2Proof.Machine
end

