-- ==== Sys2Proof/Machine/PortCommands.lean ====
section
/-! DEFINITION. The commands of the message ports and the resets: FRAME_COMPLETE, FRAME_LENGTH_OVER_LIMIT,
FRAME_BYTE_TIMEOUT, REPLY_SENT, NOTICE_SENT, POWER_ON_RESET and RESET_INPUT_ASSERTED. -/

namespace Sys2Proof.Machine

/-- POWER_ON_RESET: the reset input is released, or power comes up, and every block is at its power-on values
with MP1's role from ROLE1 (R188, R192). The commands that wait are not the part's. -/
def execPowerOnReset (role1 : Bool) (s : State) : Host.Outcome State Fault Refusal :=
  .next { State.powerOn role1 with pending := s.pending }

/-- The lines of a port while the reset input is low: nothing is sent, and no frame is under way (R192). -/
def Port.stop (p : Port) : Port := { p with receiver := .hunting false, line := .free }

/-- RESET_INPUT_ASSERTED: the part stops until the input is released (R192, log 8). -/
def execResetInputAsserted (dt : Nat) (s : State) : Host.Outcome State Fault Refusal :=
  if s.held then .next s
  else
    let s := s.advance dt
    .next { s with held := true, mp0 := s.mp0.stop, mp1 := s.mp1.stop }

/-- FRAME_COMPLETE: bytes on a port's receive line, the last of which ends a frame (R180 to R182). -/
def execFrameComplete (dt : Nat) (p : PortId) (bytes : List Byte) (s : State) :
    Host.Outcome State Fault Refusal :=
  s.event dt fun s => s.portBytes p bytes

/-- FRAME_LENGTH_OVER_LIMIT: bytes on a port's receive line, the last of which ends a length above 1,024
(R180). -/
def execFrameLengthOverLimit (dt : Nat) (p : PortId) (bytes : List Byte) (s : State) :
    Host.Outcome State Fault Refusal :=
  s.event dt fun s => s.portBytes p bytes

/-- FRAME_BYTE_TIMEOUT (R180). -/
def execFrameByteTimeout (dt : Nat) (p : PortId) (s : State) : Host.Outcome State Fault Refusal :=
  s.event dt (State.byteTimeoutOut p)

/-- REPLY_SENT (R182, R184, R191). -/
def execReplySent (dt : Nat) (p : PortId) (s : State) : Host.Outcome State Fault Refusal :=
  s.event dt (State.replySent p)

/-- NOTICE_SENT (R184). -/
def execNoticeSent (dt : Nat) (p : PortId) (s : State) : Host.Outcome State Fault Refusal :=
  s.event dt (State.noticeSent p)

end Sys2Proof.Machine
end

