-- ==== Sys2Proof/Machine/RequestCommands.lean ====
section
/-! DEFINITION. The request commands: each is the event in which a whole good frame carrying the request
completes at a port (log 4), by R180 to R183 and the rule of the request. -/

namespace Sys2Proof.Machine

/-- The target byte of REF_CONFIG for a reference (chapter 11). -/
def refTarget : RefId → Byte
  | .refA => 1
  | .refB => 2

/-- PART_INFO (R193). -/
def execPartInfo (dt : Nat) (p : PortId) (tag : BitVec 16) (clear : Option Byte) (s : State) :
    Host.Outcome State Fault Refusal :=
  s.event dt (State.requestArrives p tag (.partInfo clear))

/-- PART_RESET (R191); the reset itself is made when its reply has been sent. -/
def execPartReset (dt : Nat) (p : PortId) (tag : BitVec 16) (s : State) :
    Host.Outcome State Fault Refusal :=
  s.event dt (State.requestArrives p tag (.partReset))

/-- GRID_SET (R20). -/
def execGridSet (dt : Nat) (p : PortId) (tag : BitVec 16)
    (e o : Byte) (reserved : BitVec 7) (l : Option (BitVec 16)) (s : State) :
    Host.Outcome State Fault Refusal :=
  s.event dt (State.requestArrives p tag (.gridSet e o reserved l))

/-- GRID_GET (R21). -/
def execGridGet (dt : Nat) (p : PortId) (tag : BitVec 16) (s : State) :
    Host.Outcome State Fault Refusal :=
  s.event dt (State.requestArrives p tag (.gridGet))

/-- TIMEBASE_STATUS (R23). -/
def execTimebaseStatus (dt : Nat) (p : PortId) (tag : BitVec 16) (clear : Option Byte) (s : State) :
    Host.Outcome State Fault Refusal :=
  s.event dt (State.requestArrives p tag (.timebaseStatus clear))

/-- REF_CONFIG addressed to a reference (R13). -/
def execRefConfigReference (dt : Nat) (p : PortId) (tag : BitVec 16)
    (r : RefId) (switch : Byte) (reserved : BitVec 7) (depth : Option (BitVec 32)) (s : State) :
    Host.Outcome State Fault Refusal :=
  s.event dt (State.requestArrives p tag (.refConfig (refTarget r) switch reserved depth))

/-- REF_CONFIG addressed to the hub (R18). -/
def execRefConfigHub (dt : Nat) (p : PortId) (tag : BitVec 16)
    (switch : Byte) (reserved : BitVec 7) (limit : Option (BitVec 32)) (s : State) :
    Host.Outcome State Fault Refusal :=
  s.event dt (State.requestArrives p tag (.refConfig 3 switch reserved limit))

/-- REF_SELECT (R14). -/
def execRefSelect (dt : Nat) (p : PortId) (tag : BitVec 16) (selection : Byte) (s : State) :
    Host.Outcome State Fault Refusal :=
  s.event dt (State.requestArrives p tag (.refSelect selection))

/-- LINK_CONFIG (R25). -/
def execLinkConfig (dt : Nat) (p : PortId) (tag : BitVec 16)
    (link enable : Byte) (fields : LinkFields) (s : State) :
    Host.Outcome State Fault Refusal :=
  s.event dt (State.requestArrives p tag (.linkConfig link enable fields))

/-- LINK_STATUS (R46). -/
def execLinkStatus (dt : Nat) (p : PortId) (tag : BitVec 16)
    (link : Byte) (clear : Option Byte) (s : State) :
    Host.Outcome State Fault Refusal :=
  s.event dt (State.requestArrives p tag (.linkStatus link clear))

/-- LINK_RESET (R45). -/
def execLinkReset (dt : Nat) (p : PortId) (tag : BitVec 16) (link : Byte) (s : State) :
    Host.Outcome State Fault Refusal :=
  s.event dt (State.requestArrives p tag (.linkReset link))

/-- STATION_BIND (R49). -/
def execStationBind (dt : Nat) (p : PortId) (tag : BitVec 16)
    (station link address rate components : Byte) (s : State) :
    Host.Outcome State Fault Refusal :=
  s.event dt (State.requestArrives p tag (.stationBind station link address rate components))

/-- STATION_ENABLE (R50). -/
def execStationEnable (dt : Nat) (p : PortId) (tag : BitVec 16) (station : Byte) (s : State) :
    Host.Outcome State Fault Refusal :=
  s.event dt (State.requestArrives p tag (.stationEnable station))

/-- STATION_DISABLE (R52). -/
def execStationDisable (dt : Nat) (p : PortId) (tag : BitVec 16) (station : Byte) (s : State) :
    Host.Outcome State Fault Refusal :=
  s.event dt (State.requestArrives p tag (.stationDisable station))

/-- STATION_CONFIG (R55). -/
def execStationConfig (dt : Nat) (p : PortId) (tag : BitVec 16)
    (station : Byte) (fields : SettingFields) (s : State) :
    Host.Outcome State Fault Refusal :=
  s.event dt (State.requestArrives p tag (.stationConfig station fields))

/-- STATION_STATUS (R64). -/
def execStationStatus (dt : Nat) (p : PortId) (tag : BitVec 16) (station : Byte) (s : State) :
    Host.Outcome State Fault Refusal :=
  s.event dt (State.requestArrives p tag (.stationStatus station))

/-- STATION_STATS (R63). -/
def execStationStats (dt : Nat) (p : PortId) (tag : BitVec 16)
    (station : Byte) (clear : Option Byte) (s : State) :
    Host.Outcome State Fault Refusal :=
  s.event dt (State.requestArrives p tag (.stationStats station clear))

/-- CAL_SET (R58). -/
def execCalSet (dt : Nat) (p : PortId) (tag : BitVec 16)
    (station : Byte) (value : BitVec 32) (s : State) :
    Host.Outcome State Fault Refusal :=
  s.event dt (State.requestArrives p tag (.calSet station value))

/-- CAL_RESERVE (R59). -/
def execCalReserve (dt : Nat) (p : PortId) (tag : BitVec 16) (station : Byte) (s : State) :
    Host.Outcome State Fault Refusal :=
  s.event dt (State.requestArrives p tag (.calReserve station))

/-- CAL_STAGE (R60). -/
def execCalStage (dt : Nat) (p : PortId) (tag : BitVec 16)
    (station : Byte) (value : BitVec 32) (s : State) :
    Host.Outcome State Fault Refusal :=
  s.event dt (State.requestArrives p tag (.calStage station value))

/-- CAL_APPLY (R61). -/
def execCalApply (dt : Nat) (p : PortId) (tag : BitVec 16) (station : Byte) (s : State) :
    Host.Outcome State Fault Refusal :=
  s.event dt (State.requestArrives p tag (.calApply station))

/-- PROBE_NOW (R94). -/
def execProbeNow (dt : Nat) (p : PortId) (tag : BitVec 16) (station : Byte) (s : State) :
    Host.Outcome State Fault Refusal :=
  s.event dt (State.requestArrives p tag (.probeNow station))

/-- EPOCH_LIST (R164). -/
def execEpochList (dt : Nat) (p : PortId) (tag : BitVec 16) (clear : Option Byte) (s : State) :
    Host.Outcome State Fault Refusal :=
  s.event dt (State.requestArrives p tag (.epochList clear))

/-- EPOCH_SUMMARY (R165). -/
def execEpochSummary (dt : Nat) (p : PortId) (tag : BitVec 16) (epoch : BitVec 64) (s : State) :
    Host.Outcome State Fault Refusal :=
  s.event dt (State.requestArrives p tag (.epochSummary epoch))

/-- CONTRIB_FETCH (R166). -/
def execContribFetch (dt : Nat) (p : PortId) (tag : BitVec 16)
    (epoch : BitVec 64) (station : Byte) (position : BitVec 16) (s : State) :
    Host.Outcome State Fault Refusal :=
  s.event dt (State.requestArrives p tag (.contribFetch epoch station position))

/-- EPOCH_RELEASE (R162). -/
def execEpochRelease (dt : Nat) (p : PortId) (tag : BitVec 16) (epoch : BitVec 64) (s : State) :
    Host.Outcome State Fault Refusal :=
  s.event dt (State.requestArrives p tag (.epochRelease epoch))

/-- SUBSCRIBE (R163). -/
def execSubscribe (dt : Nat) (p : PortId) (tag : BitVec 16) (switch : Byte) (s : State) :
    Host.Outcome State Fault Refusal :=
  s.event dt (State.requestArrives p tag (.subscribe switch))

/-- NOTICE_MASK (R186). -/
def execNoticeMask (dt : Nat) (p : PortId) (tag : BitVec 16) (switches : KindSwitches) (s : State) :
    Host.Outcome State Fault Refusal :=
  s.event dt (State.requestArrives p tag (.noticeMask switches))

/-- NOTICE_POLL (R187). -/
def execNoticePoll (dt : Nat) (p : PortId) (tag : BitVec 16) (s : State) :
    Host.Outcome State Fault Refusal :=
  s.event dt (State.requestArrives p tag (.noticePoll))

/-- FAULT_READ (R190). -/
def execFaultRead (dt : Nat) (p : PortId) (tag : BitVec 16) (s : State) :
    Host.Outcome State Fault Refusal :=
  s.event dt (State.requestArrives p tag (.faultRead))

/-- FAULT_CLEAR (R190). -/
def execFaultClear (dt : Nat) (p : PortId) (tag : BitVec 16) (s : State) :
    Host.Outcome State Fault Refusal :=
  s.event dt (State.requestArrives p tag (.faultClear))

end Sys2Proof.Machine
end

