-- ==== Sys2Proof/Machine/StationCommands.lean ====
section
/-! DEFINITION. The commands of one station's timers: HOLD_TIMER_EXPIRY, PROBE_DUE, SILENCE_TIMER_EXPIRY and
HOLDOVER_TIMER_EXPIRY. -/

namespace Sys2Proof.Machine

/-- The hold timer runs out (R71). -/
def State.holdExpires (s : State) (i : StationId) : State :=
  if s.isDue (s.station i).tracker.holdDue then (s.giveUp i).evalCompletion else s

/-- HOLD_TIMER_EXPIRY (R71). -/
def execHoldTimerExpiry (dt : Nat) (i : StationId) (s : State) : Host.Outcome State Fault Refusal :=
  s.event dt (State.holdExpires · i)

/-- An active schedule of an enabled station reaches its next due time (R91, R92). -/
def State.probeFallsDue (s : State) (i : StationId) : State :=
  if (s.station i).enabled ∧ s.isDue (s.station i).mark.schedule then
    s.modStation i fun x => { x with mark := { x.mark with due := true } }
  else s

/-- PROBE_DUE (R91). -/
def execProbeDue (dt : Nat) (i : StationId) (s : State) : Host.Outcome State Fault Refusal :=
  s.event dt (State.probeFallsDue · i)

/-- The silence timer runs out in LOCKED (R118). -/
def State.silenceExpires (s : State) (i : StationId) : State :=
  let c := (s.station i).clock
  if c.state = .locked ∧ s.isDue c.silenceDue then s.putClock i c.silenceOut else s

/-- SILENCE_TIMER_EXPIRY (R118). -/
def execSilenceTimerExpiry (dt : Nat) (i : StationId) (s : State) : Host.Outcome State Fault Refusal :=
  s.event dt (State.silenceExpires · i)

/-- The clock states in which the holdover timer runs (R119). -/
def ClockState.holdsOver : ClockState → Bool
  | .unset => false
  | .acquiring => true
  | .locked => true
  | .holdover => true
  | .free => false

/-- The holdover timer runs out (R119). -/
def State.holdoverExpires (s : State) (i : StationId) : State :=
  let c := (s.station i).clock
  if c.state.holdsOver ∧ s.isDue c.holdoverDue then s.putClock i c.holdoverOut else s

/-- HOLDOVER_TIMER_EXPIRY (R119). -/
def execHoldoverTimerExpiry (dt : Nat) (i : StationId) (s : State) : Host.Outcome State Fault Refusal :=
  s.event dt (State.holdoverExpires · i)

end Sys2Proof.Machine
end

