-- ==== Sys2Proof/Machine/TimebaseCommands.lean ====
section
/-! DEFINITION. The commands of the network time base: REF_MESSAGE, REF_PULSE, PULSE_WINDOW_EXPIRY and
EPOCH_DEADLINE. -/

namespace Sys2Proof.Machine

/-- REF_MESSAGE: a time message, or one cut short (R8, log 30). -/
def execRefMessage (dt : Nat) (r : RefId) (intact locked : Bool) (second : Nat) (s : State) :
    Host.Outcome State Fault Refusal :=
  s.event dt fun s => s.modRef r (Reference.message intact locked second)

/-- REF_PULSE (R9). -/
def execRefPulse (dt : Nat) (r : RefId) (s : State) : Host.Outcome State Fault Refusal :=
  s.event dt (State.pulse · r)

/-- PULSE_WINDOW_EXPIRY (R12). -/
def execPulseWindowExpiry (dt : Nat) (r : RefId) (s : State) : Host.Outcome State Fault Refusal :=
  s.event dt (State.windowExpiry · r)

/-- EPOCH_DEADLINE: every FORMING epoch whose deadline hub time has reached closes (R158, log 15). -/
def execEpochDeadline (dt : Nat) (s : State) : Host.Outcome State Fault Refusal :=
  s.event dt State.closeDeadlines

end Sys2Proof.Machine
end

