-- ==== Sys2Proof/Machine/Dispatch.lean ====
section
/-! DEFINITION. The dispatch of a command to its meaning, one arm per row of the opcode table. -/

namespace Sys2Proof.Machine

def exec (i : Instr) (s : State) : Host.Outcome State Fault Refusal :=
  match i with
  | .powerOnReset role1 => Sys2Proof.Machine.execPowerOnReset role1 s
  | .frameComplete dt p bytes => Sys2Proof.Machine.execFrameComplete dt p bytes s
  | .frameByteTimeout dt p => Sys2Proof.Machine.execFrameByteTimeout dt p s
  | .replySent dt p => Sys2Proof.Machine.execReplySent dt p s
  | .noticeSent dt p => Sys2Proof.Machine.execNoticeSent dt p s
  | .partInfo dt p tag clear => Sys2Proof.Machine.execPartInfo dt p tag clear s
  | .partReset dt p tag => Sys2Proof.Machine.execPartReset dt p tag s
  | .gridSet dt p tag e o reserved l => Sys2Proof.Machine.execGridSet dt p tag e o reserved l s
  | .gridGet dt p tag => Sys2Proof.Machine.execGridGet dt p tag s
  | .timebaseStatus dt p tag clear => Sys2Proof.Machine.execTimebaseStatus dt p tag clear s
  | .refConfigReference dt p tag r switch reserved depth => Sys2Proof.Machine.execRefConfigReference dt p tag r switch reserved depth s
  | .refConfigHub dt p tag switch reserved limit => Sys2Proof.Machine.execRefConfigHub dt p tag switch reserved limit s
  | .refSelect dt p tag selection => Sys2Proof.Machine.execRefSelect dt p tag selection s
  | .linkConfig dt p tag link enable fields => Sys2Proof.Machine.execLinkConfig dt p tag link enable fields s
  | .linkStatus dt p tag link clear => Sys2Proof.Machine.execLinkStatus dt p tag link clear s
  | .linkReset dt p tag link => Sys2Proof.Machine.execLinkReset dt p tag link s
  | .stationBind dt p tag station link address rate components => Sys2Proof.Machine.execStationBind dt p tag station link address rate components s
  | .stationEnable dt p tag station => Sys2Proof.Machine.execStationEnable dt p tag station s
  | .stationDisable dt p tag station => Sys2Proof.Machine.execStationDisable dt p tag station s
  | .stationConfig dt p tag station fields => Sys2Proof.Machine.execStationConfig dt p tag station fields s
  | .stationStatus dt p tag station => Sys2Proof.Machine.execStationStatus dt p tag station s
  | .stationStats dt p tag station clear => Sys2Proof.Machine.execStationStats dt p tag station clear s
  | .calSet dt p tag station value => Sys2Proof.Machine.execCalSet dt p tag station value s
  | .calReserve dt p tag station => Sys2Proof.Machine.execCalReserve dt p tag station s
  | .calStage dt p tag station value => Sys2Proof.Machine.execCalStage dt p tag station value s
  | .calApply dt p tag station => Sys2Proof.Machine.execCalApply dt p tag station s
  | .probeNow dt p tag station => Sys2Proof.Machine.execProbeNow dt p tag station s
  | .epochList dt p tag clear => Sys2Proof.Machine.execEpochList dt p tag clear s
  | .epochSummary dt p tag epoch => Sys2Proof.Machine.execEpochSummary dt p tag epoch s
  | .contribFetch dt p tag epoch station position => Sys2Proof.Machine.execContribFetch dt p tag epoch station position s
  | .epochRelease dt p tag epoch => Sys2Proof.Machine.execEpochRelease dt p tag epoch s
  | .subscribe dt p tag switch => Sys2Proof.Machine.execSubscribe dt p tag switch s
  | .noticeMask dt p tag switches => Sys2Proof.Machine.execNoticeMask dt p tag switches s
  | .noticePoll dt p tag => Sys2Proof.Machine.execNoticePoll dt p tag s
  | .faultRead dt p tag => Sys2Proof.Machine.execFaultRead dt p tag s
  | .faultClear dt p tag => Sys2Proof.Machine.execFaultClear dt p tag s
  | .refMessage dt r intact locked second => Sys2Proof.Machine.execRefMessage dt r intact locked second s
  | .refPulse dt r => Sys2Proof.Machine.execRefPulse dt r s
  | .pulseWindowExpiry dt r => Sys2Proof.Machine.execPulseWindowExpiry dt r s
  | .epochDeadline dt => Sys2Proof.Machine.execEpochDeadline dt s
  | .burstOpen dt l bytes => Sys2Proof.Machine.execBurstOpen dt l bytes s
  | .burstClose dt l bytes => Sys2Proof.Machine.execBurstClose dt l bytes s
  | .burstByteLimit dt l bytes => Sys2Proof.Machine.execBurstByteLimit dt l bytes s
  | .carrierFall dt l bytes => Sys2Proof.Machine.execCarrierFall dt l bytes s
  | .carrierRise dt l => Sys2Proof.Machine.execCarrierRise dt l s
  | .carrierLossTimeout dt l => Sys2Proof.Machine.execCarrierLossTimeout dt l s
  | .noActivityTimeout dt l => Sys2Proof.Machine.execNoActivityTimeout dt l s
  | .headData dt l => Sys2Proof.Machine.execHeadData dt l s
  | .headMark dt l => Sys2Proof.Machine.execHeadMark dt l s
  | .headEcho dt l => Sys2Proof.Machine.execHeadEcho dt l s
  | .headFillEnd dt l => Sys2Proof.Machine.execHeadFillEnd dt l s
  | .headRestart dt l => Sys2Proof.Machine.execHeadRestart dt l s
  | .headDamaged dt l => Sys2Proof.Machine.execHeadDamaged dt l s
  | .headBurstFail dt l => Sys2Proof.Machine.execHeadBurstFail dt l s
  | .headLinkUp dt l => Sys2Proof.Machine.execHeadLinkUp dt l s
  | .headLinkDown dt l => Sys2Proof.Machine.execHeadLinkDown dt l s
  | .outboundFrameDone dt l => Sys2Proof.Machine.execOutboundFrameDone dt l s
  | .backfillGrant dt l => Sys2Proof.Machine.execBackfillGrant dt l s
  | .probeGrant dt l => Sys2Proof.Machine.execProbeGrant dt l s
  | .backfillResponseTimeout dt l => Sys2Proof.Machine.execBackfillResponseTimeout dt l s
  | .probeExpiry dt l => Sys2Proof.Machine.execProbeExpiry dt l s
  | .holdTimerExpiry dt n => Sys2Proof.Machine.execHoldTimerExpiry dt n s
  | .probeDue dt n => Sys2Proof.Machine.execProbeDue dt n s
  | .silenceTimerExpiry dt n => Sys2Proof.Machine.execSilenceTimerExpiry dt n s
  | .holdoverTimerExpiry dt n => Sys2Proof.Machine.execHoldoverTimerExpiry dt n s
  | .waitingListServe dt => Sys2Proof.Machine.execWaitingListServe dt s
  | .frameLengthOverLimit dt p bytes => Sys2Proof.Machine.execFrameLengthOverLimit dt p bytes s
  | .resetInputAsserted dt => Sys2Proof.Machine.execResetInputAsserted dt s

end Sys2Proof.Machine
end

