-- ==== Sys2Proof/Machine/Step.lean ====
section
/-! DEFINITION. One step: the command at the front of the queue is taken, or the part idles for a ms. -/

namespace Sys2Proof.Machine

/-- The ns that one idle step lasts: a ms of part time (DESIGN CHOICE, log 2). -/
def idleNs : Nat := 1000000

/-- An idle step: a ms of the oscillator passes; while the reset input is low nothing does (logs 2 and 8). -/
def State.idle (s : State) : State := if s.held then s else s.advance idleNs

/-- One step (log 1): the command at the front of the queue has its effect on the state with the queue's
rest, and with an empty queue the part idles. -/
def step (s : State) : Host.Outcome State Fault Refusal :=
  match s.pending with
  | c :: rest => exec c { s with pending := rest }
  | [] => .next s.idle

/-- The state with the command that a word spells put at the front of its queue, unchanged when the word
spells none (log 5). -/
def State.withFetchWord (s : State) (nbits w : Nat) : State :=
  match decodeTableWord nbits w with
  | some c => { s with pending := c :: s.pending }
  | none => s

end Sys2Proof.Machine
end

