-- ==== Sys2Proof/Safety.lean ====
section
/-! DEFINITION. What the spec says holds of the part at every moment: the invariants of each block; and the terms
in which the statements speak of a request and its reply. -/

namespace Sys2Proof.Machine

/-! ## Network time base -/

/-- The stages of a run count: those at or below it (R11). -/
def runStages (run : Nat) : BitVec 5 :=
  if 64 ≤ run then 0x1F else if 32 ≤ run then 0x0F else if 16 ≤ run then 0x07
  else if 8 ≤ run then 0x03 else if 4 ≤ run then 0x01 else 0

/-- A reference as R9 to R13 keep it: the depth is one of the five, the run count is at most 64, the stages are
those it has reached, and a run is under way exactly in STABILIZING and USABLE. -/
def Reference.sound (x : Reference) : Prop :=
  x.depth ∈ refDepths ∧ x.run ≤ runMax ∧ x.stages = runStages x.run ∧
    (x.state.running = true ↔ 1 ≤ x.run)

/-- The timebase as R6 and R13 to R18 keep it: hub time reads 0 in UNSET, the selection names an enabled
reference, a REFERENCED hub follows a USABLE reference, and the step limit is in its range. -/
def Timebase.sound (t : Timebase) : Prop :=
  t.refA.sound ∧ t.refB.sound ∧
    (t.hubState = .unset → t.hubTime = 0) ∧
    (∀ r, t.selection = some r → (t.ref r).state ≠ .off) ∧
    (t.hubState = .referenced → ∃ r, t.selection = some r ∧ (t.ref r).state = .usable) ∧
    1000 ≤ t.stepLimit ∧ t.stepLimit ≤ 1000000

/-! ## Links -/

/-- A link port as R25, R26, R37 and R40 keep it: the queue holds at most 64 entries, a blocked head is a DATA
entry, a disabled link holds nothing, identifiers are never 0, and the parameters are in their ranges. -/
def Link.sound (x : Link) : Prop :=
  x.queue.length ≤ queueSize ∧
    (x.blocked = true → ∃ r rest, x.queue = .data r :: rest) ∧
    (x.state = .off → x.queue = [] ∧ x.burst = none ∧ x.backfill = none ∧ x.probe = none ∧
      x.outbound = none ∧ x.noActivityDue = none ∧ x.carrierDue = none) ∧
    x.nextRequest ≠ 0 ∧ x.nextProbe ≠ 0 ∧
    (1 ≤ x.noActivity ∧ x.noActivity ≤ 255) ∧ (1 ≤ x.carrierLoss ∧ x.carrierLoss ≤ 255) ∧
    (-asymmetryLimit ≤ x.asymmetry ∧ x.asymmetry ≤ asymmetryLimit)

/-- Every link port is sound. -/
def State.linksSound (s : State) : Prop := ∀ l, (s.link l).sound

/-! ## Station table -/

/-- A configuration within the ranges and sets of the configuration table for a station of period P, and not
against the interlock (chapter 3, R55). -/
def StationConfig.inRange (period : Nat) (c : StationConfig) : Prop :=
  c.depth ∈ markDepths ∧ c.acqShift ≤ 4 ∧ c.trackShift ≤ 4 ∧
    (100 ≤ c.accept ∧ c.accept ≤ 1000000) ∧ (2 ≤ c.outlierLimit ∧ c.outlierLimit ≤ 8) ∧
    (100 ≤ c.tearTolerance ∧ c.tearTolerance ≤ period / 2) ∧ (1 ≤ c.holdTime ∧ c.holdTime ≤ 60) ∧
    (1 ≤ c.attempts ∧ c.attempts ≤ 3) ∧ (1 ≤ c.responseTimeout ∧ c.responseTimeout ≤ 120) ∧
    (c.probeInterval = 0 ∨ 10 ≤ c.probeInterval ∧ c.probeInterval ≤ 3600) ∧
    (1 ≤ c.maxRtt ∧ c.maxRtt ≤ 2000) ∧ (10 ≤ c.silence ∧ c.silence ≤ 3600) ∧
    (1 ≤ c.holdover ∧ c.holdover ≤ 1440) ∧
    (-calibrationLimit ≤ c.calibration ∧ c.calibration ≤ calibrationLimit) ∧
    c.interlocked = false

/-- A station slot as R49 to R55 keep it: an enabled station is bound and its configuration is in range, and a
disabled one has the reset configuration. -/
def Station.configured (x : Station) : Prop :=
  (x.enabled = true → x.binding.isSome = true ∧ x.config.inRange x.period) ∧
    (x.enabled = false → x.config = StationConfig.initial)

/-- Two stations share a link and an address (R50). -/
def sharePair (x y : Station) : Prop :=
  ∃ b c, x.binding = some b ∧ y.binding = some c ∧ b.link = c.link ∧ b.address = c.address

/-- The station table as R50 to R55 keep it; two enabled stations never share a pair (R51). -/
def State.tableSound (s : State) : Prop :=
  (∀ i, (s.station i).configured) ∧
    ∀ i j, (s.station i).enabled = true → (s.station j).enabled = true →
      sharePair (s.station i) (s.station j) → i = j

/-- An entry of the reservation table as R59 to R62 keep it: its station belongs to the bank and is enabled, and a
staged value is in range. -/
def State.reservationsSound (s : State) : Prop :=
  ∀ (b : Fin 4) (x : Reservation), s.reservations[b] = some x →
    bankOf x.station = b ∧ (s.station x.station).enabled = true ∧
      ∀ v, x.staged = some v → -calibrationLimit ≤ v ∧ v ≤ calibrationLimit

/-! ## Tracking -/

/-- A hold in ascending serial order from q, each seq 1 to 8 steps after it (R66, R70). -/
def holdSound (q : Seq) (hold : List Held) : Prop :=
  (∀ h ∈ hold, 1 ≤ stepsAfter q h.seq ∧ stepsAfter q h.seq ≤ 8) ∧
    hold.Pairwise fun a b => stepsAfter q a.seq < stepsAfter q b.seq

/-- A station's tracking as R66, R68, R70 and R76 keep it. -/
def Tracker.sound (t : Tracker) : Prop :=
  t.gaps.length ≤ gapLimit ∧
    match t.q with
    | none => t.hold = [] ∧ t.gaps = []
    | some q => holdSound q t.hold

/-- Every station's tracking is sound. -/
def State.trackingSound (s : State) : Prop := ∀ i, (s.station i).tracker.sound

/-! ## Clock models -/

/-- The stages of a ladder count: those at or below it (R120). -/
def ladderStages (count : Nat) : BitVec 7 :=
  if 64 ≤ count then 0x7F else if 32 ≤ count then 0x3F else if 16 ≤ count then 0x1F
  else if 8 ≤ count then 0x0F else if 4 ≤ count then 0x07 else if 2 ≤ count then 0x03
  else if 1 ≤ count then 0x01 else 0

/-- A clock model as R105, R112, R116, R118 and R120 keep it: ρ within its limits, the stages those the count has
reached, LOCKED and HOLDOVER with the count at or above the depth, an anchor outside UNSET, and the
silence timer running in LOCKED alone. -/
def Clock.sound (depth : Nat) (c : Clock) : Prop :=
  (-rhoLimit ≤ c.rho ∧ c.rho ≤ rhoLimit) ∧ c.count ≤ ladderMax ∧ c.stages = ladderStages c.count ∧
    (c.state = .locked ∨ c.state = .holdover → depth ≤ c.count) ∧
    (c.anchor = none ↔ c.state = .unset) ∧ (c.silenceDue ≠ none → c.state = .locked)

/-- Every station's clock is sound for its required depth. -/
def State.clocksSound (s : State) : Prop :=
  ∀ i, (s.station i).clock.sound (s.station i).config.depth

/-! ## Epochs, slots and the pool -/

/-- The epoch table holds at most sixteen epochs, in ascending number (R144). -/
def Assembler.sound (a : Assembler) : Prop :=
  a.table.length ≤ tableSize ∧ a.table.Pairwise fun x y => x.number < y.number

/-- The number of contributions in the epoch table. -/
def Assembler.contributionCount (a : Assembler) : Nat := (a.table.map fun e => e.contributions.length).sum

/-- The free count of the pool plus the contributions in the table is 16,384 (R172). -/
def State.poolSound (s : State) : Prop :=
  s.assembler.sound ∧ s.store.poolFree + s.assembler.contributionCount = poolSize

/-- The record slots in use are distinct slots numbered below 4,096 (R167). -/
def State.slotsSound (s : State) : Prop :=
  (s.store.slots.Pairwise fun x y => x.number < y.number) ∧ ∀ x ∈ s.store.slots, x.number < slotCount

/-- The waiting list holds the links whose heads are blocked, each once (R169). -/
def State.waitingSound (s : State) : Prop :=
  s.store.waiting.Nodup ∧ ∀ l, l ∈ s.store.waiting ↔ (s.link l).blocked = true

/-! ## Ports -/

/-- A message port as R181, R182 and R184 keep it: the buffer holds at most four frames and none without a pending
reply, and a line that sends a reply has one to send. -/
def Port.sound (p : Port) : Prop :=
  p.buffer.length ≤ bufferSize ∧ (p.reply = none → p.buffer = []) ∧
    (p.line = .reply → p.reply.isSome = true)

/-- The ports and the fault record as R179, R181, R182, R184, R188 and R189 keep them. -/
def State.portsSound (s : State) : Prop :=
  s.mp0.sound ∧ s.mp1.sound ∧ s.mp0.role = .control ∧ s.faultCount ≤ 255

/-! ## A request and its reply, in the terms of the statements -/

/-- The part runs, and port p takes a request the moment it arrives (R182). -/
def State.takesAt (s : State) (p : PortId) : Prop :=
  s.held = false ∧ (s.port p).reply = none ∧ (s.port p).buffer = []

/-- The state in which a request that arrives `dt` ns later is taken: its frame is counted and the receiver
hunts again (R180). -/
def State.requested (s : State) (dt : Nat) (p : PortId) : State :=
  (s.advance dt).modPort p fun x => { x with receiver := .hunting false, accepted := bump x.accepted }

/-- The state after a request: its reply pends at port p, with 0x80 added to the kind, and the event ends
(R183, R184). -/
def State.answered (s : State) (p : PortId) (kind : Byte) (tag : BitVec 16) (body : List Byte) : State :=
  (s.modPort p fun x => { x with reply := some { kind := kind + 0x80, tag := tag, body := body } }).endEvent

/-- The command that says that a frame with a request completes; REF_CONFIG has two rows, and a target that
is none of its codes has no row (log 4). -/
def Request.row (dt : Nat) (p : PortId) (tag : BitVec 16) : Request → Option Instr
  | .partInfo c => some (.partInfo dt p tag c)
  | .partReset => some (.partReset dt p tag)
  | .gridSet e o res l => some (.gridSet dt p tag e o res l)
  | .gridGet => some (.gridGet dt p tag)
  | .timebaseStatus c => some (.timebaseStatus dt p tag c)
  | .refConfig t sw res v =>
    if t = 1 then some (.refConfigReference dt p tag .refA sw res v)
    else if t = 2 then some (.refConfigReference dt p tag .refB sw res v)
    else if t = 3 then some (.refConfigHub dt p tag sw res v)
    else none
  | .refSelect x => some (.refSelect dt p tag x)
  | .linkConfig l en f => some (.linkConfig dt p tag l en f)
  | .linkStatus l c => some (.linkStatus dt p tag l c)
  | .linkReset l => some (.linkReset dt p tag l)
  | .stationBind i l a rate c => some (.stationBind dt p tag i l a rate c)
  | .stationEnable i => some (.stationEnable dt p tag i)
  | .stationDisable i => some (.stationDisable dt p tag i)
  | .stationConfig i f => some (.stationConfig dt p tag i f)
  | .stationStatus i => some (.stationStatus dt p tag i)
  | .stationStats i c => some (.stationStats dt p tag i c)
  | .calSet i v => some (.calSet dt p tag i v)
  | .calReserve i => some (.calReserve dt p tag i)
  | .calStage i v => some (.calStage dt p tag i v)
  | .calApply i => some (.calApply dt p tag i)
  | .probeNow i => some (.probeNow dt p tag i)
  | .epochList c => some (.epochList dt p tag c)
  | .epochSummary n => some (.epochSummary dt p tag n)
  | .contribFetch n i k => some (.contribFetch dt p tag n i k)
  | .epochRelease n => some (.epochRelease dt p tag n)
  | .subscribe sw => some (.subscribe dt p tag sw)
  | .noticeMask m => some (.noticeMask dt p tag m)
  | .noticePoll => some (.noticePoll dt p tag)
  | .faultRead => some (.faultRead dt p tag)
  | .faultClear => some (.faultClear dt p tag)

/-- A request that a control port alone may make, by its kind: the eleven of R189. -/
def controlKinds : List Byte := [0x02, 0x03, 0x06, 0x07, 0x08, 0x0A, 0x0B, 0x0C, 0x0D, 0x0E, 0x15]

/-- The kinds of R189 whose body begins with a station number (chapter 11, Request bodies). -/
def stationKinds : List Byte := [0x0B, 0x0C, 0x0D, 0x0E, 0x15]

/-! ## Bursts and link loss, in the terms of the statements -/

/-- The content of a DATA entry as a station writes it (chapter 11, Station bursts). -/
def dataContent (r : Record) : List Byte :=
  be 2 r.seq.toNat ++ be 5 r.kFirst.toNat ++ be 2 r.n ++ be 1 r.components ++ r.payload

/-- The bytes of a burst that its check covers: header and entries (chapter 11, Station bursts). -/
def burstCovered (address flags : Byte) (entries : List RawEntry) : List Byte :=
  address :: flags :: BitVec.ofNat 8 entries.length ::
    entries.flatMap fun e => e.kind :: (be 2 e.content.length ++ e.content)

/-- The code of a FILL_END status (chapter 11, Station bursts). -/
def FillStatus.code : FillStatus → Byte
  | .complete => 1
  | .partly => 2
  | .refused => 3

/-- Whether a queue entry is a DAMAGED entry. -/
def Entry.isDamaged : Entry → Bool
  | .damaged _ _ _ => true
  | _ => false

/-- What an entry of a matched burst becomes in the queue, an ECHO of good length apart, for a station of a period
and a component count: the entry that its fields spell, or a DAMAGED entry with the first fault in the order of R34 and
R197. -/
inductive EntryReads (i : StationId) (period components : Nat) : RawEntry → Entry → Prop where
  | data (r : Record) : r.station = i → 1 ≤ r.n → r.components = components → r.n * r.components ≤ 300 →
      r.payload.length = r.n * r.components * 3 →
      EntryReads i period components ⟨1, dataContent r⟩ (.data r)
  | mark (km : Counter40) (p sec : BitVec 32) (flags : Byte) : p.toNat < period →
      EntryReads i period components
        ⟨2, be 5 km.toNat ++ be 4 p.toNat ++ be 4 sec.toNat ++ [flags]⟩
        (.mark i km p sec (flags.getLsbD 0))
  | fillEnd (identifier : Byte) (st : FillStatus) :
      EntryReads i period components ⟨4, [identifier, st.code]⟩ (.fillEnd i identifier st)
  | otherKind (kind : Byte) (content : List Byte) : kind = 0 ∨ 4 < kind →
      EntryReads i period components ⟨kind, content⟩ (.damaged i kind .kind)
  | wrongLength (kind : Byte) (content : List Byte) :
      (kind = 1 ∧ content.length < 10) ∨ (kind = 2 ∧ content.length ≠ 14) ∨
        (kind = 3 ∧ content.length ≠ 10) ∨ (kind = 4 ∧ content.length ≠ 2) →
      EntryReads i period components ⟨kind, content⟩ (.damaged i kind .size)
  | noSample (seq : Seq) (k : Counter40) (m : Byte) (payload : List Byte) :
      EntryReads i period components
        ⟨1, be 2 seq.toNat ++ be 5 k.toNat ++ be 2 0 ++ m :: payload⟩ (.damaged i 1 .empty)
  | otherComponents (seq : Seq) (k : Counter40) (n : Nat) (m : Byte) (payload : List Byte) :
      1 ≤ n → n ≤ 65535 → m.toNat ≠ components →
      EntryReads i period components
        ⟨1, be 2 seq.toNat ++ be 5 k.toNat ++ be 2 n ++ m :: payload⟩ (.damaged i 1 .components)
  | wrongSize (seq : Seq) (k : Counter40) (n : Nat) (m : Byte) (payload : List Byte) :
      1 ≤ n → n ≤ 65535 → m.toNat = components →
      300 < n * m.toNat ∨ payload.length ≠ n * m.toNat * 3 →
      EntryReads i period components
        ⟨1, be 2 seq.toNat ++ be 5 k.toNat ++ be 2 n ++ m :: payload⟩ (.damaged i 1 .size)
  | latePhase (km : Counter40) (p sec : BitVec 32) (flags : Byte) : period ≤ p.toNat →
      EntryReads i period components
        ⟨2, be 5 km.toNat ++ be 4 p.toNat ++ be 4 sec.toNat ++ [flags]⟩ (.damaged i 2 .phase)
  | otherStatus (identifier status : Byte) : status = 0 ∨ 3 < status →
      EntryReads i period components ⟨4, [identifier, status]⟩ (.damaged i 4 .status)

/-- A burst that has just opened (R30). -/
def Burst.opened (stamp : Stamp) (seed : BitVec 16) : Burst :=
  { stamp := stamp, seed := seed, received := 0, escaped := false, badEscape := false, content := [] }

/-- What the loss of a request in flight on link l does to the stations: each gap that carries its identifier is
OPEN again with its damaged flag clear and its attempts kept, and nothing else of a station differs (R42,
R81). -/
def requestLost (s t : State) (l : LinkId) : Prop :=
  match (s.link l).backfill with
  | none => t.stations = s.stations
  | some b =>
    (∀ j, j ≠ b.station → t.station j = s.station j) ∧
    t.station b.station = { s.station b.station with
      tracker := { (s.station b.station).tracker with
        gaps := (s.station b.station).tracker.gaps.map fun g =>
          if g.request = some b.identifier then { g with request := none, damaged := false } else g } }

/-- What a failed burst leaves (R32, R36, R38): the link without it and with the failure counted, a BURST_FAIL entry
queued or lost as the mask and the queue say, and the request in flight damaged with its gaps unless it was damaged
before. `more` is what else the event does to the link. -/
def burstFails (s : State) (l : LinkId) (cause : FailCause) (address : Option Byte) (more : Link → Link)
    (t : State) : Prop :=
  let x := s.link l
  let full := queueSize ≤ x.queue.length
  let code : DamageCause := match cause with
    | .check => .check
    | .length => .length
  t.link l = more { x with
    burst := none, lastFailure := some cause
    queue := if x.maskBurstFail = true ∧ ¬ full then x.queue ++ [.burstFail address] else x.queue
    counters := { x.counters with
      checkFailures := bump x.counters.checkFailures
      controlLost := if x.maskBurstFail = true ∧ full then bump x.counters.controlLost
        else x.counters.controlLost }
    backfill := x.backfill.map fun b =>
      if b.damage = none then { b with damage := some code } else b } ∧
  (∀ k, k ≠ l → t.link k = s.link k) ∧
  (∀ b, x.backfill = some b → b.damage = none →
    (∀ j, j ≠ b.station → t.station j = s.station j) ∧
    t.station b.station = { s.station b.station with
      tracker := { (s.station b.station).tracker with
        gaps := (s.station b.station).tracker.gaps.map fun g =>
          if g.request = some b.identifier then { g with damaged := true } else g } }) ∧
  (x.backfill = none ∨ (∃ b, x.backfill = some b ∧ b.damage ≠ none) → t.stations = s.stations) ∧
  t.reservations = s.reservations ∧ t.assembler = s.assembler ∧ t.held = false ∧ t.pending = s.pending

/-- A link in which a control entry has been queued when a switch passes it, or lost on a full queue (R36). -/
def Link.withControl (x : Link) (passes : Bool) (e : Entry) : Link :=
  if passes = false then x
  else if x.queue.length < queueSize then { x with queue := x.queue ++ [e] }
  else { x with counters := { x.counters with controlLost := bump x.counters.controlLost } }

/-- The stations a link port may serve for a purpose, and the one among them that is served first: the lowest number
without a stamp, else the lowest stamp, equal stamps by number (R40, R43). -/
def servedFirst (stamp : StationId → Option (BitVec 64)) (may : StationId → Prop) (i : StationId) : Prop :=
  may i ∧
    ((stamp i = none ∧ ∀ j, may j → stamp j = none → i ≤ j) ∨
      ∃ n, stamp i = some n ∧ ∀ j, may j → ∃ m, stamp j = some m ∧ (n < m ∨ n = m ∧ i ≤ j))

/-- No FORMING epoch is complete as the state stands, as after every evaluation of R157. -/
def State.settled (s : State) : Prop :=
  ∀ g, s.timebase.grid = some g → ∀ e ∈ s.assembler.table, s.complete g e = false

end Sys2Proof.Machine
end

