-- ==== Sys2Proof/WellFormed.lean ====
section
/-! DEFINITION. Which commands are well formed: the byte operands are what their line can carry. Every other
operand is well formed by its type, and a meaning is given to ill-formed commands too. -/

namespace Sys2Proof

/-- Bytes on a link's receive line with no delimiter among them; a delimiter is a command of its own
(BURST_OPEN, BURST_CLOSE; chapter 11, Station bursts). -/
def noDelimiter (bytes : List Byte) : Bool := bytes.all fun b => decide (b ≠ 0xE6) && decide (b ≠ 0xE7)

/-- Whether a command is well formed. -/
def Instr.wellFormed : Instr → Bool
  | .powerOnReset _ => true
  | .frameComplete _ _ bytes => !bytes.isEmpty
  | .frameByteTimeout _ _ => true
  | .replySent _ _ => true
  | .noticeSent _ _ => true
  | .partInfo _ _ _ _ => true
  | .partReset _ _ _ => true
  | .gridSet _ _ _ _ _ _ _ => true
  | .gridGet _ _ _ => true
  | .timebaseStatus _ _ _ _ => true
  | .refConfigReference _ _ _ _ _ _ _ => true
  | .refConfigHub _ _ _ _ _ _ => true
  | .refSelect _ _ _ _ => true
  | .linkConfig _ _ _ _ _ _ => true
  | .linkStatus _ _ _ _ _ => true
  | .linkReset _ _ _ _ => true
  | .stationBind _ _ _ _ _ _ _ _ => true
  | .stationEnable _ _ _ _ => true
  | .stationDisable _ _ _ _ => true
  | .stationConfig _ _ _ _ _ => true
  | .stationStatus _ _ _ _ => true
  | .stationStats _ _ _ _ _ => true
  | .calSet _ _ _ _ _ => true
  | .calReserve _ _ _ _ => true
  | .calStage _ _ _ _ _ => true
  | .calApply _ _ _ _ => true
  | .probeNow _ _ _ _ => true
  | .epochList _ _ _ _ => true
  | .epochSummary _ _ _ _ => true
  | .contribFetch _ _ _ _ _ _ => true
  | .epochRelease _ _ _ _ => true
  | .subscribe _ _ _ _ => true
  | .noticeMask _ _ _ _ => true
  | .noticePoll _ _ _ => true
  | .faultRead _ _ _ => true
  | .faultClear _ _ _ => true
  | .refMessage _ _ _ _ _ => true
  | .refPulse _ _ => true
  | .pulseWindowExpiry _ _ => true
  | .epochDeadline _ => true
  | .burstOpen _ _ bytes => noDelimiter bytes
  | .burstClose _ _ bytes => noDelimiter bytes
  | .burstByteLimit _ _ bytes => noDelimiter bytes && !bytes.isEmpty
  | .carrierFall _ _ bytes => noDelimiter bytes
  | .carrierRise _ _ => true
  | .carrierLossTimeout _ _ => true
  | .noActivityTimeout _ _ => true
  | .headData _ _ => true
  | .headMark _ _ => true
  | .headEcho _ _ => true
  | .headFillEnd _ _ => true
  | .headRestart _ _ => true
  | .headDamaged _ _ => true
  | .headBurstFail _ _ => true
  | .headLinkUp _ _ => true
  | .headLinkDown _ _ => true
  | .outboundFrameDone _ _ => true
  | .backfillGrant _ _ => true
  | .probeGrant _ _ => true
  | .backfillResponseTimeout _ _ => true
  | .probeExpiry _ _ => true
  | .holdTimerExpiry _ _ => true
  | .probeDue _ _ => true
  | .silenceTimerExpiry _ _ => true
  | .holdoverTimerExpiry _ _ => true
  | .waitingListServe _ => true
  | .frameLengthOverLimit _ _ bytes => !bytes.isEmpty
  | .resetInputAsserted _ => true

end Sys2Proof
end

