-- ==== Sys2Proof/Certificates/Slice0/Obligations.lean ====
section
/-! DEFINITION. The statements for the provers, block by block. The rules named in a docstring say where its clauses
come from; a rule named may say more than the statement does. A log entry named is a choice of the model. -/

open Sys2Proof Sys2Proof.Machine

/-! ## The queue of commands, the resets, and the frames of the message ports -/

/-- A step takes the command at the front of the queue, and exec has its effect on the state with the queue's
rest; with an empty queue a running part idles for a ms, in which only time passes (logs 1 and 2). -/
def Obligations.StepRunsTheFrontCommand : Prop :=
  (∀ (c : Instr) (rest : List Instr) (s : State),
    step { s with pending := c :: rest } = exec c { s with pending := rest }) ∧
  (∀ s : State, s.pending = [] → s.held = false →
    step s = .next { s with timebase := { s.timebase with
      oscNs := s.timebase.oscNs + 1000000
      hubTime := if s.timebase.hubState = .unset then s.timebase.hubTime
        else s.timebase.hubTime + 1000000 } }) ∧
  (∀ s : State, s.pending = [] → s.held = true → step s = .next s)

/-- RESET_INPUT_ASSERTED stops a running part: time has passed, both lines are free and both receivers hunt, and
nothing else has changed; while the input is low no command but POWER_ON_RESET does anything (R192, log 8). -/
def Obligations.ResetInputStopsThePart : Prop :=
  (∀ (dt : Nat) (s : State), s.held = false →
    exec (.resetInputAsserted dt) s = .next
      { s.advance dt with
        held := true
        mp0 := { s.mp0 with receiver := .hunting false, line := .free }
        mp1 := { s.mp1 with receiver := .hunting false, line := .free } }) ∧
  (∀ (c : Instr) (s : State), s.held = true → (∀ r, c ≠ .powerOnReset r) → exec c s = .next s)

/-- POWER_ON_RESET answers the values the reset tables give, whatever the part was doing, with MP1's role from the
level of ROLE1; the commands that wait stay (R24, R47, R65, R66, R88, R105, R127, R144, R167, R179, R188). -/
def Obligations.PowerOnResetGivesTheResetValues : Prop :=
  ∀ (role1 : Bool) (s : State), ∃ t, exec (.powerOnReset role1) s = .next t ∧
    t.pending = s.pending ∧ t.held = false ∧
    (t.timebase.oscNs = 0 ∧ t.timebase.hubTime = 0 ∧ t.timebase.hubState = .unset ∧
      t.timebase.lastStep = 0 ∧ t.timebase.largeSteps = 0 ∧ t.timebase.selection = none ∧
      t.timebase.autoSelect = true ∧ t.timebase.stepLimit = 10000 ∧ t.timebase.grid = none) ∧
    (∀ r, (t.timebase.ref r).state = .off ∧ (t.timebase.ref r).run = 0 ∧ (t.timebase.ref r).stages = 0 ∧
      (t.timebase.ref r).depth = 16 ∧ (t.timebase.ref r).pendingSecond = none ∧
      (t.timebase.ref r).lastGood = none ∧ (t.timebase.ref r).window = none ∧
      (t.timebase.ref r).goodPulses = 0 ∧ (t.timebase.ref r).badPulses = 0 ∧
      (t.timebase.ref r).missedPulses = 0 ∧ (t.timebase.ref r).faults = 0 ∧
      (t.timebase.ref r).badMessages = 0) ∧
    (∀ l, t.link l =
      { state := .off, seed := 0x1F3C, noActivity := 30, carrierLoss := 40, asymmetry := 0,
        maskBurstFail := true, maskLinkDown := true, maskLinkUp := false, burst := none, queue := [],
        blocked := false, noActivityDue := none, carrierDue := none, backfill := none, probe := none,
        outbound := none, nextRequest := 1, nextProbe := 1, grants := 0,
        counters := { goodBursts := 0, checkFailures := 0, unboundBursts := 0, damagedEntries := 0,
                      queueOverruns := 0, controlLost := 0, disabledEntries := 0, staleFillEnds := 0,
                      responseTimeouts := 0, backfillSent := 0, probesSent := 0, staleEchoes := 0,
                      probeExpiries := 0 },
        lastFailure := none }) ∧
    (∀ i, (t.station i).binding = none ∧ (t.station i).enabled = false ∧
      (t.station i).config = StationConfig.initial ∧ (t.station i).counters = StationCounters.zero ∧
      (t.station i).backfillStamp = none ∧ (t.station i).probeStamp = none ∧
      (t.station i).tracker = { q := none, hold := [], holdDue := none, gaps := [], covered := none } ∧
      (t.station i).expectation = none ∧
      (t.station i).clock = { state := .unset, anchor := none, rho := 0, count := 0, stages := 0, outliers := 0,
                              residual := none, silenceDue := none, holdoverDue := none } ∧
      (t.station i).mark =
        { due := false, requested := false, schedule := none, lastSent := none, lastRtt := none }) ∧
    (∀ b : Fin 4, t.reservations[b] = none) ∧
    t.assembler = { table := [], freedMark := none, created := 0, closedComplete := 0,
                    closedDeadline := 0, evictions := 0, freed := 0 } ∧
    t.store = { slots := [], poolFree := 16384, waiting := [], headBlocks := 0, forcedFrees := 0,
                poolShortages := 0, peakSlots := 0, peakEntries := 0 } ∧
    (∀ p, t.port p =
      { role := if p = .mp0 ∨ role1 = true then .control else .observe, receiver := .hunting false,
        buffer := [], reply := none, line := .free, notices := 0, mask := 0xFF, subscribed := false,
        accepted := 0, badFrames := 0, lostRequests := 0, repliesSent := 0, noticesSent := 0,
        forcedFrees := 0 }) ∧
    t.faultRecord = none ∧ t.faultCount = 0

/-- Kind and body decoding reads back every request, with every operand at every value its layout admits; and a kind
and a body that decode to a request are the kind and the body it is written with, so that no byte of an accepted body is
dropped, undefined presence bits included. -/
def Obligations.RequestCodingAgreesBothWays : Prop :=
  ∀ (kind : Byte) (body : List Byte) (r : Request),
    decodeRequest kind body = .request r ↔ requestKind r = kind ∧ requestBody r = body

/-- The bytes of a good frame that carries a request, arriving at a hunting receiver, are the same event as the
request's own row, whether the port is idle or busy (log 4). -/
def Obligations.FrameOnTheLineIsItsRequest : Prop :=
  ∀ (dt : Nat) (p : PortId) (tag : BitVec 16) (r : Request) (c : Instr) (s : State) (saw : Bool),
    Request.row dt p tag r = some c → (s.port p).receiver = .hunting saw →
      exec (.frameComplete dt p (requestFrame r tag).bytes) s = exec c s

/-- A good frame whose kind names no request (a NOTICE among them) is answered UNKNOWN_KIND, and one whose kind names a
request but whose body no request of that kind has is answered BAD_LENGTH; nothing else changes. A frame whose carried
check is not the computed one, one whose length is above 1,024 and one whose bytes have stopped for 100 ms are
discarded: "bad frames" is counted, the receiver hunts again, and nothing else but time changes; before the 100 ms have
passed only time changes (R180, R182, R194, R196). The kind of the reply to a frame whose kind is 0x80 or above, the
sum taken modulo 256, is the model's choice (log 25). -/
def Obligations.FramesWithoutARequest : Prop :=
  (∀ (dt : Nat) (p : PortId) (f : Frame) (s : State) (saw : Bool),
     s.takesAt p → (s.port p).receiver = .hunting saw → f.body.length ≤ 1024 →
     (f.kind = 0 ∨ 0x1E < f.kind →
       exec (.frameComplete dt p f.bytes) s =
         .next ((s.requested dt p).answered p f.kind f.tag [2])) ∧
     (1 ≤ f.kind → f.kind ≤ 0x1E → (∀ r, requestKind r = f.kind → requestBody r ≠ f.body) →
       exec (.frameComplete dt p f.bytes) s =
         .next ((s.requested dt p).answered p f.kind f.tag [3]))) ∧
  (∀ (dt : Nat) (p : PortId) (s : State), s.held = false →
     let gone := ((s.advance dt).modPort p fun x =>
       { x with receiver := .hunting false, badFrames := bump x.badFrames }).endEvent
     (∀ (saw : Bool) (f : Frame) (check : BitVec 16), (s.port p).receiver = .hunting saw →
       f.body.length ≤ 1024 → check ≠ crc 0xFFFF f.covered →
         exec (.frameComplete dt p (0xA5 :: 0x5A :: f.covered ++ be 2 check.toNat)) s = .next gone) ∧
     (∀ (saw : Bool) (h l : Byte), (s.port p).receiver = .hunting saw →
       1024 < 256 * h.toNat + l.toNat →
         exec (.frameLengthOverLimit dt p [0xA5, 0x5A, h, l]) s = .next gone) ∧
     (∀ (bytes : List Byte) (due : Nat), (s.port p).receiver = .inside bytes due →
       (due ≤ (s.advance dt).partTime → exec (.frameByteTimeout dt p) s = .next gone) ∧
       ((s.advance dt).partTime < due →
         exec (.frameByteTimeout dt p) s = .next (s.advance dt).endEvent)))

/-- A request that arrives while a reply pends waits in the input buffer, or is lost when four frames wait
already; nothing else changes (R181, R182). -/
def Obligations.BusyPortBuffersOrLosesTheRequest : Prop :=
  ∀ (dt : Nat) (p : PortId) (tag : BitVec 16) (r : Request) (c : Instr) (s : State),
    Request.row dt p tag r = some c → s.held = false → (s.port p).reply ≠ none →
    ((s.port p).buffer.length < 4 →
      exec c s = .next (((s.requested dt p).modPort p fun x =>
        { x with buffer := x.buffer ++
            [{ kind := requestKind r, tag := tag, body := requestBody r }] }).endEvent)) ∧
    (4 ≤ (s.port p).buffer.length →
      exec c s = .next (((s.requested dt p).modPort p fun x =>
        { x with lostRequests := bump x.lostRequests }).endEvent))

/-- When the last byte of a reply has been sent, the line is free and the reply counted; the frame at the head of
the input buffer, if there is one, is judged in the same event and its reply pends before the line chooses
(R182, R184): a kind that names no request is answered UNKNOWN_KIND, a body that no request of its kind has BAD_LENGTH,
one of the eleven requests of R189 at an observe port NOT_PERMITTED with the fault recorded, and any other request as its
owner answers it. The reply to PART_RESET is the one exception (R191). The kind of the reply to a frame whose kind is 0x80
or above, the sum taken modulo 256, is the model's choice (log 25). -/
def Obligations.ReplySentTakesTheNextRequest : Prop :=
  ∀ (dt : Nat) (p : PortId) (s : State) (f : Frame), s.held = false →
    (s.port p).line = .reply → (s.port p).reply = some f → ¬ (f.kind = 0x82 ∧ f.body = [0]) →
    ((s.port p).buffer = [] →
      exec (.replySent dt p) s = .next ((s.advance dt).modPort p fun x =>
        { x with reply := none, line := .free, repliesSent := bump x.repliesSent }).endEvent) ∧
    (∀ (r : Request) (tag : BitVec 16) (rest : List Frame),
      (s.port p).buffer = { kind := requestKind r, tag := tag, body := requestBody r } :: rest →
      let u := (s.advance dt).modPort p fun x =>
        { x with reply := none, line := .free, repliesSent := bump x.repliesSent, buffer := rest }
      exec (.replySent dt p) s =
        .next ((u.serve p r).1.answered p (requestKind r) tag (u.serve p r).2) ∧
      (requestKind r ∉ controlKinds ∨ (s.port p).role = .control → u.serve p r = u.answer p r) ∧
      (requestKind r ∈ controlKinds → (s.port p).role = .observe →
        exec (.replySent dt p) s = .next (({ u with
          faultRecord := some
            { port := p, kind := requestKind r,
              station := if requestKind r ∈ stationKinds then (requestBody r).head? else none }
          faultCount := min (s.faultCount + 1) 255
          mp0 := { u.mp0 with notices := u.mp0.notices ||| (0x40 &&& u.mp0.mask) }
          mp1 := { u.mp1 with notices := u.mp1.notices ||| (0x40 &&& u.mp1.mask) } } : State).answered p
            (requestKind r) tag [5]))) ∧
    (∀ (waiting : Frame) (rest : List Frame), (s.port p).buffer = waiting :: rest →
      let u := (s.advance dt).modPort p fun x =>
        { x with reply := none, line := .free, repliesSent := bump x.repliesSent, buffer := rest }
      (waiting.kind = 0 ∨ 0x1E < waiting.kind →
        exec (.replySent dt p) s = .next (u.answered p waiting.kind waiting.tag [2])) ∧
      (1 ≤ waiting.kind → waiting.kind ≤ 0x1E →
        (∀ r, requestKind r = waiting.kind → requestBody r ≠ waiting.body) →
        exec (.replySent dt p) s = .next (u.answered p waiting.kind waiting.tag [3])))

/-- PART_RESET on a control port only answers OK; when the last byte of that reply has been sent, every block takes
the values of a power-on reset and both roles are kept (R191). -/
def Obligations.PartResetFollowsItsReply : Prop :=
  (∀ (dt : Nat) (p : PortId) (tag : BitVec 16) (s : State), s.takesAt p → (s.port p).role = .control →
    exec (.partReset dt p tag) s = .next ((s.requested dt p).answered p 0x02 tag [0])) ∧
  (∀ (dt : Nat) (p : PortId) (tag : BitVec 16) (role1 : Bool) (s : State), s.held = false →
    (s.port p).line = .reply → (s.port p).reply = some { kind := 0x82, tag := tag, body := [0] } →
    s.mp0.role = .control → s.mp1.role = (if role1 then .control else .observe) →
      exec (.replySent dt p) s = exec (.powerOnReset role1) s)

/-- When the last byte of a NOTICE has been sent it is counted, and the free line chooses: a pending reply first,
else a NOTICE with the whole set and the part time, which empties the set, else nothing (R184). -/
def Obligations.NoticeSentFreesTheLine : Prop :=
  ∀ (dt : Nat) (p : PortId) (s : State) (set : BitVec 8) (t0 : Nat), s.held = false →
    (s.port p).line = .notice set t0 → ∃ t, exec (.noticeSent dt p) s = .next t ∧
      (∀ f, (s.port p).reply = some f → t.port p = { s.port p with
        line := .reply, noticesSent := bump (s.port p).noticesSent }) ∧
      ((s.port p).reply = none → (s.port p).notices ≠ 0 → t.port p = { s.port p with
        line := .notice (s.port p).notices (s.advance dt).partTime, notices := 0,
        noticesSent := bump (s.port p).noticesSent }) ∧
      ((s.port p).reply = none → (s.port p).notices = 0 → t.port p = { s.port p with
        line := .free, noticesSent := bump (s.port p).noticesSent }) ∧
      (∀ q, q ≠ p → t.port q = (s.advance dt).endEvent.port q) ∧
      t.timebase = (s.advance dt).timebase ∧ t.links = s.links ∧ t.stations = s.stations ∧
      t.reservations = s.reservations ∧ t.assembler = s.assembler ∧
      t.store = (s.advance dt).endEvent.store ∧ t.faultRecord = s.faultRecord ∧
      t.faultCount = s.faultCount ∧ t.held = false ∧ t.pending = s.pending

/-- No command leaves a free outbound line with something to send: after every command that answers a running part,
a port whose line is free has no pending reply and an empty notice set (R184, log 14). -/
def Obligations.FreeLineHasNothingToSend : Prop :=
  ∀ (c : Instr) (s t : State), exec c s = .next t → t.held = false →
    ∀ p, (t.port p).line = .free → (t.port p).reply = none ∧ (t.port p).notices = 0

/-- Each of the eleven requests of R189, arriving at an observe port that takes it, as its row or as the bytes of its
frame, is answered NOT_PERMITTED: the fault record is overwritten with the port, the kind and the station byte as
carried, the fault count rises to at most 255, FAULT enters each set whose mask passes it, and the change asked for is
not made. Every other request, and every request on a control port, is taken as its owner answers it, and of them all
FAULT_CLEAR alone touches the fault record or the count; a frame refused at the kind or length test touches neither. -/
def Obligations.ObserveRequestIsRefused : Prop :=
  (∀ (dt : Nat) (p : PortId) (tag : BitVec 16) (r : Request) (c : Instr) (s : State) (saw : Bool),
     requestKind r ∈ controlKinds → s.takesAt p → (s.port p).role = .observe →
     (s.port p).receiver = .hunting saw →
     (Request.row dt p tag r = some c ∨ c = .frameComplete dt p (requestFrame r tag).bytes) →
     let u := s.requested dt p
     exec c s = .next (({ u with
         faultRecord := some
           { port := p, kind := requestKind r,
             station := if requestKind r ∈ stationKinds then (requestBody r).head? else none }
         faultCount := min (s.faultCount + 1) 255
         mp0 := { u.mp0 with notices := u.mp0.notices ||| (0x40 &&& u.mp0.mask) }
         mp1 := { u.mp1 with notices := u.mp1.notices ||| (0x40 &&& u.mp1.mask) } } : State).answered p
           (requestKind r) tag [5])) ∧
  (∀ (dt : Nat) (p : PortId) (tag : BitVec 16) (r : Request) (c : Instr) (s : State),
    Request.row dt p tag r = some c → s.takesAt p → requestKind r ∉ controlKinds ∨ (s.port p).role = .control →
    let answer := (s.requested dt p).answer p r
    exec c s = .next (answer.1.answered p (requestKind r) tag answer.2) ∧
    (r ≠ .faultClear → answer.1.faultRecord = s.faultRecord ∧ answer.1.faultCount = s.faultCount)) ∧
  (∀ (dt : Nat) (p : PortId) (f : Frame) (s : State) (saw : Bool),
    s.takesAt p → (s.port p).receiver = .hunting saw → f.body.length ≤ 1024 →
    (∀ r, decodeRequest f.kind f.body ≠ .request r) →
    ∃ t, exec (.frameComplete dt p f.bytes) s = .next t ∧ t.faultRecord = s.faultRecord ∧
      t.faultCount = s.faultCount)

/-- NOTICE_MASK with eight switches makes the carried mask the port's own and takes the kinds switched OFF out of
its set, on either role, and changes the other port in nothing; with any other switch byte it is
refused with BAD_VALUE and changes nothing; a port with every kind OFF takes no kind that is raised, so its set
stays empty (R186). -/
def Obligations.NoticeMaskReplacesTheMask : Prop :=
  (∀ (dt : Nat) (p : PortId) (tag : BitVec 16) (e st g l r so f pr : Bool) (s : State), s.takesAt p →
    let mask : BitVec 8 := BitVec.ofNat 8 (e.toNat + 2 * st.toNat + 4 * g.toNat + 8 * l.toNat +
      16 * r.toNat + 32 * so.toNat + 64 * f.toNat + 128 * pr.toNat)
    exec (.noticeMask dt p tag
        { epoch := boolByte e, station := boolByte st, gap := boolByte g, link := boolByte l,
          reference := boolByte r, store := boolByte so, fault := boolByte f, probe := boolByte pr }) s =
      .next (((s.requested dt p).modPort p fun x =>
        { x with mask := mask, notices := x.notices &&& mask }).answered p 0x1B tag
          [0, mask, (s.port p).notices &&& mask])) ∧
  (∀ (dt : Nat) (p : PortId) (tag : BitVec 16) (m : KindSwitches) (s : State), s.takesAt p →
    (∃ b ∈ [m.epoch, m.station, m.gap, m.link, m.reference, m.store, m.fault, m.probe],
      b ≠ 0 ∧ b ≠ 1) →
    exec (.noticeMask dt p tag m) s = .next ((s.requested dt p).answered p 0x1B tag [4])) ∧
  (∀ (x : Port) (k : NoticeKind), x.mask = 0 → x.notices = 0 → (x.raise k).notices = 0)

/-- NOTICE_POLL answers OK with the port's notice set and empties the set in the same event, on either role. A NOTICE
whose first byte goes out first carries the whole set and leaves it empty to the poll; a line that is free after the poll
sends no NOTICE; a kind raised after the poll enters the emptied set (R187). -/
def Obligations.NoticePollEmptiesTheSet : Prop :=
  (∀ (dt : Nat) (p : PortId) (tag : BitVec 16) (s : State), s.takesAt p →
    exec (.noticePoll dt p tag) s =
      .next (((s.requested dt p).modPort p fun x => { x with notices := 0 }).answered p 0x1C tag
        [0, (s.port p).notices])) ∧
  (∀ (x : Port) (now : Nat), x.line = .free → x.reply = none →
    (x.notices ≠ 0 → x.choose now = { x with line := .notice x.notices now, notices := 0 }) ∧
    (x.notices = 0 → x.choose now = x)) ∧
  (∀ (x : Port) (k : NoticeKind), x.notices = 0 → (x.raise k).notices = k.bit &&& x.mask)

/-- FAULT_READ answers OK with the fault record and the fault count and changes nothing; FAULT_CLEAR answers with
the same and then makes the record none and the count 0, and raises nothing (R190). -/
def Obligations.FaultReadAndFaultClear : Prop :=
  ∀ (dt : Nat) (p : PortId) (tag : BitVec 16) (s : State), s.takesAt p →
    let record : List Byte := match s.faultRecord with
      | none => [0, 0, 0, 0, 0]
      | some x =>
        [1, if x.port = .mp0 then 0 else 1, x.kind, if x.station.isSome then 1 else 0, x.station.getD 0]
    let body : List Byte := 0 :: record ++ [BitVec.ofNat 8 s.faultCount]
    exec (.faultRead dt p tag) s = .next ((s.requested dt p).answered p 0x1D tag body) ∧
    exec (.faultClear dt p tag) s =
      .next (({ s.requested dt p with faultRecord := none, faultCount := 0 } : State).answered p 0x1E tag
        body)

/-! ## Status requests -/

/-- PART_INFO, TIMEBASE_STATUS, LINK_STATUS, STATION_STATS and EPOCH_LIST (on a set grid) answer OK with their report on
either role; with the clear flag their counters alone are set to 0 after the values are in the reply (for PART_INFO the
peaks become the present numbers in use), and a flag that is neither 0 nor 1 is refused with BAD_VALUE. On an unset grid
EPOCH_LIST answers NO_GRID (whatever its flag: log 18); a link above 5 and a station above 47 are refused with BAD_VALUE.
STATION_STATUS changes nothing, and shows a disabled station with the values of R50 (R23, R46, R63, R64, R164, R178,
R193, R195). -/
def Obligations.StatusRequestsReportAndClear : Prop :=
  ∀ (dt : Nat) (p : PortId) (tag : BitVec 16) (l : LinkId) (i : StationId) (s : State), s.takesAt p →
    let u := s.requested dt p
    (∀ clear : Option Byte, clear = none ∨ clear = some 0 →
      exec (.partInfo dt p tag clear) s = .next (u.answered p 0x01 tag (0 :: u.partReport)) ∧
      exec (.timebaseStatus dt p tag clear) s = .next (u.answered p 0x05 tag (0 :: u.timebaseReport)) ∧
      exec (.linkStatus dt p tag (linkByte l) clear) s =
        .next (u.answered p 0x09 tag (0 :: (s.link l).report)) ∧
      exec (.stationStats dt p tag (stationByte i) clear) s =
        .next (u.answered p 0x10 tag (0 :: (s.station i).counters.fields)) ∧
      (s.timebase.grid ≠ none →
        exec (.epochList dt p tag clear) s = .next (u.answered p 0x16 tag (0 :: u.epochReport)))) ∧
    (exec (.partInfo dt p tag (some 1)) s =
        .next (({ u with
          mp0 := { u.mp0 with accepted := 0, badFrames := 0, lostRequests := 0, repliesSent := 0,
                              noticesSent := 0, forcedFrees := 0 }
          mp1 := { u.mp1 with accepted := 0, badFrames := 0, lostRequests := 0, repliesSent := 0,
                              noticesSent := 0, forcedFrees := 0 }
          store := { u.store with
            headBlocks := 0, forcedFrees := 0, poolShortages := 0
            peakSlots := u.store.slots.length, peakEntries := 16384 - u.store.poolFree } } :
              State).answered p 0x01 tag (0 :: u.partReport)) ∧
      exec (.timebaseStatus dt p tag (some 1)) s =
        .next ((u.modTimebase fun t =>
          { t with
            largeSteps := 0
            refA := { t.refA with goodPulses := 0, badPulses := 0, missedPulses := 0, faults := 0,
                                  badMessages := 0 }
            refB := { t.refB with goodPulses := 0, badPulses := 0, missedPulses := 0, faults := 0,
                                  badMessages := 0 } }).answered p 0x05 tag (0 :: u.timebaseReport)) ∧
      exec (.linkStatus dt p tag (linkByte l) (some 1)) s =
        .next ((u.modLink l fun x =>
          { x with counters := LinkCounters.zero, lastFailure := none }).answered p 0x09 tag
            (0 :: (s.link l).report)) ∧
      exec (.stationStats dt p tag (stationByte i) (some 1)) s =
        .next ((u.modStation i fun x => { x with counters := StationCounters.zero }).answered p 0x10 tag
          (0 :: (s.station i).counters.fields)) ∧
      (s.timebase.grid ≠ none →
        exec (.epochList dt p tag (some 1)) s =
          .next ((u.modAssembler fun a => { a with
            created := 0, closedComplete := 0, closedDeadline := 0, evictions := 0,
            freed := 0 }).answered p 0x16 tag (0 :: u.epochReport)))) ∧
    (∀ b : Byte, b ≠ 0 → b ≠ 1 →
      exec (.partInfo dt p tag (some b)) s = .next (u.answered p 0x01 tag [4]) ∧
      exec (.timebaseStatus dt p tag (some b)) s = .next (u.answered p 0x05 tag [4]) ∧
      exec (.linkStatus dt p tag (linkByte l) (some b)) s = .next (u.answered p 0x09 tag [4]) ∧
      exec (.stationStats dt p tag (stationByte i) (some b)) s = .next (u.answered p 0x10 tag [4]) ∧
      (s.timebase.grid ≠ none → exec (.epochList dt p tag (some b)) s = .next (u.answered p 0x16 tag [4]))) ∧
    (∀ clear : Option Byte, s.timebase.grid = none →
      exec (.epochList dt p tag clear) s = .next (u.answered p 0x16 tag [0x0B])) ∧
    (∀ (b : Byte) (clear : Option Byte), 5 < b →
      exec (.linkStatus dt p tag b clear) s = .next (u.answered p 0x09 tag [4])) ∧
    (∀ (b : Byte) (clear : Option Byte), 47 < b →
      exec (.stationStats dt p tag b clear) s = .next (u.answered p 0x10 tag [4]) ∧
      exec (.stationStatus dt p tag b) s = .next (u.answered p 0x0F tag [4])) ∧
    exec (.stationStatus dt p tag (stationByte i)) s =
      .next (u.answered p 0x0F tag (0 :: u.stationReport i)) ∧
    ((s.station i).enabled = false → u.stationReport i = (u.setStation i { Station.initial with
      binding := (s.station i).binding, backfillStamp := (s.station i).backfillStamp,
      probeStamp := (s.station i).probeStamp }).stationReport i)

/-- Every report has the length that the layouts of chapter 11 add up to (an EPOCH_SUMMARY 51 bytes and two for each
station with contributions, an EPOCH_LIST 41 and fifteen for each epoch), and each fits behind the result code into a
body of 1,024 bytes, an EPOCH_LIST of a table of at most sixteen epochs and a CONTRIB_FETCH of a payload of at most 900
bytes, whose body is then at most 941 (R144, R164 to R166, R180). -/
def Obligations.ReportsHaveTheirLayoutLengths : Prop :=
  (∀ s : State, s.partReport.length = 121) ∧
  (∀ s : State, s.timebaseReport.length = 113) ∧
  (∀ x : Link, x.report.length = 106) ∧
  (∀ (s : State) (i : StationId), (s.stationReport i).length = 105) ∧
  (∀ c : StationCounters, c.fields.length = 108) ∧
  (∀ s : State, s.epochReport.length = 41 + 15 * s.assembler.table.length ∧
    (s.assembler.sound → (0 :: s.epochReport).length ≤ 1024)) ∧
  (∀ (g : Grid) (e : Epoch),
    (e.report g).length =
      51 + 2 * allStations.countP (fun i => e.contributions.any fun c => decide (c.station = i)) ∧
    (0 :: e.report g).length ≤ 148) ∧
  (∀ (c : Contribution) (x : Slot), x.record.payload.length ≤ 900 →
    (c.report x).length = 40 + x.record.payload.length ∧ (0 :: c.report x).length ≤ 941)

/-- EPOCH_SUMMARY and CONTRIB_FETCH, on either role, answer NO_GRID, BAD_VALUE, NO_EPOCH or NO_ENTRY in that order,
and otherwise OK with the epoch's fields, or with the contribution and the whole stored record it names; they change
nothing (R165, R166). That the position is read as an unsigned number is log 45. -/
def Obligations.EpochsAreReadWithoutChange : Prop :=
  ∀ (dt : Nat) (p : PortId) (tag : BitVec 16) (n : BitVec 64) (k : BitVec 16) (b : Byte) (s : State),
    s.takesAt p →
    let u := s.requested dt p
    (s.timebase.grid = none →
      exec (.epochSummary dt p tag n) s = .next (u.answered p 0x17 tag [0x0B]) ∧
      exec (.contribFetch dt p tag n b k) s = .next (u.answered p 0x18 tag [0x0B])) ∧
    (∀ g, s.timebase.grid = some g →
      (47 < b → exec (.contribFetch dt p tag n b k) s = .next (u.answered p 0x18 tag [4])) ∧
      ((∀ e ∈ s.assembler.table, (e.number : Int) ≠ n.toInt) →
        exec (.epochSummary dt p tag n) s = .next (u.answered p 0x17 tag [0x0C]) ∧
        (b ≤ 47 → exec (.contribFetch dt p tag n b k) s = .next (u.answered p 0x18 tag [0x0C]))) ∧
      (∀ e ∈ s.assembler.table, s.assembler.sound → (e.number : Int) = n.toInt →
        exec (.epochSummary dt p tag n) s = .next (u.answered p 0x17 tag (0 :: (be 8 e.number ++
          beInt 8 ((g.o + e.number * g.e : Int) * 1000000000) ++
          beInt 8 ((g.o + e.number * g.e + g.e : Int) * 1000000000) ++
          beInt 8 ((g.o + e.number * g.e + g.e + g.l : Int) * 1000000000) ++
          [if e.state = .forming then 0 else 1,
            if e.state = .closedComplete then 1 else if e.state = .closedDeadline then 2 else 0,
            if e.amended then 1 else 0] ++ be 2 e.late ++ setBytes e.expected ++ setBytes e.present ++
          [e.needed.byte, e.released.byte] ++
          (allStations.filter fun i => e.contributions.any fun c => decide (c.station = i)).flatMap fun i =>
            be 2 (e.contributions.countP fun c => decide (c.station = i))))) ∧
        (∀ i : StationId, b = stationByte i →
          let list := e.contributions.filter fun c => decide (c.station = i)
          (list.length ≤ k.toNat →
            exec (.contribFetch dt p tag n b k) s = .next (u.answered p 0x18 tag [0x0E])) ∧
          (∀ c x, list[k.toNat]? = some c → s.slot? c.slot = some x →
            exec (.contribFetch dt p tag n b k) s = .next (u.answered p 0x18 tag (0 :: (
              b :: (be 2 c.slot ++ be 2 c.i0 ++ be 2 c.count ++ beInt 8 c.offset ++ beInt 8 c.start ++
                be 2 c.n ++ beInt 4 c.rho ++ [c.quality.code, c.flags] ++ be 2 x.record.seq.toNat ++
                be 5 x.record.kFirst.toNat ++ be 1 x.record.components ++
                [match x.timing with
                  | some t => t.path.code
                  | none => 0] ++ x.record.payload))))))))

/-! ## Network time base -/

/-- GRID_SET on a control port: on a set grid ALREADY_SET, whatever the values; with E outside its set or an
undefined presence bit BAD_VALUE; otherwise the grid is set, O clamped to E − 1, L clamped to 1 to 600 and 30 when
absent, and the reply carries the three (R20). The order of the first two tests where bits are undefined is log 17. That
a carried O and L are read as unsigned numbers, so that 0xFF gives E − 1 and 0xFFFF gives 600, is log 45. -/
def Obligations.GridIsSetOnce : Prop :=
  ∀ (dt : Nat) (p : PortId) (tag : BitVec 16) (e o : Byte) (reserved : BitVec 7)
    (l : Option (BitVec 16)) (s : State), s.takesAt p → (s.port p).role = .control →
    let u := s.requested dt p
    (s.timebase.grid ≠ none →
      exec (.gridSet dt p tag e o reserved l) s = .next (u.answered p 0x03 tag [10])) ∧
    (s.timebase.grid = none → e ∉ ([1, 2, 5, 10, 20, 30, 60] : List Byte) ∨ reserved ≠ 0 →
      exec (.gridSet dt p tag e o reserved l) s = .next (u.answered p 0x03 tag [4])) ∧
    (s.timebase.grid = none → e ∈ ([1, 2, 5, 10, 20, 30, 60] : List Byte) → reserved = 0 →
      let o' : Nat := min o.toNat (e.toNat - 1)
      let l' : Nat := match l with
        | some v => if v.toNat = 0 then 1 else if 600 < v.toNat then 600 else v.toNat
        | none => 30
      exec (.gridSet dt p tag e o reserved l) s =
        .next ((u.modTimebase fun t => { t with grid := some { e := e.toNat, o := o', l := l' } }).answered
          p 0x03 tag [0, e, BitVec.ofNat 8 o', BitVec.ofNat 8 (l' / 256), BitVec.ofNat 8 l']))

/-- GRID_GET on either role: NO_GRID alone while the grid is unset; with the grid set OK with E, O and L, and beside
them the hub epoch with the hub time it was computed from, absent while the hub is UNSET. -/
def Obligations.GridGetReportsTheGrid : Prop :=
  ∀ (dt : Nat) (p : PortId) (tag : BitVec 16) (s : State), s.takesAt p →
    let u := s.requested dt p
    (s.timebase.grid = none → exec (.gridGet dt p tag) s = .next (u.answered p 0x04 tag [0x0B])) ∧
    (∀ g, s.timebase.grid = some g →
      let values := be 1 g.e ++ be 1 g.o ++ be 2 g.l
      (s.timebase.hubState = .unset → exec (.gridGet dt p tag) s =
        .next (u.answered p 0x04 tag (0 :: values ++ List.replicate 17 0))) ∧
      (s.timebase.hubState ≠ .unset → exec (.gridGet dt p tag) s =
        .next (u.answered p 0x04 tag (0 :: values ++ 1 ::
          beInt 8 (Int.fdiv (s.timebase.hubTime + dt - g.o * 1000000000) (g.e * 1000000000)) ++
          beInt 8 (s.timebase.hubTime + dt)))))

/-- REF_CONFIG to a reference on a control port: a switch, depth or presence byte outside its values is refused with
BAD_VALUE, OFF on the selected reference with IN_USE (in that order: log 16); otherwise ON starts a disabled
reference in ABSENT and OFF puts an enabled one in OFF, each with no run, no stages, no pending second and the
window stopped, a switch that changes nothing leaves the rest as it was, a depth carried is stored, and the counters
are kept (R13).

REF_CONFIG to the hub on a control port: a flag outside ON and OFF or an undefined presence bit is refused with
BAD_VALUE; otherwise the flag is stored and the limit, when carried, clamped to 1,000 to 1,000,000; the selection is
kept unless the flag turns on while the selection is NONE or not USABLE and a reference is USABLE, REFA first, which is
then selected and raises REFERENCE (R18, R19; log 20). The limit is read as an unsigned number (log 43).

REF_CONFIG to a target that is none of its three codes, as the bytes of its frame on a control port, is refused with
BAD_VALUE and changes nothing else (R195; log 4). -/
def Obligations.RefConfigSetsItsTarget : Prop :=
  (∀ (dt : Nat) (p : PortId) (tag : BitVec 16) (r : RefId) (sw : Byte) (reserved : BitVec 7)
     (depth : Option (BitVec 32)) (s : State), s.takesAt p → (s.port p).role = .control →
     let u := s.requested dt p
     let x := s.timebase.ref r
     let bad := (sw ≠ 0 ∧ sw ≠ 1) ∨ reserved ≠ 0 ∨
       ∃ d, depth = some d ∧ d ∉ ([4, 8, 16, 32, 64] : List (BitVec 32))
     (bad → exec (.refConfigReference dt p tag r sw reserved depth) s =
       .next (u.answered p 0x06 tag [4])) ∧
     (¬ bad → sw = 0 → x.state ≠ .off → s.timebase.selection = some r →
       exec (.refConfigReference dt p tag r sw reserved depth) s = .next (u.answered p 0x06 tag [8])) ∧
     (¬ bad → (sw = 0 → x.state ≠ .off → s.timebase.selection ≠ some r) →
       let started : Reference := { x with run := 0, stages := 0, pendingSecond := none, window := none }
       let switched : Reference :=
         if sw = 1 ∧ x.state = .off then { started with state := .absent }
         else if sw = 0 ∧ x.state ≠ .off then { started with state := .off } else x
       let y : Reference := { switched with depth := (depth.map fun d => d.toNat).getD x.depth }
       exec (.refConfigReference dt p tag r sw reserved depth) s =
         .next ((u.modTimebase fun t => t.setRef r y).answered p 0x06 tag
           ([0, if y.state = .off then 0 else 1, y.state.code] ++ be 1 y.run ++ be 1 y.depth)))) ∧
  (∀ (dt : Nat) (p : PortId) (tag : BitVec 16) (sw : Byte) (reserved : BitVec 7)
     (limit : Option (BitVec 32)) (s : State), s.takesAt p → (s.port p).role = .control →
     let u := s.requested dt p
     let stepLimit : Nat := match limit with
       | some v => if v.toNat < 1000 then 1000 else if 1000000 < v.toNat then 1000000 else v.toNat
       | none => s.timebase.stepLimit
     let settled := ∃ r, s.timebase.selection = some r ∧ (s.timebase.ref r).state = .usable
     let chosen : Option RefId :=
       if s.timebase.refA.state = .usable then some .refA
       else if s.timebase.refB.state = .usable then some .refB else none
     ((sw ≠ 0 ∧ sw ≠ 1) ∨ reserved ≠ 0 →
       exec (.refConfigHub dt p tag sw reserved limit) s = .next (u.answered p 0x06 tag [4])) ∧
     (sw = 0 ∨ sw = 1 → reserved = 0 →
       (sw = 0 ∨ s.timebase.autoSelect = true ∨ settled ∨ chosen = none →
         exec (.refConfigHub dt p tag sw reserved limit) s =
           .next ((u.modTimebase fun t => { t with autoSelect := decide (sw = 1), stepLimit := stepLimit }).answered
             p 0x06 tag ([0, sw] ++ be 4 stepLimit ++ [selectionCode s.timebase.selection]))) ∧
       (∀ r, sw = 1 → s.timebase.autoSelect = false → ¬ settled → chosen = some r →
         exec (.refConfigHub dt p tag sw reserved limit) s =
           .next (((u.modTimebase fun t =>
             { t with autoSelect := true, stepLimit := stepLimit, selection := some r }).raise
               .reference).answered p 0x06 tag ([0, 1] ++ be 4 stepLimit ++ [selectionCode (some r)]))))) ∧
  (∀ (dt : Nat) (p : PortId) (tag : BitVec 16) (target sw : Byte) (reserved : BitVec 7)
     (value : Option (BitVec 32)) (s : State) (saw : Bool), s.takesAt p → (s.port p).role = .control →
     (s.port p).receiver = .hunting saw → target ∉ ([1, 2, 3] : List Byte) →
     exec (.frameComplete dt p (requestFrame (.refConfig target sw reserved value) tag).bytes) s =
       .next ((s.requested dt p).answered p 0x06 tag [4]))

/-- REF_SELECT on a control port: a selection outside its codes is refused with BAD_VALUE and a reference that is not
USABLE with NOT_READY; a USABLE one becomes selected and the hub state is kept; NONE is always taken, and a REFERENCED
hub enters HOLDOVER, which abandons the probes in flight; a change of selection or hub state raises REFERENCE
(R6, R14, R19, R44). -/
def Obligations.RefSelectSelects : Prop :=
  ∀ (dt : Nat) (p : PortId) (tag : BitVec 16) (s : State), s.takesAt p → (s.port p).role = .control →
    let u := s.requested dt p
    (∀ x : Byte, 2 < x → exec (.refSelect dt p tag x) s = .next (u.answered p 0x07 tag [4])) ∧
    (∀ r : RefId,
      ((s.timebase.ref r).state ≠ .usable →
        exec (.refSelect dt p tag (selectionCode (some r))) s = .next (u.answered p 0x07 tag [9])) ∧
      ((s.timebase.ref r).state = .usable →
        exec (.refSelect dt p tag (selectionCode (some r))) s =
          .next (((u.modTimebase fun t => { t with selection := some r }).raiseIf
            (decide (s.timebase.selection ≠ some r)) .reference).answered p 0x07 tag
              [0, selectionCode (some r), s.timebase.hubState.code]))) ∧
    (s.timebase.hubState ≠ .referenced →
      exec (.refSelect dt p tag 0) s =
        .next (((u.modTimebase fun t => { t with selection := none }).raiseIf
          (decide (s.timebase.selection ≠ none)) .reference).answered p 0x07 tag
            [0, 0, s.timebase.hubState.code])) ∧
    (s.timebase.hubState = .referenced →
      exec (.refSelect dt p tag 0) s =
        .next (((u.modTimebase fun t => { t with selection := none, hubState := .holdover }).raise
          .reference).abandonProbes.answered p 0x07 tag [0, 0, 2]))

/-- REF_PULSE on an OFF reference is ignored and not counted: nothing but time goes on. On any other it moves the run by
the pending second, the last good second and the oscillator interval, in each state, and stores the pulse's time, clears
the pending second, counts the pulse and starts or stops the window; stations, reservations and the other reference are
as they were (R9, R10, R11). -/
def Obligations.PulsesMoveTheRun : Prop :=
  (∀ (dt : Nat) (r : RefId) (s : State), s.held = false → (s.timebase.ref r).state = .off →
    exec (.refPulse dt r) s = .next (s.advance dt).endEvent) ∧
  ∀ (dt : Nat) (r : RefId) (s : State), s.held = false → (s.timebase.ref r).state ≠ .off →
    let x := s.timebase.ref r
    let now := s.timebase.oscNs + dt
    let due : Option Nat := some (now / 1000000 + 1500)
    let good : Nat → Prop := fun second => x.lastGood = some (second - 1) ∧ 1 ≤ second ∧
      999900000 ≤ now - x.lastPulse ∧ now - x.lastPulse ≤ 1000100000
    ∃ t, exec (.refPulse dt r) s = .next t ∧
      t.timebase.oscNs = now ∧ t.timebase.ref (otherRef r) = s.timebase.ref (otherRef r) ∧
      t.stations = s.stations ∧ t.reservations = s.reservations ∧ t.timebase.grid = s.timebase.grid ∧
      t.timebase.stepLimit = s.timebase.stepLimit ∧ t.timebase.autoSelect = s.timebase.autoSelect ∧
      (∀ second, x.pendingSecond = some second → x.state = .stabilizing ∨ x.state = .usable →
        good second →
        t.timebase.ref r = { x with
          run := min (x.run + 1) 64
          stages := x.stages ||| runStage (min (x.run + 1) 64)
          state := if x.depth ≤ min (x.run + 1) 64 then .usable else .stabilizing
          lastGood := some second, goodPulses := bump x.goodPulses
          lastPulse := now, pendingSecond := none, window := due }) ∧
      (∀ second, x.pendingSecond = some second → x.state = .stabilizing → ¬ good second →
        t.timebase.ref r = { x with
          run := 1, stages := 0, lastGood := some second, badPulses := bump x.badPulses
          lastPulse := now, pendingSecond := none, window := due }) ∧
      (x.pendingSecond = none → x.state = .stabilizing →
        t.timebase.ref r = { x with
          run := 0, stages := 0, state := .absent, badPulses := bump x.badPulses
          lastPulse := now, window := none }) ∧
      (x.state = .usable → (∀ second, x.pendingSecond = some second → ¬ good second) →
        t.timebase.ref r = { x with
          run := 0, stages := 0, state := .fault, faults := bump x.faults, badPulses := bump x.badPulses
          lastPulse := now, pendingSecond := none, window := none }) ∧
      (∀ second, x.pendingSecond = some second → x.state = .absent ∨ x.state = .fault →
        t.timebase.ref r = { x with
          run := 1, stages := 0, state := .stabilizing, lastGood := some second
          goodPulses := bump x.goodPulses, lastPulse := now, pendingSecond := none, window := due }) ∧
      (x.pendingSecond = none → x.state = .absent ∨ x.state = .fault →
        t.timebase.ref r = { x with
          badPulses := bump x.badPulses, lastPulse := now, window := none })

/-- A good pulse that leaves its reference USABLE steps hub time when that reference is selected, or becomes so by
auto-select in the same event: hub time becomes the second's start, last step is 0 from UNSET and the step otherwise,
a large step is counted in REFERENCED alone, and the hub is REFERENCED (R15, R17; that the pulse which makes the
selected reference USABLE again steps the hub itself is log 44). Entering REFERENCED abandons every probe in flight, and
this, a reference that becomes USABLE, a new selection and a large step each raise REFERENCE; a requested probe so ended
raises PROBE, and no link is touched otherwise (R6, R19, R44, R103). The step closes, with cause DEADLINE, every FORMING epoch whose deadline the new hub time has reached: one
that a port needs stays in the table CLOSED, one that none needs is freed, each close raises EPOCH, and every other epoch is
as it was (R158, R159; no link waits, so R173 has no part). When a pulse takes the selected reference out of USABLE,
a bad one to FAULT or a good one to STABILIZING under a raised depth, the other reference is selected when it is USABLE
and the hub keeps its state; otherwise the selection is kept and a REFERENCED hub enters HOLDOVER with its probes
abandoned; hub time is carried on, and the change raises REFERENCE (R16, R19, R44). Every other pulse, of a reference that
stays unselected or stays selected and not USABLE, leaves selection, hub time and hub state as they were. -/
def Obligations.GoodPulseStepsTheHub : Prop :=
  ∀ (dt : Nat) (r : RefId) (s : State), s.held = false →
    let x := s.timebase.ref r
    let now := s.timebase.oscNs + dt
    let carried : Int := if s.timebase.hubState = .unset then s.timebase.hubTime else s.timebase.hubTime + dt
    let good : Nat → Prop := fun second => x.pendingSecond = some second ∧ x.lastGood = some (second - 1) ∧
      1 ≤ second ∧ 999900000 ≤ now - x.lastPulse ∧ now - x.lastPulse ≤ 1000100000
    let follows := s.timebase.selection = some r ∨ (x.state = .stabilizing ∧ s.timebase.autoSelect = true ∧
      ∀ q, s.timebase.selection = some q → (s.timebase.ref q).state ≠ .usable)
    let stays := (x.state = .stabilizing ∨ x.state = .usable) ∧ (∃ second, good second) ∧
      x.depth ≤ min (x.run + 1) 64
    (∀ second, x.state = .stabilizing ∨ x.state = .usable → good second → x.depth ≤ min (x.run + 1) 64 → follows →
      let step : Int := second * 1000000000 - carried
      ∃ t, exec (.refPulse dt r) s = .next t ∧ t.timebase.selection = some r ∧
        t.timebase.hubState = .referenced ∧ t.timebase.hubTime = second * 1000000000 ∧
        t.timebase.lastStep = (if s.timebase.hubState = .unset then 0 else step) ∧
        t.timebase.largeSteps = (if s.timebase.hubState = .referenced ∧ s.timebase.stepLimit < step.natAbs
          then bump s.timebase.largeSteps else s.timebase.largeSteps) ∧
        (∀ l, t.link l = if s.timebase.hubState = .referenced then s.link l
          else { s.link l with probe := none }) ∧
        (s.timebase.hubState ≠ .referenced ∨ x.state = .stabilizing ∨ s.timebase.selection ≠ some r ∨
            s.timebase.stepLimit < step.natAbs →
          ∀ p, (t.port p).line = (s.port p).line →
            (t.port p).notices &&& 0x10 = ((s.port p).notices ||| (s.port p).mask) &&& 0x10) ∧
        (s.timebase.hubState ≠ .referenced → (∃ l y, (s.link l).probe = some y ∧ y.requested = true) →
          ∀ p, (t.port p).line = (s.port p).line →
            (t.port p).notices &&& 0x80 = ((s.port p).notices ||| (s.port p).mask) &&& 0x80) ∧
        (s.timebase.grid = none → t.assembler = s.assembler ∧ t.store.slots = s.store.slots) ∧
        (∀ g, s.timebase.grid = some g → s.store.waiting = [] → s.assembler.sound → ∀ e ∈ s.assembler.table,
          let reached : Prop := e.state = .forming ∧
            (g.o + e.number * g.e + g.e + g.l : Int) * 1000000000 ≤ second * 1000000000
          let wanted : Prop := ∃ p, e.needed.has p = true ∧ e.released.has p = false
          (¬ reached → e ∈ t.assembler.table) ∧
          (reached → ∀ p, (t.port p).line = (s.port p).line →
            (t.port p).notices &&& 0x01 = ((s.port p).notices ||| (s.port p).mask) &&& 0x01) ∧
          (reached → wanted → { e with state := .closedDeadline } ∈ t.assembler.table) ∧
          (reached → ¬ wanted → (∀ y ∈ t.assembler.table, y.number ≠ e.number) ∧
            ∃ m, t.assembler.freedMark = some m ∧ e.number ≤ m))) ∧
    (s.timebase.selection = some r → x.state = .usable → ¬ stays →
      ∃ t, exec (.refPulse dt r) s = .next t ∧ t.timebase.hubTime = carried ∧
        t.timebase.lastStep = s.timebase.lastStep ∧ t.timebase.largeSteps = s.timebase.largeSteps ∧
        t.assembler = s.assembler ∧
        ((∃ second, good second) → (t.timebase.ref r).state = .stabilizing) ∧
        ((¬ ∃ second, good second) → (t.timebase.ref r).state = .fault) ∧
        ((s.timebase.ref (otherRef r)).state = .usable → t.timebase.selection = some (otherRef r) ∧
          t.timebase.hubState = s.timebase.hubState ∧ t.links = s.links) ∧
        ((s.timebase.ref (otherRef r)).state ≠ .usable → t.timebase.selection = some r ∧
          (s.timebase.hubState = .referenced → t.timebase.hubState = .holdover ∧
            ∀ l, t.link l = { s.link l with probe := none }) ∧
          (s.timebase.hubState ≠ .referenced → t.timebase.hubState = s.timebase.hubState ∧ t.links = s.links)) ∧
        ((s.timebase.ref (otherRef r)).state = .usable ∨ s.timebase.hubState = .referenced ∨
            (¬ ∃ second, good second) →
          ∀ p, (t.port p).line = (s.port p).line →
            (t.port p).notices &&& 0x10 = ((s.port p).notices ||| (s.port p).mask) &&& 0x10)) ∧
    (¬ (stays ∧ follows) → ¬ (s.timebase.selection = some r ∧ x.state = .usable) →
      ∃ t, exec (.refPulse dt r) s = .next t ∧ t.timebase.selection = s.timebase.selection ∧
        t.timebase.hubState = s.timebase.hubState ∧ t.timebase.hubTime = carried ∧
        t.timebase.lastStep = s.timebase.lastStep ∧ t.timebase.largeSteps = s.timebase.largeSteps ∧
        t.links = s.links ∧ t.assembler = s.assembler)

/-- REF_MESSAGE: on an enabled reference a message whose check passes with the lock flag set replaces the pending
second, any other is counted in "bad messages" and leaves it; a disabled reference ignores every message; nothing
else but time changes (R8).

PULSE_WINDOW_EXPIRY of a window that is due: a STABILIZING reference becomes ABSENT and a USABLE one FAULT, each
without a run and with the miss counted; when the selected reference leaves USABLE so, the other is selected when it is
USABLE, and otherwise the selection is kept and a REFERENCED hub enters HOLDOVER; hub time is carried on (R12, R16).
A window that is not due does nothing. -/
def Obligations.MessagesAndMissedPulses : Prop :=
  (∀ (dt : Nat) (r : RefId) (intact locked : Bool) (second : Nat) (s : State), s.held = false →
     exec (.refMessage dt r intact locked second) s = .next
       (if (s.timebase.ref r).state = .off then s.advance dt
         else if intact = true ∧ locked = true then
           (s.advance dt).modTimebase fun t => t.setRef r { t.ref r with pendingSecond := some second }
         else (s.advance dt).modTimebase fun t =>
           t.setRef r { t.ref r with badMessages := bump (t.ref r).badMessages }).endEvent) ∧
  (∀ (dt : Nat) (r : RefId) (d : Nat) (s : State), s.held = false → (s.timebase.ref r).window = some d →
     let x := s.timebase.ref r
     let carried : Int := if s.timebase.hubState = .unset then s.timebase.hubTime else s.timebase.hubTime + dt
     ((s.advance dt).partTime < d → exec (.pulseWindowExpiry dt r) s = .next (s.advance dt).endEvent) ∧
     (d ≤ (s.advance dt).partTime → x.state = .stabilizing →
       exec (.pulseWindowExpiry dt r) s = .next ((s.advance dt).modTimebase fun t => t.setRef r { x with
         state := .absent, run := 0, stages := 0, missedPulses := bump x.missedPulses, window := none }).endEvent) ∧
     (d ≤ (s.advance dt).partTime → x.state = .usable →
       ∃ t, exec (.pulseWindowExpiry dt r) s = .next t ∧
         t.timebase.ref r = { x with
           state := .fault, run := 0, stages := 0, missedPulses := bump x.missedPulses
           faults := bump x.faults, window := none } ∧
         t.timebase.ref (otherRef r) = s.timebase.ref (otherRef r) ∧ t.timebase.hubTime = carried ∧
         t.timebase.lastStep = s.timebase.lastStep ∧ t.timebase.grid = s.timebase.grid ∧
         t.stations = s.stations ∧ t.assembler = s.assembler ∧
         (∀ p, (t.port p).line = (s.port p).line → (t.port p).notices &&& 0x10 =
           ((s.port p).notices ||| (s.port p).mask) &&& 0x10) ∧
         (s.timebase.selection = some r → (s.timebase.ref (otherRef r)).state = .usable →
           t.timebase.selection = some (otherRef r) ∧ t.timebase.hubState = s.timebase.hubState) ∧
         (s.timebase.selection = some r → (s.timebase.ref (otherRef r)).state ≠ .usable →
           t.timebase.selection = some r ∧ t.timebase.hubState =
             (if s.timebase.hubState = .referenced then .holdover else s.timebase.hubState)) ∧
         (s.timebase.selection ≠ some r → t.timebase.selection = s.timebase.selection ∧
           t.timebase.hubState = s.timebase.hubState)))

/-- EPOCH_DEADLINE closes every FORMING epoch whose deadline hub time has reached, with cause DEADLINE: each stays in
the table CLOSED and otherwise unchanged when a port still needs it, and is freed at once when none does; every other
epoch is as it was, and none closes while the hub is UNSET (R158, R159; no link waits, so R173 has no part). -/
def Obligations.DeadlinesCloseEpochs : Prop :=
  ∀ (dt : Nat) (g : Grid) (s : State), s.held = false → s.timebase.grid = some g →
    s.store.waiting = [] → s.assembler.sound →
    ∃ t, exec (.epochDeadline dt) s = .next t ∧ t.timebase = (s.advance dt).timebase ∧
      t.links = s.links ∧ t.stations = s.stations ∧ t.reservations = s.reservations ∧
      (s.timebase.hubState = .unset → t.assembler = s.assembler ∧ t.store.slots = s.store.slots) ∧
      (s.timebase.hubState ≠ .unset → ∀ e ∈ s.assembler.table,
        let reached : Prop := e.state = .forming ∧
          (g.o + e.number * g.e + g.e + g.l : Int) * 1000000000 ≤ s.timebase.hubTime + dt
        let wanted : Prop := ∃ p, e.needed.has p = true ∧ e.released.has p = false
        (¬ reached → e ∈ t.assembler.table) ∧
        (reached → wanted → { e with state := .closedDeadline } ∈ t.assembler.table) ∧
        (reached → ¬ wanted → (∀ x ∈ t.assembler.table, x.number ≠ e.number) ∧
          ∃ m, t.assembler.freedMark = some m ∧ e.number ≤ m))

/-! ## Station telemetry links -/

/-- LINK_CONFIG on a control port: a link, switch or presence bit outside its values is refused with BAD_VALUE;
otherwise the parameters carried are stored, the numeric ones clamped; ON opens a disabled link in DOWN, ON on an
enabled link and OFF on a disabled one leave the state, and OFF on an enabled one clears the link as LINK_RESET does,
without a LINK_DOWN, and leaves it OFF; the reply carries enable, state and the five parameters (R25, R26, R194). That
the two carried times are read as unsigned numbers is log 45. -/
def Obligations.LinkConfigSetsTheLink : Prop :=
  ∀ (dt : Nat) (p : PortId) (tag : BitVec 16) (lb enable : Byte) (f : LinkFields) (s : State),
    s.takesAt p → (s.port p).role = .control →
    let u := s.requested dt p
    let bad := (enable ≠ 0 ∧ enable ≠ 1) ∨ f.reserved ≠ 0 ∨
      ∃ m, f.mask = some m ∧ ∃ b ∈ [m.burstFail, m.linkDown, m.linkUp], b ≠ 0 ∧ b ≠ 1
    (5 < lb ∨ bad → exec (.linkConfig dt p tag lb enable f) s = .next (u.answered p 0x08 tag [4])) ∧
    (∀ l : LinkId, lb = linkByte l → ¬ bad →
      let x := s.link l
      let y : Link := { x with
        seed := f.seed.getD x.seed
        noActivity := (f.noActivity.map fun v => if v = 0 then 1 else v.toNat).getD x.noActivity
        carrierLoss := (f.carrierLoss.map fun v => if v = 0 then 1 else v.toNat).getD x.carrierLoss
        asymmetry := (f.asymmetry.map fun v =>
          if v.toInt < -1000000 then -1000000 else if 1000000 < v.toInt then 1000000 else v.toInt).getD
            x.asymmetry
        maskBurstFail := (f.mask.map fun m => decide (m.burstFail = 1)).getD x.maskBurstFail
        maskLinkDown := (f.mask.map fun m => decide (m.linkDown = 1)).getD x.maskLinkDown
        maskLinkUp := (f.mask.map fun m => decide (m.linkUp = 1)).getD x.maskLinkUp }
      let open_ : Link := { y with state := .down, noActivityDue := none, carrierDue := none }
      (enable = 1 ∧ x.state ≠ .off ∨ enable = 0 ∧ x.state = .off →
        exec (.linkConfig dt p tag lb enable f) s =
          .next ((u.setLink l y).answered p 0x08 tag (0 :: y.configFields))) ∧
      (enable = 1 → x.state = .off →
        exec (.linkConfig dt p tag lb enable f) s =
          .next ((u.setLink l open_).answered p 0x08 tag (0 :: open_.configFields))) ∧
      (enable = 0 → x.state ≠ .off →
        ∃ t, exec (.linkConfig dt p tag lb enable f) s = .next t ∧
          t.link l = { y with
            state := .off, burst := none, queue := [], blocked := false, noActivityDue := none
            carrierDue := none, backfill := none, probe := none, outbound := none
            counters := LinkCounters.zero, lastFailure := none } ∧
          (∀ k, k ≠ l → t.link k = s.link k) ∧ requestLost s t l ∧
          t.store.waiting = s.store.waiting.filter (fun k => decide (k ≠ l)) ∧
          t.store.slots = s.store.slots ∧ t.timebase = (s.advance dt).timebase ∧
          t.reservations = s.reservations ∧ t.assembler = s.assembler ∧
          (t.port p).reply = some { kind := 0x88, tag := tag, body := 0 :: (t.link l).configFields }))

/-- LINK_RESET on a control port discards the burst and the queue with a blocked head, takes the link off the waiting
list, ends a request by link loss and abandons a probe, cuts off a frame, stops both timeouts, clears the counters and
the last failure, and sets an enabled link DOWN; a link that was UP or SILENT queues LINK_DOWN with cause RESET when
its mask passes it (R45, R176); parameters, identifiers, grant counter and the other links are kept. A link above 5 is
refused with BAD_VALUE. -/
def Obligations.LinkResetClearsTheLink : Prop :=
  ∀ (dt : Nat) (p : PortId) (tag : BitVec 16) (lb : Byte) (s : State),
    s.takesAt p → (s.port p).role = .control →
    (5 < lb → exec (.linkReset dt p tag lb) s = .next ((s.requested dt p).answered p 0x0A tag [4])) ∧
    (∀ l : LinkId, lb = linkByte l →
      let x := s.link l
      ∃ t, exec (.linkReset dt p tag lb) s = .next t ∧
        t.link l = { x with
          state := if x.state = .off then .off else .down
          burst := none
          queue := if (x.state = .up ∨ x.state = .silent) ∧ x.maskLinkDown = true then [.linkDown .reset]
            else []
          blocked := false, noActivityDue := none, carrierDue := none, backfill := none, probe := none
          outbound := none, counters := LinkCounters.zero, lastFailure := none } ∧
        (∀ k, k ≠ l → t.link k = s.link k) ∧ requestLost s t l ∧
        t.store.waiting = s.store.waiting.filter (fun k => decide (k ≠ l)) ∧
        t.store.slots = s.store.slots ∧ t.timebase = (s.advance dt).timebase ∧
        t.reservations = s.reservations ∧ t.assembler = s.assembler ∧
        (t.port p).reply =
          some { kind := 0x8A, tag := tag, body := [0, if x.state = .off then 0 else 1] })

/-- BURST_OPEN on an enabled link without a burst under way opens one, stamped with hub time and hub state as they
stand and holding the seed of this moment; bytes outside a burst, and every line of a disabled link, do nothing
(R25, R26, R30). -/
def Obligations.OpeningDelimiterStampsTheBurst : Prop :=
  ∀ (dt : Nat) (l : LinkId) (bytes : List Byte) (s : State), s.held = false → noDelimiter bytes = true →
    ((s.link l).state ≠ .off → (s.link l).burst = none →
      exec (.burstOpen dt l bytes) s = .next ((s.advance dt).modLink l fun x =>
        { x with burst := some (Burst.opened
          { time := (s.advance dt).timebase.hubTime, hub := s.timebase.hubState } x.seed) }).endEvent ∧
      exec (.burstClose dt l bytes) s = .next (s.advance dt).endEvent ∧
      exec (.burstByteLimit dt l bytes) s = .next (s.advance dt).endEvent) ∧
    ((s.link l).state = .off →
      exec (.burstOpen dt l bytes) s = .next (s.advance dt).endEvent ∧
      exec (.burstClose dt l bytes) s = .next (s.advance dt).endEvent ∧
      exec (.burstByteLimit dt l bytes) s = .next (s.advance dt).endEvent ∧
      exec (.carrierFall dt l bytes) s = .next (s.advance dt).endEvent)

/-- A burst of one to sixteen entries, checked under the seed held when it opened and stuffed, that closes on an enabled
link for an enabled station: the link is UP as after any valid burst (R27), and its entries, each as its format makes it
a DATA, MARK, FILL_END or DAMAGED entry, go into the queue in burst order, behind a RESTART entry when the header's flag
is set. DAMAGED entries are counted and damage the station's own request in flight (R34, R38). A burst for which the queue
has no room after the LINK_UP is dropped whole: "queue overruns" is counted, LINK raised, and the request in flight on the
link damaged (R35). An ECHO among them that matches the probe in flight ends it and is queued in its place with the stamps
of both; one that does not is counted stale and not queued (R44). The bytes of a burst are counted as log 24 has it, and
its n, p, S, τ and lengths are read as unsigned numbers (log 45). -/
def Obligations.BurstOfRecordsIsQueued : Prop :=
  ∀ (dt : Nat) (l : LinkId) (i : StationId) (bd : Binding) (stamp : Stamp) (seed : BitVec 16)
    (restart : Bool) (s : State),
    s.held = false → s.tableSound → (s.link l).state ≠ .off →
    (s.link l).burst = some (Burst.opened stamp seed) →
    (s.station i).enabled = true → (s.station i).binding = some bd → bd.link = l →
    1 ≤ bd.components → bd.components ≤ 3 →
    let x := s.link l
    let up : Link := { x with
      burst := none, state := .up
      noActivityDue := some ((s.advance dt).partTime + x.noActivity * 1000)
      counters := { x.counters with goodBursts := bump x.counters.goodBursts } }
    let told := up.withControl (decide (x.state ≠ .up) && x.maskLinkUp) .linkUp
    let line : List RawEntry → List Byte := fun sent =>
      let covered := burstCovered bd.address (boolByte restart) sent
      stuff (covered ++ be 2 (crc seed covered).toNat)
    let first : List Entry := if restart then [.restart i] else []
    let judged : List Entry → State := fun queued =>
      let damaged := queued.countP Entry.isDamaged
      let u := (s.advance dt).setLink l { told with
        counters := { told.counters with damagedEntries := bumpBy told.counters.damagedEntries damaged } }
      if 0 < damaged ∧ x.backfill.any (fun b => decide (b.station = i)) = true then u.damageRequest l .format
      else u
    (∀ es : List (RawEntry × Entry), 1 ≤ es.length → es.length ≤ 16 →
      (∀ e ∈ es, EntryReads i bd.rate.period bd.components e.1 e.2) →
      (line (es.map Prod.fst)).length ≤ 16384 →
      let queued := es.map Prod.snd
      (told.queue.length + es.length + restart.toNat ≤ 64 →
        exec (.burstClose dt l (line (es.map Prod.fst))) s = .next (((judged queued).modLink l fun y =>
          { y with queue := y.queue ++ first ++ queued }).raiseIf (decide (x.state ≠ .up)) .link).endEvent) ∧
      (64 < told.queue.length + es.length + restart.toNat →
        exec (.burstClose dt l (line (es.map Prod.fst))) s = .next ((((judged queued).modLink l fun y =>
          { y with counters := { y.counters with queueOverruns := bump y.counters.queueOverruns } }).damageRequest
            l .overrun).raise .link).endEvent)) ∧
    (∀ (before after : List (RawEntry × Entry)) (identifier : Byte) (kr : Counter40) (tau : BitVec 32),
      before.length + 1 + after.length ≤ 16 →
      (∀ e ∈ before ++ after, EntryReads i bd.rate.period bd.components e.1 e.2) →
      let sent := before.map Prod.fst ++
        (⟨3, identifier :: be 5 kr.toNat ++ be 4 tau.toNat⟩ : RawEntry) :: after.map Prod.fst
      let queued := (before ++ after).map Prod.snd
      (line sent).length ≤ 16384 →
      told.queue.length + (before.length + 1 + after.length) + restart.toNat ≤ 64 →
      (∀ pr, x.probe = some pr → pr.identifier = identifier → pr.station = i →
        exec (.burstClose dt l (line sent)) s = .next ((((judged queued).modLink l fun y => { y with
          probe := none
          queue := y.queue ++ first ++ before.map Prod.snd ++
            .echo i kr tau pr.ts stamp pr.requested :: after.map Prod.snd }).raiseIf pr.requested
              .probe).raiseIf (decide (x.state ≠ .up)) .link).endEvent) ∧
      ((∀ pr, x.probe = some pr → pr.identifier ≠ identifier ∨ pr.station ≠ i) →
        exec (.burstClose dt l (line sent)) s = .next (((judged queued).modLink l fun y => { y with
          queue := y.queue ++ first ++ queued
          counters := { y.counters with staleEchoes := bump y.counters.staleEchoes } }).raiseIf
            (decide (x.state ≠ .up)) .link).endEvent))

/-- A valid burst whose address no enabled station of the link has is dropped whole: "unbound bursts" is counted, and
the burst is activity all the same, so a DOWN or SILENT link goes UP, with a LINK_UP entry when its mask passes it, and
raises LINK (R27, R33, R36). -/
def Obligations.UnboundBurstIsActivityAlone : Prop :=
  ∀ (dt : Nat) (l : LinkId) (b : Burst) (raw : RawBurst) (s : State), s.held = false →
    (s.link l).state ≠ .off → (s.link l).burst = some b → b.judge = .ok raw →
    (∀ i bd, (s.station i).enabled = true → (s.station i).binding = some bd → bd.link = l →
      bd.address ≠ raw.address) →
    let x := s.link l
    let up : Link := { x with
      burst := none, state := .up
      noActivityDue := some ((s.advance dt).partTime + x.noActivity * 1000)
      counters := { x.counters with goodBursts := bump x.counters.goodBursts } }
    let told := up.withControl (decide (x.state ≠ .up) && x.maskLinkUp) .linkUp
    exec (.burstClose dt l []) s = .next (((s.advance dt).setLink l { told with
      counters := { told.counters with unboundBursts := bump x.counters.unboundBursts } }).raiseIf
        (decide (x.state ≠ .up)) .link).endEvent

/-- A burst fails with CHECK when the check carried differs from the computed one, and with LENGTH when it is good but
its header is shorter than its layout, its entry count is 0 or above 16, or its entries as their lengths divide it do not
fill the space between header and check; whatever its check with LENGTH when it holds a bad escape or ends in an escape,
when the carrier falls, when the byte past 16,384 arrives, and when a second opening delimiter comes, which opens the next
burst; no failure moves the link or its no-activity timeout (R30, R31, R32, R197). The BURST_FAIL entry carries the first
unstuffed byte that arrived, if one did. That a wrong check gives CHECK whatever the entries are is the model's reading
(log 31), that a burst too short for a check gives LENGTH (log 22), that a bad escape adds no byte and that a delimiter
after an escape acts (log 23), and which bytes the limit of 16,384 counts (log 24). An entry's length is read as an
unsigned number (log 45). -/
def Obligations.BurstsFailWithTheirCause : Prop :=
  ∀ (dt : Nat) (l : LinkId) (b : Burst) (s : State), s.held = false → (s.link l).state ≠ .off →
    (s.link l).burst = some b →
    (∀ (covered : List Byte) (check : BitVec 16), b.escaped = false → b.badEscape = false →
      b.content = covered ++ be 2 check.toNat → check ≠ crc b.seed covered →
      ∃ t, exec (.burstClose dt l []) s = .next t ∧ burstFails s l .check b.content.head? id t) ∧
    (b.content.length < 2 ∨ b.escaped = true ∨ b.badEscape = true ∨
        (∃ covered, covered.length < 3 ∧ b.content = covered ++ be 2 (crc b.seed covered).toNat) →
      ∃ t, exec (.burstClose dt l []) s = .next t ∧ burstFails s l .length b.content.head? id t) ∧
    (∀ c : Byte, noDelimiter [c] = true → c ∉ ([0xF5, 0xF6, 0xF7] : List Byte) → b.escaped = false →
      b.received ≤ 16382 →
      ∃ t, exec (.burstClose dt l [0xE5, c]) s = .next t ∧ burstFails s l .length b.content.head? id t) ∧
    (∀ (a flags n : Byte) (rest : List Byte), b.escaped = false → b.badEscape = false →
      b.content = a :: flags :: n :: rest ++ be 2 (crc b.seed (a :: flags :: n :: rest)).toNat →
      (∀ es : List RawEntry, es.length = n.toNat → (∀ e ∈ es, e.content.length < 65536) →
        rest ≠ es.flatMap fun e => e.kind :: (be 2 e.content.length ++ e.content)) →
      ∃ t, exec (.burstClose dt l []) s = .next t ∧ burstFails s l .length (some a) id t) ∧
    (∀ (a flags n : Byte) (rest : List Byte), b.escaped = false → b.badEscape = false →
      b.content = a :: flags :: n :: rest ++ be 2 (crc b.seed (a :: flags :: n :: rest)).toNat →
      n = 0 ∨ 16 < n →
      ∃ t, exec (.burstClose dt l []) s = .next t ∧ burstFails s l .length (some a) id t) ∧
    (∃ t, exec (.carrierFall dt l []) s = .next t ∧
      burstFails s l .length b.content.head?
        (fun x => if x.state = .up ∨ x.state = .silent then
          { x with carrierDue := some ((s.advance dt).partTime + x.carrierLoss * 10) } else x) t) ∧
    (∃ t, exec (.burstOpen dt l []) s = .next t ∧
      burstFails s l .length b.content.head? (fun x => { x with burst := some (Burst.opened
        { time := (s.advance dt).timebase.hubTime, hub := s.timebase.hubState } x.seed) }) t) ∧
    (∀ (c a : Byte) (rest : List Byte), noDelimiter [c] = true → b.received = 16384 →
      b.content = a :: rest →
      ∃ t, exec (.burstByteLimit dt l [c]) s = .next t ∧ burstFails s l .length (some a) id t)

/-- CARRIER_FALL outside a burst starts the carrier-loss timeout of an UP or SILENT link and CARRIER_RISE stops it.
When it runs out the link goes DOWN with both timeouts stopped, its request lost, its probe abandoned and its frame cut
off, LINK_DOWN with cause CARRIER is queued as the mask says, and LINK is raised. When the no-activity timeout runs out
in UP the link goes SILENT likewise with cause SILENT and keeps its slots. A timeout that is not due does nothing
(R28, R29, R36, R39, R42, R44). -/
def Obligations.CarrierAndSilenceMoveTheLink : Prop :=
  ∀ (dt : Nat) (l : LinkId) (s : State), s.held = false →
    let x := s.link l
    let now := (s.advance dt).partTime
    (x.burst = none → x.state = .up ∨ x.state = .silent →
      exec (.carrierFall dt l []) s = .next ((s.advance dt).setLink l
        { x with carrierDue := some (now + x.carrierLoss * 10) }).endEvent) ∧
    (x.burst = none → x.state = .down → exec (.carrierFall dt l []) s = .next (s.advance dt).endEvent) ∧
    exec (.carrierRise dt l) s = .next ((s.advance dt).setLink l { x with carrierDue := none }).endEvent ∧
    (∀ d, x.carrierDue = some d →
      (now < d → exec (.carrierLossTimeout dt l) s = .next (s.advance dt).endEvent) ∧
      (d ≤ now → x.state = .up ∨ x.state = .silent →
        ∃ t, exec (.carrierLossTimeout dt l) s = .next t ∧
          t.link l = Link.withControl { x with
            state := .down, noActivityDue := none, carrierDue := none, backfill := none, probe := none
            outbound := none } x.maskLinkDown (.linkDown .carrier) ∧
          (∀ k, k ≠ l → t.link k = s.link k) ∧ requestLost s t l ∧
          t.timebase = (s.advance dt).timebase ∧ t.assembler = s.assembler ∧
          t.reservations = s.reservations ∧ t.store.slots = s.store.slots ∧
          (∀ p, (t.port p).line = (s.port p).line →
            (t.port p).notices &&& 0x08 = ((s.port p).notices ||| (s.port p).mask) &&& 0x08))) ∧
    (∀ d, x.noActivityDue = some d →
      (now < d → exec (.noActivityTimeout dt l) s = .next (s.advance dt).endEvent) ∧
      (d ≤ now → x.state = .up →
        exec (.noActivityTimeout dt l) s = .next (((s.advance dt).setLink l
          (Link.withControl { x with state := .silent, noActivityDue := none } x.maskLinkDown
            (.linkDown .silent))).raise .link).endEvent))

/-- BACKFILL_GRANT when the slot is empty, the line free, the link UP or SILENT and no probe can be granted: the station
least recently granted among those of the link that are enabled, have backfill on and hold an OPEN gap gets its oldest
OPEN gap requested, with the next identifier, its stamp, the response timeout and the frame on the line; with no such
station, or on a link that may not send, nothing happens (R39, R40, R83, R198). -/
def Obligations.BackfillIsGrantedInTurn : Prop :=
  ∀ (dt : Nat) (l : LinkId) (s : State), s.held = false →
    let x := s.link l
    let may : StationId → Prop := fun j => (s.station j).enabled = true ∧
      (∃ bd, (s.station j).binding = some bd ∧ bd.link = l) ∧ (s.station j).config.backfill = true ∧
      ∃ g ∈ (s.station j).tracker.gaps, g.request = none
    let probing := x.probe = none ∧ ∃ j, (s.station j).enabled = true ∧
      (∃ bd, (s.station j).binding = some bd ∧ bd.link = l) ∧ (s.station j).mark.due = true
    (x.state = .off ∨ x.state = .down ∨ x.outbound ≠ none ∨ x.backfill ≠ none ∨ probing ∨ (∀ j, ¬ may j) →
      exec (.backfillGrant dt l) s = .next (s.advance dt).endEvent) ∧
    (∀ (i : StationId) (bd : Binding) (before after : List Gap) (g : Gap),
      x.state = .up ∨ x.state = .silent → x.outbound = none → x.backfill = none → ¬ probing →
      servedFirst (fun j => (s.station j).backfillStamp) may i → (s.station i).binding = some bd →
      (s.station i).tracker.gaps = before ++ g :: after → (∀ h ∈ before, h.request ≠ none) →
      g.request = none →
      exec (.backfillGrant dt l) s = .next (((s.advance dt).setLink l { x with
          backfill := some
            { identifier := x.nextRequest, station := i, first := g.first, last := g.last, damage := none
              due := (s.advance dt).partTime + (s.station i).config.responseTimeout * 1000 }
          outbound := some
            { probe := false
              bytes := stationFrame x.seed bd.address 0x21
                (x.nextRequest :: be 2 g.first.toNat ++ be 2 g.last.toNat) }
          nextRequest := if x.nextRequest = 255 then 1 else x.nextRequest + 1
          grants := x.grants + 1
          counters := { x.counters with backfillSent := bump x.counters.backfillSent } }).setStation i
        { s.station i with
          backfillStamp := some x.grants
          tracker := { (s.station i).tracker with
            gaps := before ++ { g with request := some x.nextRequest } :: after }
          counters := { (s.station i).counters with
            backfillSent := bump (s.station i).counters.backfillSent } }).endEvent)

/-- PROBE_GRANT when the slot is empty, the line free and the link UP or SILENT: the due station least recently probed
is probed, stamped with hub time, hub state and part time, its due and requested flags cleared and its schedule moved;
else nothing happens. OUTBOUND_FRAME_DONE frees the line. PROBE_EXPIRY of a probe that is due empties the slot, counts
it and raises PROBE when PROBE_NOW asked for it (R39, R43, R44, R92, R95, R97, R103). -/
def Obligations.ProbesAreGrantedAndExpire : Prop :=
  ∀ (dt : Nat) (l : LinkId) (s : State), s.held = false →
    let x := s.link l
    let now := (s.advance dt).partTime
    let may : StationId → Prop := fun j => (s.station j).enabled = true ∧
      (∃ bd, (s.station j).binding = some bd ∧ bd.link = l) ∧ (s.station j).mark.due = true
    exec (.outboundFrameDone dt l) s = .next ((s.advance dt).setLink l { x with outbound := none }).endEvent ∧
    (x.state = .off ∨ x.state = .down ∨ x.outbound ≠ none ∨ x.probe ≠ none ∨ (∀ j, ¬ may j) →
      exec (.probeGrant dt l) s = .next (s.advance dt).endEvent) ∧
    (∀ (i : StationId) (bd : Binding), x.state = .up ∨ x.state = .silent → x.outbound = none →
      x.probe = none → servedFirst (fun j => (s.station j).probeStamp) may i →
      (s.station i).binding = some bd →
      exec (.probeGrant dt l) s = .next (((s.advance dt).setLink l { x with
          probe := some
            { identifier := x.nextProbe, station := i
              ts := { time := (s.advance dt).timebase.hubTime, hub := s.timebase.hubState }
              sentAt := now, expiry := now + (s.station i).config.maxRtt + 1000
              requested := (s.station i).mark.requested }
          outbound := some { probe := true, bytes := stationFrame x.seed bd.address 0x22 [x.nextProbe] }
          nextProbe := if x.nextProbe = 255 then 1 else x.nextProbe + 1
          grants := x.grants + 1
          counters := { x.counters with probesSent := bump x.counters.probesSent } }).setStation i
        { s.station i with
          probeStamp := some x.grants
          mark := { (s.station i).mark with
            due := false, requested := false, lastSent := some now
            schedule := (s.station i).mark.schedule.map fun _ =>
              now + (s.station i).config.probeInterval * 1000 } }).endEvent) ∧
    (∀ pr, x.probe = some pr →
      (now < pr.expiry → exec (.probeExpiry dt l) s = .next (s.advance dt).endEvent) ∧
      (pr.expiry ≤ now → exec (.probeExpiry dt l) s = .next (((s.advance dt).setLink l { x with
          probe := none
          counters := { x.counters with probeExpiries := bump x.counters.probeExpiries } }).raiseIf
        pr.requested .probe).endEvent))

/-- A request in flight ends when its response timeout runs out (BACKFILL_RESPONSE_TIMEOUT) or when the FILL_END at the
head names it and its station (HEAD_FILL_END): the slot empties, and of the gaps that carry the identifier COMPLETE,
REFUSED, TIMEOUT and a damaged PARTIAL count an attempt and open the gap again or abandon it at the setting, and an
undamaged PARTIAL abandons it; completion is then evaluated. Any other FILL_END is stale, and one of a disabled station
is discarded (R37, R41, R42, R81). -/
def Obligations.BackfillRequestsEnd : Prop :=
  (∀ (dt : Nat) (l : LinkId) (i : StationId) (identifier : Byte) (st : FillStatus) (rest : List Entry)
    (s : State), s.held = false → (s.link l).backfill = none → (s.link l).blocked = false →
    (s.link l).queue = .fillEnd i identifier st :: rest → (s.station i).enabled = true →
    exec (.headFillEnd dt l) s = .next ((s.advance dt).modLink l fun x => { x with
      queue := rest
      counters := { x.counters with staleFillEnds := bump x.counters.staleFillEnds } }).endEvent) ∧
  ∀ (dt : Nat) (l : LinkId) (b : BackfillSlot) (s : State), s.held = false →
    (s.link l).backfill = some b →
    let x := s.link l
    let y := s.station b.station
    let again : Gap → Option Gap := fun g =>
      if y.config.attempts ≤ g.attempts + 1 then none
      else some { g with attempts := g.attempts + 1, request := none, damaged := false }
    let kept : Bool → Gap → Option Gap := fun believed g =>
      if g.request ≠ some b.identifier then some g
      else if believed = true ∧ g.damaged = false then none else again g
    let told : Bool → State → State := fun believed u =>
      let gaps := y.tracker.gaps.filterMap (kept believed)
      let lost := y.tracker.gaps.countP fun g => (kept believed g).isNone
      ((u.setStation b.station { y with
        tracker := { y.tracker with gaps := gaps }
        counters := { y.counters with gapsAbandoned := bumpBy y.counters.gapsAbandoned lost } }).raiseIf
          (decide (0 < lost)) .gap).evalCompletion
    let emptied : Link := { x with backfill := none }
    (b.due ≤ (s.advance dt).partTime → exec (.backfillResponseTimeout dt l) s = .next (told false
      ((s.advance dt).setLink l { emptied with
        counters := { x.counters with responseTimeouts := bump x.counters.responseTimeouts } })).endEvent) ∧
    ((s.advance dt).partTime < b.due →
      exec (.backfillResponseTimeout dt l) s = .next (s.advance dt).endEvent) ∧
    (∀ (i : StationId) (identifier : Byte) (st : FillStatus) (rest : List Entry), x.blocked = false →
      x.queue = .fillEnd i identifier st :: rest →
      ((s.station i).enabled = true → identifier = b.identifier → i = b.station →
        exec (.headFillEnd dt l) s = .next (told (decide (st = .partly))
          ((s.advance dt).setLink l { emptied with queue := rest })).endEvent) ∧
      ((s.station i).enabled = true → identifier ≠ b.identifier ∨ i ≠ b.station →
        exec (.headFillEnd dt l) s = .next ((s.advance dt).setLink l { x with
          queue := rest
          counters := { x.counters with staleFillEnds := bump x.counters.staleFillEnds } }).endEvent) ∧
      ((s.station i).enabled = false →
        exec (.headFillEnd dt l) s = .next ((s.advance dt).setLink l { x with
          queue := rest
          counters := { x.counters with disabledEntries := bump x.counters.disabledEntries } }).endEvent))

/-! ## Queue heads, tracking and the record store -/

/-- A DATA entry at the head of a queue: discarded and counted when its station is disabled; blocked behind the waiting
list, or when no slot is FREE and no CLOSED epoch can be forced free, with the link at the tail of the list, "head
blocks" counted and STORE raised. A head that finds no FREE slot blocks so too when an epoch is CLOSED, and then the
oldest CLOSED epochs are forced free until as many slots are FREE as links wait or none is CLOSED: one alone when its
slots suffice, with its entries back in the pool, its number in the freed mark, and the forced free counted for the store
and for each port that it waited for (R173, R175). WAITING_LIST_SERVE with one link waiting and a FREE slot takes that
link's blocked entry as an unblocked head would be taken; with more, the link at the head of the list is served first,
and the rest after it while slots are FREE: with one FREE slot, an early record of the first link takes it and is held,
and the other links go on waiting. Without a FREE slot or a waiting link it does nothing (R37, R168, R169). -/
def Obligations.DataHeadsBlockAndAreServed : Prop :=
  ∀ (dt : Nat) (l : LinkId) (r : Record) (rest : List Entry) (s : State), s.held = false →
    (s.link l).queue = .data r :: rest →
    ((s.link l).blocked = false → (s.station r.station).enabled = false →
      exec (.headData dt l) s = .next ((s.advance dt).modLink l fun x => { x with
        queue := rest
        counters := { x.counters with disabledEntries := bump x.counters.disabledEntries } }).endEvent) ∧
    ((s.link l).blocked = false → (s.station r.station).enabled = true →
      (s.store.waiting ≠ [] ∧ s.store.slots.length < 4096) ∨
        (s.store.slots.length = 4096 ∧ ∀ e ∈ s.assembler.table, e.state = .forming) →
      exec (.headData dt l) s = .next ((((s.advance dt).modLink l fun x => { x with blocked := true }).modStore
        fun y => { y with waiting := y.waiting ++ [l], headBlocks := bump y.headBlocks }).raise
          .store).endEvent) ∧
    (s.store.waiting = [l] → (s.station r.station).enabled = true → s.store.slots.length < 4096 →
      exec (.waitingListServe dt) s = exec (.headData dt l)
        ((s.modLink l fun x => { x with blocked := false }).modStore fun y => { y with waiting := [] })) ∧
    (s.store.waiting = [] ∨ s.store.slots.length = 4096 →
      exec (.waitingListServe dt) s = .next (s.advance dt).endEvent) ∧
    ((s.link l).blocked = false → (s.station r.station).enabled = true → s.store.slots.length = 4096 →
      (∃ t, exec (.headData dt l) s = .next t ∧ t.link l = { s.link l with blocked := true } ∧
        (∀ k, k ≠ l → t.link k = s.link k) ∧ t.stations = s.stations ∧
        t.store.waiting = s.store.waiting ++ [l] ∧ t.store.headBlocks = bump s.store.headBlocks ∧
        (t.store.slots.length + t.store.waiting.length ≤ 4096 ∨
          ∀ e ∈ t.assembler.table, e.state = .forming) ∧
        (∀ p, (t.port p).line = (s.port p).line →
          (t.port p).notices &&& 0x20 = ((s.port p).notices ||| (s.port p).mask) &&& 0x20)) ∧
      (∀ (e : Epoch) (before after : List Epoch), s.assembler.sound →
        s.assembler.table = before ++ e :: after → (∀ d ∈ before, d.state = .forming) → e.state ≠ .forming →
        let left := e.contributions.foldl (fun slots c => dropReference c.slot slots) s.store.slots
        left.length + s.store.waiting.length + 1 ≤ 4096 →
        ∃ t, exec (.headData dt l) s = .next t ∧
          t.assembler = { s.assembler with
            table := before ++ after
            freedMark := match s.assembler.freedMark with
              | some m => some (max m e.number)
              | none => some e.number
            freed := bump s.assembler.freed } ∧
          t.store.slots = left ∧ t.store.poolFree = s.store.poolFree + e.contributions.length ∧
          t.store.forcedFrees = bump s.store.forcedFrees ∧
          (∀ p, (t.port p).forcedFrees = if e.needed.has p = true ∧ e.released.has p = false then
            bump (s.port p).forcedFrees else (s.port p).forcedFrees) ∧
          t.timebase = (s.advance dt).timebase ∧ t.reservations = s.reservations)) ∧
    (∀ more, s.store.waiting = l :: more → l ∉ more → s.store.slots.length < 4096 →
      let open_ : State := ((s.advance dt).modLink l fun x => { x with blocked := false }).modStore
        fun y => { y with waiting := more }
      exec (.waitingListServe dt) s = .next ((open_.takeData l r).serveWaiting more.length).endEvent ∧
      (∀ q, s.store.slots.length = 4095 → s.slotsSound → s.settled →
        (s.station r.station).tracker.q = some q → 1 ≤ stepsAfter q r.seq → stepsAfter q r.seq ≤ 8 →
        (∀ h ∈ (s.station r.station).tracker.hold, h.seq ≠ r.seq) →
        ∃ k, k < 4096 ∧ (∀ y ∈ s.store.slots, y.number ≠ k) ∧
          exec (.waitingListServe dt) s = .next (((open_.modLink l fun x => { x with queue := rest }).modStore
            fun y => { y with
              slots := insertSlot { number := k, record := r, timing := none, refs := 0 } y.slots }).modStation
                r.station fun x => { x with
                  tracker := { x.tracker with
                    hold := insertHeld q { slot := k, seq := r.seq } x.tracker.hold
                    holdDue := if x.tracker.hold = [] then
                        some ((s.advance dt).partTime + x.config.holdTime * 1000)
                      else x.tracker.holdDue }
                  counters := { x.counters with held := bump x.counters.held } }).endEvent))

/-- A DATA entry that finds a slot, 1 to 8 steps after its station's q and no copy of a held one, is HELD in the lowest
FREE slot at its serial position and counted, and starts the hold timer of an empty hold; one with a held seq, or
behind q in no gap, is a duplicate, counted and freed. Nothing else of the station moves. One behind q in a gap is a
fill: counted, and the gap is filled, shrunk or split, the upper part of a split being abandoned on a full list; a gap
filled after a request and one abandoned raise GAP; of the station only gaps and counters move. The fill is timed on the
model, whatever the expectation, and neither expectation nor covered-until moves: a start of T(K_first) − C, path FILL, the
quality of the clock state. Under an UNSET clock it is counted untimed, outside the span beyond the span, with no grid "no
grid", each time freed; on a set grid it is placed from the lowest FREE slot, which keeps that timing, as
FirstRecordCreatesItsEpoch says, and completion is evaluated. One 9 or more steps
after q declares the gap before the lowest held record, or before itself with none held, and q passes what is released;
with one record held, it is then released, held, or declares a second gap, by where it stands (R67, R70, R73, R74, R76
to R79, R128 to R130, R136, R137, R140, R157, R168). -/
def Obligations.EarlyAndRepeatedRecords : Prop :=
  ∀ (dt : Nat) (l : LinkId) (r : Record) (rest : List Entry) (q : Seq) (s : State), s.held = false →
    s.slotsSound → s.settled → (s.link l).blocked = false → (s.link l).queue = .data r :: rest →
    (s.station r.station).enabled = true → s.store.waiting = [] → s.store.slots.length < 4096 →
    (s.station r.station).tracker.q = some q →
    let i := r.station
    let x := s.station i
    let popped := (s.advance dt).modLink l fun y => { y with queue := rest }
    (1 ≤ stepsAfter q r.seq → stepsAfter q r.seq ≤ 8 → (∀ h ∈ x.tracker.hold, h.seq ≠ r.seq) →
      ∃ k, k < 4096 ∧ (∀ y ∈ s.store.slots, y.number ≠ k) ∧
        (∀ j, j < k → ∃ y ∈ s.store.slots, y.number = j) ∧
        exec (.headData dt l) s = .next ((popped.modStore fun y => { y with
            slots := insertSlot { number := k, record := r, timing := none, refs := 0 } y.slots }).setStation i
          { x with
            tracker := { x.tracker with
              hold := insertHeld q { slot := k, seq := r.seq } x.tracker.hold
              holdDue := if x.tracker.hold = [] then
                  some ((s.advance dt).partTime + x.config.holdTime * 1000)
                else x.tracker.holdDue }
            counters := { x.counters with held := bump x.counters.held } }).endEvent) ∧
    ((1 ≤ stepsAfter q r.seq ∧ stepsAfter q r.seq ≤ 8 ∧ ∃ h ∈ x.tracker.hold, h.seq = r.seq) ∨
      (32768 ≤ stepsAfter q r.seq ∧ ∀ g ∈ x.tracker.gaps, stepsAfter g.first g.last < stepsAfter g.first r.seq) →
      exec (.headData dt l) s = .next (popped.setStation i
        { x with counters := { x.counters with duplicates := bump x.counters.duplicates } }).endEvent) ∧
    (∀ (before after : List Gap) (g : Gap), 32768 ≤ stepsAfter q r.seq →
      x.tracker.gaps = before ++ g :: after →
      (∀ h ∈ before, stepsAfter h.first h.last < stepsAfter h.first r.seq) →
      stepsAfter g.first r.seq ≤ stepsAfter g.first g.last →
      let filled := g.first = r.seq ∧ g.last = r.seq
      let inside := g.first ≠ r.seq ∧ g.last ≠ r.seq
      let full := 4 ≤ x.tracker.gaps.length
      let lower : Gap := { g with last := r.seq - 1 }
      let upper : Gap := { g with first := r.seq + 1 }
      ∃ t, exec (.headData dt l) s = .next t ∧
        t.station i = { x with
          tracker := { x.tracker with
            gaps := before ++ (if filled then [] else if g.first = r.seq then [upper]
              else if g.last = r.seq ∨ full then [lower] else [lower, upper]) ++ after }
          counters := (t.station i).counters } ∧
        (t.station i).counters.fills = bump x.counters.fills ∧
        (t.station i).counters.gapsFilled =
          (if filled then bump x.counters.gapsFilled else x.counters.gapsFilled) ∧
        (t.station i).counters.gapsAbandoned =
          (if inside ∧ full then bump x.counters.gapsAbandoned else x.counters.gapsAbandoned) ∧
        ((filled ∧ (g.request ≠ none ∨ 1 ≤ g.attempts)) ∨ (inside ∧ full) →
          ∀ p, (t.port p).line = (s.port p).line →
            (t.port p).notices &&& 0x04 = ((s.port p).notices ||| (s.port p).mask) &&& 0x04) ∧
        (∀ j, j ≠ i → t.station j = s.station j) ∧ t.link l = { s.link l with queue := rest } ∧
        (∀ k, k ≠ l → t.link k = s.link k) ∧ t.timebase = (s.advance dt).timebase ∧
        t.reservations = s.reservations ∧
        (let recovered : State := (popped.setStation i { x with
          tracker := { x.tracker with
            gaps := before ++ (if filled then [] else if g.first = r.seq then [upper]
              else if g.last = r.seq ∨ full then [lower] else [lower, upper]) ++ after }
          counters := { x.counters with
            fills := bump x.counters.fills
            gapsFilled := if filled then bump x.counters.gapsFilled else x.counters.gapsFilled
            gapsAbandoned :=
              if inside ∧ full then bump x.counters.gapsAbandoned else x.counters.gapsAbandoned } }).raiseIf
            (decide ((filled ∧ (g.request ≠ none ∨ 1 ≤ g.attempts)) ∨ (inside ∧ full))) .gap
        let dropped : (StationCounters → StationCounters) → State := fun f =>
          (recovered.modStation i fun y => { y with counters := f y.counters }).evalCompletion.endEvent
        (x.clock.state = .unset → t = dropped fun c => { c with untimed := bump c.untimed }) ∧
        (∀ a : Anchor, x.clock.state ≠ .unset → x.clock.anchor = some a →
          let delta : Int := (r.kFirst.toNat : Int) - a.k0.toNat
          let start : Int := a.t0 + delta * x.period + roundDiv (delta * x.period * x.clock.rho) 1000000000 -
            x.config.calibration
          let stop : Int := start + (r.n : Int) * x.period +
            roundDiv ((r.n : Int) * x.period * x.clock.rho) 1000000000
          let fits := -2147483647 ≤ delta ∧ delta ≤ 2147483647 ∧
            -9223372036854775808 ≤ start ∧ start ≤ 9223372036854775807 ∧
            -9223372036854775808 ≤ stop ∧ stop ≤ 9223372036854775807
          (¬ fits → t = dropped fun c => { c with beyondSpan := bump c.beyondSpan }) ∧
          (fits → s.timebase.grid = none → t = dropped fun c => { c with noGrid := bump c.noGrid }) ∧
          (∀ grid : Grid, fits → s.timebase.grid = some grid →
            let quality : Quality := if x.clock.state = .locked then .qualified
              else if x.clock.state = .holdover then .holdover else .unqualified
            let timing : Timing := { start := start, rho := x.clock.rho, quality := quality, path := .fill }
            ∃ k, k < 4096 ∧ (∀ y ∈ s.store.slots, y.number ≠ k) ∧
              (∀ j, j < k → ∃ y ∈ s.store.slots, y.number = j) ∧
              t = (((recovered.modStore fun y => { y with
                slots := insertSlot { number := k, record := r, timing := some timing, refs := 0 } y.slots
                }).placeRecord grid x.period k r timing).evalCompletion.evalCompletion).endEvent)))) ∧
    (9 ≤ stepsAfter q r.seq → stepsAfter q r.seq ≤ 32767 →
      let aged : Seq → List Gap → List Gap := fun q' gaps => gaps.filter fun g =>
        decide (1 ≤ stepsAfter g.first q') && decide (stepsAfter g.first q' ≤ 32767)
      let declared : Seq → Seq → List Gap → List Gap := fun first last gaps =>
        (if 4 ≤ gaps.length then gaps.drop 1 else gaps) ++
          [{ first := first, last := last, attempts := 0, request := none, damaged := false }]
      let taken : State → Prop := fun t =>
        (t.station i).config = x.config ∧ (t.station i).clock = x.clock ∧ (t.station i).mark = x.mark ∧
        (∀ j, j ≠ i → t.station j = s.station j) ∧ t.link l = { s.link l with queue := rest } ∧
        (∀ k, k ≠ l → t.link k = s.link k) ∧ t.timebase = (s.advance dt).timebase ∧
        t.reservations = s.reservations
      let released : State → List Gap → Prop := fun t gaps =>
        (t.station i).tracker.q = some (r.seq + 1) ∧ (t.station i).tracker.hold = [] ∧
        (t.station i).tracker.holdDue = none ∧ (t.station i).tracker.gaps = aged (r.seq + 1) gaps ∧
        (t.station i).counters.inSequence = bump x.counters.inSequence
      (x.tracker.hold = [] →
        ∃ t, exec (.headData dt l) s = .next t ∧ taken t ∧
          released t (aged r.seq (declared q (r.seq - 1) x.tracker.gaps)) ∧
          (t.station i).counters.gapsDeclared = bump x.counters.gapsDeclared) ∧
      (∀ h : Held, x.tracker.hold = [h] → 1 ≤ stepsAfter q h.seq → stepsAfter q h.seq ≤ 8 →
        (∀ y ∈ s.store.slots, y.number = h.slot → y.record.station = i) →
        let once := aged (h.seq + 1) (declared q (h.seq - 1) x.tracker.gaps)
        ∃ t, exec (.headData dt l) s = .next t ∧ taken t ∧
          (r.seq = h.seq + 1 → released t once ∧
            (t.station i).counters.gapsDeclared = bump x.counters.gapsDeclared) ∧
          (1 ≤ stepsAfter (h.seq + 1) r.seq → stepsAfter (h.seq + 1) r.seq ≤ 8 →
            (t.station i).tracker.q = some (h.seq + 1) ∧
            (∃ k, k < 4096 ∧ (∀ y ∈ s.store.slots, y.number ≠ k) ∧
              (t.station i).tracker.hold = [{ slot := k, seq := r.seq }]) ∧
            (t.station i).tracker.holdDue =
              some ((s.advance dt).partTime + x.config.holdTime * 1000) ∧
            (t.station i).tracker.gaps = once ∧
            (t.station i).counters.held = bump x.counters.held ∧
            (t.station i).counters.gapsDeclared = bump x.counters.gapsDeclared) ∧
          (9 ≤ stepsAfter (h.seq + 1) r.seq →
            released t (aged r.seq (declared (h.seq + 1) (r.seq - 1) once)) ∧
            (t.station i).counters.gapsDeclared = bump (bump x.counters.gapsDeclared))))

/-- A DATA entry at its station's q, or its first, released main-stream with nothing held and no gap, is timed on the
model: a start of T(K_first) − C, or the carried expectation where the counter is the expected one and the two lie
within the tear tolerance; the expectation and covered-until move to its end, and break, tear and untimed records are
counted. With no grid set the record is counted "no grid" and freed. With the grid set it is placed from the lowest FREE
slot, which keeps its start, ρ, quality and path flag, completion is evaluated, and q passes it (R68, R69, R128 to R135,
R137 to R140, R168; what a placement does is FirstRecordCreatesItsEpoch).

With records held, one at q is counted once in sequence, q passes it and every held record that follows it without a break,
and those leave the hold without being counted again; the timer stops when nothing is left held and keeps its due value
otherwise. The gap list is then aged against the new q: each gap whose first seq lies 32,768 or more steps behind it leaves,
is counted abandoned and raises GAP. Under an UNSET clock each record so released is counted untimed and its slot freed, and
completion is evaluated. No other station is touched (R69 steps 1 to 6, R76, R82, R129). -/
def Obligations.MainStreamRecordsAreTimed : Prop :=
  (∀ (dt : Nat) (l : LinkId) (r : Record) (rest : List Entry) (run others : List Held) (s : State), s.held = false →
    s.slotsSound → s.settled → (s.link l).blocked = false → (s.link l).queue = .data r :: rest →
    (s.station r.station).enabled = true → s.store.waiting = [] → s.store.slots.length < 4096 →
    let i := r.station
    let x := s.station i
    let q : Seq := r.seq + 1 + BitVec.ofNat 16 run.length
    x.tracker.q = some r.seq → x.tracker.hold = run ++ others →
    run.map Held.seq = (List.range run.length).map (fun k => r.seq + 1 + BitVec.ofNat 16 k) →
    (∀ o ∈ others.head?, o.seq ≠ q) →
    (∀ h ∈ run, ∀ y ∈ s.store.slots, y.number = h.slot → y.record.station = i) →
    let kept := x.tracker.gaps.filter fun g =>
      decide (1 ≤ stepsAfter g.first q) && decide (stepsAfter g.first q ≤ 32767)
    let lost := x.tracker.gaps.length - kept.length
    let taken : Tracker := { x.tracker with
      q := some q, hold := others, gaps := kept
      holdDue := if others = [] then none else x.tracker.holdDue }
    (∃ t, exec (.headData dt l) s = .next t ∧
      t.station i = { x with
        tracker := { taken with covered := (t.station i).tracker.covered }
        expectation := (t.station i).expectation
        counters := (t.station i).counters } ∧
      (t.station i).counters.inSequence = bump x.counters.inSequence ∧
      (t.station i).counters.held = x.counters.held ∧
      (t.station i).counters.gapsAbandoned = bumpBy x.counters.gapsAbandoned lost ∧
      (0 < lost → ∀ p, (t.port p).line = (s.port p).line →
        (t.port p).notices &&& 0x04 = ((s.port p).notices ||| (s.port p).mask) &&& 0x04) ∧
      (∀ j, j ≠ i → t.station j = s.station j) ∧ t.link l = { s.link l with queue := rest } ∧
      (∀ k, k ≠ l → t.link k = s.link k) ∧ t.timebase = (s.advance dt).timebase ∧
      t.reservations = s.reservations) ∧
    (x.clock.state = .unset → (run.map Held.slot).Nodup →
      (∀ h ∈ run, ∃ y ∈ s.store.slots, y.number = h.slot) →
      exec (.headData dt l) s = .next (((((s.advance dt).modLink l fun y => { y with queue := rest }).modStore fun y =>
        { y with slots := y.slots.filter fun z => run.all fun h => decide (h.slot ≠ z.number) }).setStation i { x with
          tracker := taken
          counters := { x.counters with
            inSequence := bump x.counters.inSequence
            untimed := bumpBy x.counters.untimed (run.length + 1)
            gapsAbandoned := bumpBy x.counters.gapsAbandoned lost } }).raiseIf
              (decide (0 < lost)) .gap).evalCompletion.endEvent)) ∧
  ∀ (dt : Nat) (l : LinkId) (r : Record) (rest : List Entry) (s : State), s.held = false →
    s.slotsSound → s.settled → (s.link l).blocked = false → (s.link l).queue = .data r :: rest →
    (s.station r.station).enabled = true → s.store.waiting = [] → s.store.slots.length < 4096 →
    (s.station r.station).tracker.hold = [] → (s.station r.station).tracker.gaps = [] →
    (s.station r.station).tracker.q = none ∨ (s.station r.station).tracker.q = some r.seq →
    let i := r.station
    let x := s.station i
    let popped := (s.advance dt).modLink l fun y => { y with queue := rest }
    let taken : Tracker := { x.tracker with q := some (r.seq + 1), hold := [], holdDue := none, gaps := [] }
    let counted : StationCounters := { x.counters with inSequence := bump x.counters.inSequence }
    (x.clock.state = .unset →
      exec (.headData dt l) s = .next (popped.setStation i { x with
        tracker := taken, counters := { counted with untimed := bump x.counters.untimed } }).endEvent) ∧
    (∀ a : Anchor, x.clock.state ≠ .unset → x.clock.anchor = some a →
      let delta : Int := (r.kFirst.toNat : Int) - a.k0.toNat
      let tmod : Int := a.t0 + delta * x.period + roundDiv (delta * x.period * x.clock.rho) 1000000000 -
        x.config.calibration
      let broken := x.expectation = none ∨ ∃ e, x.expectation = some e ∧ r.kFirst.toNat ≠ e.kx
      let torn := ∃ e, x.expectation = some e ∧ r.kFirst.toNat = e.kx ∧
        x.config.tearTolerance < (tmod - e.tx).natAbs
      ∀ start : Int,
        (broken ∨ torn → start = tmod) → (¬ broken → ¬ torn → ∃ e, x.expectation = some e ∧ start = e.tx) →
      let stop : Int := start + (r.n : Int) * x.period +
        roundDiv ((r.n : Int) * x.period * x.clock.rho) 1000000000
      let fits := -2147483647 ≤ delta ∧ delta ≤ 2147483647 ∧
        -9223372036854775808 ≤ start ∧ start ≤ 9223372036854775807 ∧
        -9223372036854775808 ≤ stop ∧ stop ≤ 9223372036854775807
      (¬ fits → exec (.headData dt l) s = .next (popped.setStation i { x with
        tracker := taken, counters := { counted with beyondSpan := bump x.counters.beyondSpan } }).endEvent) ∧
      (fits → ∀ discontinuities tears : Nat,
        discontinuities = (if x.expectation ≠ none ∧ broken then bump x.counters.discontinuities
          else x.counters.discontinuities) →
        tears = (if torn then bump x.counters.tears else x.counters.tears) →
        (s.timebase.grid = none → exec (.headData dt l) s = .next (popped.setStation i { x with
          tracker := { taken with covered := some stop }
          expectation := some { kx := r.kFirst.toNat + r.n, tx := stop }
          counters := { counted with
            discontinuities := discontinuities, tears := tears, noGrid := bump x.counters.noGrid } }).endEvent) ∧
        (∀ (g : Grid) (path : PathFlag), s.timebase.grid = some g → (broken → path = .broke) →
          (torn → path = .tear) → (¬ broken → ¬ torn → path = .continuity) →
          let quality : Quality := if x.clock.state = .locked then .qualified
            else if x.clock.state = .holdover then .holdover else .unqualified
          let timing : Timing := { start := start, rho := x.clock.rho, quality := quality, path := path }
          ∃ k, k < 4096 ∧ (∀ y ∈ s.store.slots, y.number ≠ k) ∧
            (∀ j, j < k → ∃ y ∈ s.store.slots, y.number = j) ∧
            exec (.headData dt l) s = .next (((((((popped.modStore fun y => { y with
                slots := insertSlot { number := k, record := r, timing := some timing, refs := 0 } y.slots
                }).setStation i { x with
                  tracker := { x.tracker with q := some r.seq, covered := some stop }
                  expectation := some { kx := r.kFirst.toNat + r.n, tx := stop }
                  counters := { counted with discontinuities := discontinuities, tears := tears } }).placeRecord
                    g x.period k r timing).evalCompletion).modStation i fun y => { y with
                      tracker := { y.tracker with q := some (r.seq + 1), holdDue := none } }).evalCompletion).endEvent))))

/-- The contributions of a record cut it without gap or overlap: the first epoch begins at sample 0, each next one where
the one before ended, the last ends at n, each holds at least one sample, and each first sample lies inside its
epoch (R130, R145, R146, R147). -/
def Obligations.ContributionsCutTheRecordExactly : Prop :=
  ∀ (g : Grid) (rate : Rate) (slot : Nat) (r : Record) (t : Timing) (late : Bool) (first last : Nat),
    1 ≤ g.e → 1 ≤ r.n → -100000 ≤ t.rho → t.rho ≤ 100000 →
    (first : Int) = g.epochAt t.start →
    (last : Int) = g.epochAt (t.start + duration rate.period t.rho (r.n - 1)) →
    let cut : Nat → Contribution := fun m => makeContribution g m rate.period slot r t late
    (cut first).i0 = 0 ∧ (cut last).i0 + (cut last).count = r.n ∧
    (∀ m, first ≤ m → m ≤ last →
      1 ≤ (cut m).count ∧ (cut (m + 1)).i0 = (cut m).i0 + (cut m).count ∧
      0 ≤ (cut m).offset ∧ (cut m).offset < (g.e : Int) * 1000000000 ∧
      (cut m).offset = t.start + duration rate.period t.rho (cut m).i0 -
        ((g.o : Int) + m * g.e) * 1000000000 ∧
      ∀ i, (cut m).i0 ≤ i → i < (cut m).i0 + (cut m).count →
        g.epochAt (t.start + duration rate.period t.rho i) = m)

/-- The placement of a timed record, which HEAD_DATA makes of a main-stream record on a set grid (see
MainStreamRecordsAreTimed). One that starts before epoch 0 is counted "out of range", one that ends beyond the epoch after
the hub's "future", and both are freed. One whose samples all fall in epoch n enters n when n is in the table, and a
CLOSED n takes it late, amended and with EPOCH raised. An absent n is too late at or below the freed mark, below the
lowest number present, or with its deadline reached, and the record is counted and freed; otherwise n is created with every
enabled station that has a clock expected and every subscribed port needed, in a full table of lower numbers by eviction
of the lowest, a forced free that is counted; in a full table with a higher number it is too late too. Each entry takes one
pool entry, and the slot counts one reference. With an empty pool the oldest CLOSED epoch is forced free and the
placement planned anew; with none CLOSED the record is dropped, counted, with STORE raised.

A record over the epochs a to b is placed in one plan: each present epoch and each new one takes its part, each other part
is counted too late, the slot counts one reference for each part placed and is freed when there is none. Parts above a full
table evict its oldest epochs, one each. When the pool cannot supply all the parts, no part is placed: an oldest CLOSED
epoch that makes up what lacks is forced free and the placement planned anew, and with none CLOSED the record is dropped
(R146, R148 to R155, R160, R161, R172, R174, R175; the order of planning and forcing is log 35). -/
def Obligations.FirstRecordCreatesItsEpoch : Prop :=
  ∀ (g : Grid) (period slot : Nat) (r : Record) (t : Timing) (s : State),
    let first := g.epochAt t.start
    let last := g.epochAt (t.start + duration period t.rho (r.n - 1))
    let table := s.assembler.table
    let counted : (StationCounters → StationCounters) → State := fun f =>
      s.modStation r.station fun x => { x with counters := f x.counters }
    let refused := (counted fun c => { c with tooLate := bump c.tooLate }).freeSlot slot
    let slotted : Nat → List Slot → List Slot := fun refs slots =>
      slots.map fun z => if z.number = slot then { z with refs := refs } else z
    let entered : State → State := fun u =>
      u.modStore fun y => { y with poolFree := y.poolFree - 1, slots := slotted 1 y.slots }
    let raised : Option Nat → Nat → Option Nat := fun mark n => match mark with
      | some m => some (max m n)
      | none => some n
    let created : StationSet → Nat → Epoch := fun expected n => {
      number := n, state := .forming, amended := false, late := 0, expected := expected
      needed := { mp0 := s.mp0.subscribed, mp1 := s.mp1.subscribed }, released := { mp0 := false, mp1 := false }
      contributions := [makeContribution g n period slot r t false] }
    let waits : StationSet → Prop := fun expected => ∀ i, inSet expected i =
      ((s.station i).enabled && decide ((s.station i).clock.state ≠ .unset))
    let dropped := (((counted fun c => { c with poolExhausted := bump c.poolExhausted }).modStore fun y =>
      { y with poolShortages := bump y.poolShortages }).freeSlot slot).raise .store
    (first < 0 → s.placeRecord g period slot r t =
      (counted fun c => { c with outOfRange := bump c.outOfRange }).freeSlot slot) ∧
    (0 ≤ first → (∃ h, s.hubEpoch = some h ∧ h + 1 < last) → s.placeRecord g period slot r t =
      (counted fun c => { c with future := bump c.future }).freeSlot slot) ∧
    (∀ n : Nat, first = n → last = n → (∀ h, s.hubEpoch = some h → (n : Int) ≤ h + 1) → s.assembler.sound →
      let cut : Bool → Contribution := fun late => makeContribution g n period slot r t late
      let absent := ∀ e ∈ table, e.number ≠ n
      let late := (∃ m, s.assembler.freedMark = some m ∧ n ≤ m) ∨ (∃ e ∈ table.head?, n < e.number) ∨
        (s.timebase.hubState ≠ .unset ∧
          (g.o + n * g.e + g.e + g.l : Int) * 1000000000 ≤ s.timebase.hubTime)
      (∀ e ∈ table, e.number = n → 1 ≤ s.store.poolFree →
        (e.state = .forming → s.placeRecord g period slot r t = entered (s.modAssembler fun a => { a with
          table := a.table.map fun y => if y.number = n then { y with
            contributions := insertContribution (g.epochStart n) (cut false) none y.contributions } else y })) ∧
        (e.state ≠ .forming → s.placeRecord g period slot r t =
          (entered ((counted fun c => { c with lateContributions := bump c.lateContributions }).modAssembler
            fun a => { a with table := a.table.map fun y => if y.number = n then { y with
              amended := true, late := min (y.late + 1) 65535
              contributions := insertContribution (g.epochStart n) (cut true) none y.contributions }
                else y })).raise .epoch)) ∧
      (absent → late → s.placeRecord g period slot r t = refused) ∧
      (absent → ¬ late → table.length < 16 → 1 ≤ s.store.poolFree →
        ∃ expected, waits expected ∧ s.placeRecord g period slot r t = entered (s.modAssembler fun a => { a with
          created := bump a.created, table := insertEpoch (created expected n) a.table })) ∧
      (absent → ¬ late → table.length = 16 → (∃ e ∈ table, n < e.number) →
        s.placeRecord g period slot r t = refused) ∧
      (∀ (oldest : Epoch) (rest : List Epoch), absent → ¬ late → table.length = 16 → table = oldest :: rest →
        (∀ e ∈ table, e.number < n) → 1 ≤ s.store.poolFree + oldest.contributions.length →
        ∃ (expected : StationSet) (u : State), waits expected ∧ s.placeRecord g period slot r t = u ∧
          u.assembler = { s.assembler with
            table := rest ++ [created expected n], freedMark := raised s.assembler.freedMark oldest.number
            created := bump s.assembler.created, evictions := bump s.assembler.evictions
            freed := bump s.assembler.freed } ∧
          u.store = { s.store with
            poolFree := s.store.poolFree + oldest.contributions.length - 1
            forcedFrees := bump s.store.forcedFrees
            slots := slotted 1
              (oldest.contributions.foldl (fun slots c => dropReference c.slot slots) s.store.slots) } ∧
          (∀ p, u.port p = { s.port p with
            notices := (s.port p).notices ||| (0x20 &&& (s.port p).mask)
            forcedFrees := if oldest.needed.has p = true ∧ oldest.released.has p = false then
              bump (s.port p).forcedFrees else (s.port p).forcedFrees }) ∧
          u.stations = s.stations ∧ u.links = s.links ∧ u.timebase = s.timebase ∧
          u.reservations = s.reservations) ∧
      (s.store.poolFree = 0 → ¬ absent ∨ (¬ late ∧ table.length < 16) →
        ((∀ e ∈ table, e.state = .forming) → s.placeRecord g period slot r t = dropped) ∧
        (∀ (d : Epoch) (before after : List Epoch), table = before ++ d :: after →
          (∀ e ∈ before, e.state = .forming) → d.state ≠ .forming → d.contributions ≠ [] →
          s.placeRecord g period slot r t = (s.forceFree d.number).placeRecord g period slot r t))) ∧
    (∀ a b : Nat, first = a → last = b → a ≤ b → (∀ h, s.hubEpoch = some h → (b : Int) ≤ h + 1) →
      s.assembler.sound →
      let run := List.range' a (b + 1 - a)
      let present : Nat → Bool := fun n => table.any fun e => decide (e.number = n)
      let late : Nat → Bool := fun n => (s.assembler.freedMark.any fun m => decide (n ≤ m)) ||
        (table.head?.any fun e => decide (n < e.number)) || decide (s.timebase.hubState ≠ .unset ∧
          (g.o + n * g.e + g.e + g.l : Int) * 1000000000 ≤ s.timebase.hubTime)
      let entries := run.filter fun n => present n || !late n
      let opened := run.filter fun n => !present n && !late n
      let amended := run.countP fun n => table.any fun e => decide (e.number = n) && decide (e.state ≠ .forming)
      let joined : Epoch → Epoch := fun e =>
        let cut := makeContribution g e.number period slot r t (decide (e.state ≠ .forming))
        { e with
          amended := if e.state = .forming then e.amended else true
          late := if e.state = .forming then e.late else min (e.late + 1) 65535
          contributions := insertContribution (g.epochStart e.number) cut none e.contributions }
      (table.length + opened.length ≤ 16 → entries.length ≤ s.store.poolFree →
        ∃ expected, waits expected ∧ s.placeRecord g period slot r t =
          ((({ s with
            assembler := { s.assembler with
              created := bumpBy s.assembler.created opened.length
              table := opened.foldl (fun l n => insertEpoch (created expected n) l)
                (table.map fun e => if e.number ∈ run then joined e else e) }
            store := { s.store with
              poolFree := s.store.poolFree - entries.length
              slots := if entries = [] then s.store.slots.filter fun z => decide (z.number ≠ slot)
                else slotted entries.length s.store.slots } } : State).modStation r.station fun x => { x with
                  counters := { x.counters with
                    tooLate := bumpBy x.counters.tooLate (run.length - entries.length)
                    lateContributions := bumpBy x.counters.lateContributions amended } }).raiseIf
                      (decide (0 < amended)) .epoch)) ∧
      (table.length + opened.length ≤ 16 → s.store.poolFree < entries.length →
        ((∀ e ∈ table, e.state = .forming) → s.placeRecord g period slot r t = dropped) ∧
        (∀ (d : Epoch) (before after : List Epoch), table = before ++ d :: after →
          (∀ e ∈ before, e.state = .forming) → d.state ≠ .forming →
          entries.length ≤ s.store.poolFree + d.contributions.length →
          s.placeRecord g period slot r t = (s.forceFree d.number).placeRecord g period slot r t)) ∧
      (table.length = 16 → (∀ e ∈ table, e.number < a) → late a = false → run.length ≤ 16 →
        let gone := table.take run.length
        let returned := (gone.map fun e => e.contributions.length).sum
        run.length ≤ s.store.poolFree + returned →
        ∃ (expected : StationSet) (u : State), waits expected ∧ s.placeRecord g period slot r t = u ∧
          u.assembler = { s.assembler with
            table := table.drop run.length ++ run.map (created expected)
            freedMark := gone.foldl (fun mark e => raised mark e.number) s.assembler.freedMark
            created := bumpBy s.assembler.created run.length
            evictions := bumpBy s.assembler.evictions run.length
            freed := bumpBy s.assembler.freed run.length } ∧
          u.store = { s.store with
            poolFree := s.store.poolFree + returned - run.length
            forcedFrees := bumpBy s.store.forcedFrees run.length
            slots := slotted run.length (gone.foldl (fun slots e =>
              e.contributions.foldl (fun slots c => dropReference c.slot slots) slots) s.store.slots) } ∧
          (∀ p, u.port p = { s.port p with
            notices := (s.port p).notices ||| (0x20 &&& (s.port p).mask)
            forcedFrees := bumpBy (s.port p).forcedFrees
              (gone.countP fun e => e.needed.has p && !e.released.has p) }) ∧
          u.stations = s.stations ∧ u.links = s.links ∧ u.timebase = s.timebase ∧
          u.reservations = s.reservations))

/-- A station that holds records gives up waiting by one declare-and-advance at HOLD_TIMER_EXPIRY of a due timer, at a
DAMAGED entry and at a BURST_FAIL entry that resolves to it: the range from q to before the lowest held seq becomes an
OPEN gap at the tail, the oldest of four giving way, q passes the lowest held record, which is released, aged gaps
leave, and the timer runs anew while records are held. With nothing held the entries only leave the queue. No other
station is touched (R71, R73, R75, R76). A DAMAGED entry of a disabled station is discarded and counted for its link, and
nothing else is touched (R37). -/
def Obligations.GivingUpDeclaresAGap : Prop :=
  (∀ (dt : Nat) (l : LinkId) (i : StationId) (kind : Byte) (fault : EntryFault) (rest : List Entry) (s : State),
    s.held = false → (s.link l).blocked = false → (s.link l).queue = .damaged i kind fault :: rest →
    (s.station i).enabled = false →
    exec (.headDamaged dt l) s = .next ((s.advance dt).modLink l fun x => { x with
      queue := rest
      counters := { x.counters with disabledEntries := bump x.counters.disabledEntries } }).endEvent) ∧
  ∀ (dt : Nat) (l : LinkId) (i : StationId) (c : Instr) (s : State), s.held = false →
    (s.link l).blocked = false →
    ((c = .holdTimerExpiry dt i ∧ ∃ d, (s.station i).tracker.holdDue = some d ∧ d ≤ (s.advance dt).partTime) ∨
      (c = .headDamaged dt l ∧ (s.station i).enabled = true ∧
        ∃ kind fault rest, (s.link l).queue = .damaged i kind fault :: rest) ∨
      (c = .headBurstFail dt l ∧
        ∃ address rest, (s.link l).queue = .burstFail (some address) :: rest ∧ s.lookup l address = some i)) →
    let x := s.station i
    (∀ (q : Seq) (h : Held) (others : List Held), x.tracker.q = some q → x.tracker.hold = h :: others →
      (∀ o ∈ others.head?, o.seq ≠ h.seq + 1) →
      (∀ y ∈ s.store.slots, y.number = h.slot → y.record.station = i) →
      ∃ t, exec c s = .next t ∧ (∀ j, j ≠ i → t.station j = s.station j) ∧
        (t.station i).tracker.q = some (h.seq + 1) ∧ (t.station i).tracker.hold = others ∧
        (t.station i).tracker.holdDue = (if others = [] then none
          else some ((s.advance dt).partTime + x.config.holdTime * 1000)) ∧
        (t.station i).tracker.gaps =
          ((if 4 ≤ x.tracker.gaps.length then x.tracker.gaps.drop 1 else x.tracker.gaps) ++
            [({ first := q, last := h.seq - 1, attempts := 0, request := none, damaged := false } : Gap)]).filter
              (fun g => decide (1 ≤ stepsAfter g.first (h.seq + 1)) &&
                decide (stepsAfter g.first (h.seq + 1) ≤ 32767)) ∧
        (t.station i).counters.gapsDeclared = bump x.counters.gapsDeclared ∧
        (t.station i).config = x.config ∧ (t.station i).clock = x.clock ∧ (t.station i).mark = x.mark ∧
        t.timebase = (s.advance dt).timebase ∧ t.reservations = s.reservations ∧
        (∀ k, k ≠ l → t.link k = s.link k)) ∧
    (x.tracker.hold = [] → (∀ d, c ≠ .holdTimerExpiry d i) →
      exec c s = .next (((s.advance dt).modLink l fun y => { y with queue := y.queue.tail }).evalCompletion).endEvent)

/-- A RESTART entry of an enabled station clears its tracking, abandoning its gaps without a notice, frees its held
slots, makes its expectation none and its clock UNSET, takes it out of every FORMING epoch's expected set and
invalidates the reservation that names it, and completion is evaluated; its configuration, binding, counters, stamps
and mark unit are kept (R86, R124, R156). One of a disabled station is discarded and counted for its link, and nothing
else is touched (R37). -/
def Obligations.RestartClearsTheStation : Prop :=
  ∀ (dt : Nat) (l : LinkId) (i : StationId) (rest : List Entry) (s : State), s.held = false →
    (s.link l).blocked = false → (s.link l).queue = .restart i :: rest →
    let x := s.station i
    let cleared : State := { s.advance dt with
      links := s.links.set l { s.link l with queue := rest }
      stations := s.stations.set i { x with
        tracker := { q := none, hold := [], holdDue := none, gaps := [], covered := none }
        expectation := none
        clock := { state := .unset, anchor := none, rho := 0, count := 0, stages := 0, outliers := 0,
                   residual := none, silenceDue := none, holdoverDue := none }
        counters := { x.counters with
          gapsAbandoned := bumpBy x.counters.gapsAbandoned x.tracker.gaps.length } }
      store := { s.store with
        slots := s.store.slots.filter fun y =>
          x.tracker.hold.all fun h => decide (h.slot ≠ y.number) }
      assembler := { s.assembler with
        table := s.assembler.table.map fun e =>
          if e.state = .forming then { e with expected := e.expected &&& ~~~(1#48 <<< i.val) } else e }
      reservations := match s.reservation i with
        | some y => if y.station = i then s.reservations.set (bankOf i) none else s.reservations
        | none => s.reservations }
    (x.enabled = true → exec (.headRestart dt l) s =
      .next ((cleared.raiseIf (decide (x.clock.state ≠ .unset)) .station).evalCompletion).endEvent) ∧
    (x.enabled = false → exec (.headRestart dt l) s = .next ((s.advance dt).modLink l fun y => { y with
      queue := rest
      counters := { y.counters with disabledEntries := bump y.counters.disabledEntries } }).endEvent)

/-- A LINK_UP entry restarts the hold timer of each enabled station of its link that holds records, and touches no other
station. A LINK_DOWN entry takes every station bound to its link out of the expected set of every FORMING epoch and
completion is evaluated; it changes no station (R72, R156). -/
def Obligations.LinkEntriesReachTheirStations : Prop :=
  ∀ (dt : Nat) (l : LinkId) (rest : List Entry) (s : State), s.held = false → (s.link l).blocked = false →
    ((s.link l).queue = .linkUp :: rest →
      ∃ t, exec (.headLinkUp dt l) s = .next t ∧
        (∀ i, t.station i =
          if ((s.station i).enabled && (s.boundTo l i) && !(s.station i).tracker.hold.isEmpty) = true then
            { s.station i with tracker := { (s.station i).tracker with
              holdDue := some ((s.advance dt).partTime + (s.station i).config.holdTime * 1000) } }
          else s.station i) ∧
        t.link l = { s.link l with queue := rest } ∧ (∀ k, k ≠ l → t.link k = s.link k) ∧
        t.timebase = (s.advance dt).timebase ∧ t.assembler = s.assembler ∧
        t.store.slots = s.store.slots ∧ t.reservations = s.reservations) ∧
    (∀ cause, (s.link l).queue = .linkDown cause :: rest →
      ∃ out : StationSet, (∀ i, inSet out i = s.boundTo l i) ∧
        exec (.headLinkDown dt l) s = .next ((((s.advance dt).modLink l fun x =>
          { x with queue := rest }).modAssembler fun a => { a with
            table := a.table.map fun e =>
              if e.state = .forming then { e with expected := e.expected &&& ~~~out } else e }).evalCompletion).endEvent)

/-- Completion closes, with cause COMPLETE, exactly the FORMING epochs whose every expected station has an empty gap list
and is covered to the epoch's end; each stays in the table CLOSED while a port needs it and is freed otherwise, and no
other epoch, and no station, link or time, is touched (R157, R159; no link waits, so R173 has no part). -/
def Obligations.CompletionClosesCoveredEpochs : Prop :=
  ∀ (g : Grid) (s : State), s.timebase.grid = some g → s.assembler.sound → s.store.waiting = [] →
    let t := s.evalCompletion
    t.stations = s.stations ∧ t.links = s.links ∧ t.timebase = s.timebase ∧
    t.reservations = s.reservations ∧
    ∀ e ∈ s.assembler.table,
      let complete : Prop := e.state = .forming ∧ ∀ i, inSet e.expected i = true →
        (s.station i).tracker.gaps = [] ∧ ∃ c, (s.station i).tracker.covered = some c ∧
          ((g.o : Int) + e.number * g.e + g.e) * 1000000000 ≤ c
      let wanted : Prop := ∃ p, e.needed.has p = true ∧ e.released.has p = false
      (¬ complete → e ∈ t.assembler.table) ∧
      (complete → wanted → { e with state := .closedComplete } ∈ t.assembler.table) ∧
      (complete → ¬ wanted → (∀ x ∈ t.assembler.table, x.number ≠ e.number) ∧
        ∃ m, t.assembler.freedMark = some m ∧ e.number ≤ m)

/-! ## Marks, probes and clocks -/

/-- A MARK entry of an enabled station is ignored for a PROBE source or a phase at or above P, then for a clear lock
flag. One that passes gives the point (K_m, S s − p), which anchors an UNSET clock, is stale at or below the anchor,
is accepted or an outlier by its residual within the span, and re-anchors beyond the span or in FREE, with ρ kept and
the holdover timer started on entering ACQUIRING alone. Nothing but the queue, that station and the STATION notice
changes (R90, R107 to R117, R126; that p and S are unsigned numbers is log 45). One of a disabled station is discarded
and counted for its link, and nothing else is touched (R37). -/
def Obligations.MarksMoveTheClock : Prop :=
  ∀ (dt : Nat) (l : LinkId) (i : StationId) (km : Counter40) (p sec : BitVec 32) (locked : Bool)
    (rest : List Entry) (s : State), s.held = false → (s.link l).blocked = false →
    (s.link l).queue = .mark i km p sec locked :: rest →
    let x := s.station i
    let c := x.clock
    let now := (s.advance dt).partTime
    let popped := (s.advance dt).modLink l fun y => { y with queue := rest }
    let tm : Int := (sec.toNat : Int) * 1000000000 - p.toNat
    let passes := x.enabled = true ∧ x.config.source = .sat ∧ p.toNat < x.period
    (x.enabled = false → exec (.headMark dt l) s = .next ((s.advance dt).modLink l fun y => { y with
      queue := rest
      counters := { y.counters with disabledEntries := bump y.counters.disabledEntries } }).endEvent) ∧
    (x.enabled = true → ¬ passes → exec (.headMark dt l) s = .next (popped.setStation i { x with
      counters := { x.counters with ignoredMarks := bump x.counters.ignoredMarks } }).endEvent) ∧
    (passes → locked = false → exec (.headMark dt l) s = .next (popped.setStation i { x with
      counters := { x.counters with unlockedMarks := bump x.counters.unlockedMarks } }).endEvent) ∧
    (passes → locked = true → c.state = .unset →
      exec (.headMark dt l) s = .next ((popped.setStation i { x with
        expectation := none
        clock := { state := .acquiring, anchor := some { k0 := km, t0 := tm }, rho := 0, count := 1,
                   stages := 1, outliers := 0, residual := some 0, silenceDue := none,
                   holdoverDue := some (now + x.config.holdover * 60000) } }).raise .station).endEvent) ∧
    (∀ a : Anchor, passes → locked = true → c.state ≠ .unset → c.anchor = some a →
      let delta : Int := (km.toNat : Int) - a.k0.toNat
      let model : Int := a.t0 + delta * x.period + roundDiv (delta * x.period * c.rho) 1000000000
      let e : Int := tm - model
      let limit : Nat := if c.state = .holdover then 4 * x.config.accept else x.config.accept
      let anchored : Clock := { c with
        state := .acquiring, anchor := some { k0 := km, t0 := tm }, count := 1, stages := 1, outliers := 0,
        silenceDue := none, residual := some e }
      (delta ≤ 0 → exec (.headMark dt l) s = .next (popped.setStation i { x with
        counters := { x.counters with staleMarks := bump x.counters.staleMarks } }).endEvent) ∧
      (1 ≤ delta → delta ≤ 2147483647 → c.state ≠ .free → e.natAbs ≤ limit →
        let shift := if c.state = .acquiring then x.config.acqShift else x.config.trackShift
        let rho : Int := c.rho + roundDiv (e * 1000000000) (delta.toNat * x.period * 2 ^ shift)
        let count := min (c.count + 1) 64
        let state : ClockState := if c.state = .acquiring ∧ count < x.config.depth then .acquiring else .locked
        exec (.headMark dt l) s = .next ((popped.setStation i { x with
          clock := { c with
            state := state
            anchor := some { k0 := km, t0 := model + roundDiv e (2 ^ shift) }
            rho := if rho < -100000 then -100000 else if 100000 < rho then 100000 else rho
            count := count
            stages := c.stages ||| ladderStage count
            outliers := 0
            residual := some e
            silenceDue := if state = .locked then some (now + x.config.silence * 1000) else none
            holdoverDue := some (now + x.config.holdover * 60000) }
          counters := { x.counters with marksAccepted := bump x.counters.marksAccepted } }).raiseIf
            (decide (state ≠ c.state)) .station).endEvent) ∧
      (1 ≤ delta → delta ≤ 2147483647 → c.state = .acquiring → limit < e.natAbs →
        exec (.headMark dt l) s = .next (popped.setStation i { x with
          expectation := none, clock := anchored
          counters := { x.counters with outliers := bump x.counters.outliers } }).endEvent) ∧
      (1 ≤ delta → delta ≤ 2147483647 → c.state = .locked ∨ c.state = .holdover → limit < e.natAbs →
        (c.outliers + 1 < x.config.outlierLimit →
          exec (.headMark dt l) s = .next (popped.setStation i { x with
            clock := { c with outliers := c.outliers + 1, residual := some e }
            counters := { x.counters with outliers := bump x.counters.outliers } }).endEvent) ∧
        (x.config.outlierLimit ≤ c.outliers + 1 →
          exec (.headMark dt l) s = .next ((popped.setStation i { x with
            expectation := none
            clock := { anchored with holdoverDue := some (now + x.config.holdover * 60000) }
            counters := { x.counters with
              outliers := bump x.counters.outliers, clockSteps := bump x.counters.clockSteps } }).raise
                .station).endEvent)) ∧
      (1 ≤ delta → 2147483647 < delta ∨ c.state = .free →
        exec (.headMark dt l) s = .next ((popped.setStation i { x with
          expectation := none
          clock := { anchored with
            residual := some 0
            holdoverDue := if c.state = .acquiring then c.holdoverDue
              else some (now + x.config.holdover * 60000) }
          counters := { x.counters with
            clockSteps := if c.state = .locked ∨ c.state = .holdover then bump x.counters.clockSteps
              else x.counters.clockSteps } }).raiseIf (decide (c.state ≠ .acquiring)) .station).endEvent))

/-- An ECHO entry of an enabled station with RTT = Ta − Ts − τ is unreferenced when the hub was not REFERENCED at both
stamps, then invalid below 0, then slow above the maximum RTT, which alone of the three keeps the RTT; one that passes
sets the last RTT, and for a PROBE source hands on the mark point (K_r, Ts + floor(RTT / 2) + a), a the asymmetry of
the station's link (R98 to R102; that τ is an unsigned number is log 45). One of a disabled station is discarded and
counted for its link, and nothing else is touched (R37). -/
def Obligations.EchoesAreJudged : Prop :=
  ∀ (dt : Nat) (l : LinkId) (i : StationId) (kr : Counter40) (tau : BitVec 32) (ts ta : Stamp)
    (requested : Bool) (rest : List Entry) (s : State), s.held = false → (s.link l).blocked = false →
    (s.link l).queue = .echo i kr tau ts ta requested :: rest →
    let x := s.station i
    let popped := (s.advance dt).modLink l fun y => { y with queue := rest }
    let rtt : Int := ta.time - ts.time - tau.toNat
    let referenced := ts.hub = .referenced ∧ ta.hub = .referenced
    let kept : Station := { x with mark := { x.mark with lastRtt := some rtt } }
    (x.enabled = false → exec (.headEcho dt l) s = .next ((s.advance dt).modLink l fun y => { y with
      queue := rest
      counters := { y.counters with disabledEntries := bump y.counters.disabledEntries } }).endEvent) ∧
    (x.enabled = true → ¬ referenced → exec (.headEcho dt l) s = .next (popped.setStation i { x with
      counters := { x.counters with unreferencedEchoes := bump x.counters.unreferencedEchoes } }).endEvent) ∧
    (x.enabled = true → referenced → rtt < 0 → exec (.headEcho dt l) s = .next (popped.setStation i { x with
      counters := { x.counters with invalidEchoes := bump x.counters.invalidEchoes } }).endEvent) ∧
    (x.enabled = true → referenced → 0 ≤ rtt → (x.config.maxRtt : Int) * 1000000 < rtt →
      exec (.headEcho dt l) s = .next (popped.setStation i { kept with
        counters := { x.counters with slowEchoes := bump x.counters.slowEchoes } }).endEvent) ∧
    (x.enabled = true → referenced → 0 ≤ rtt → rtt ≤ (x.config.maxRtt : Int) * 1000000 →
      (x.config.source = .sat → exec (.headEcho dt l) s = .next (popped.setStation i kept).endEvent) ∧
      (∀ bd, x.config.source = .probe → x.binding = some bd →
        exec (.headEcho dt l) s = .next ((popped.setStation i kept).takeMark i kr
          (ts.time + Int.fdiv rtt 2 + (s.link bd.link).asymmetry)).endEvent))

/-- The silence timer of a LOCKED clock that is due makes it HOLDOVER and keeps model and ladder; the holdover timer of an
ACQUIRING, LOCKED or HOLDOVER clock that is due makes it FREE with the ladder cleared and both timers stopped; each
raises STATION and touches neither anchor, ρ nor expectation. A timer not due does nothing (R118, R119, R126). -/
def Obligations.ClockTimersRunOut : Prop :=
  ∀ (dt : Nat) (i : StationId) (d : Nat) (s : State), s.held = false →
    let x := s.station i
    let now := (s.advance dt).partTime
    (x.clock.silenceDue = some d →
      (now < d → exec (.silenceTimerExpiry dt i) s = .next (s.advance dt).endEvent) ∧
      (d ≤ now → x.clock.state = .locked → exec (.silenceTimerExpiry dt i) s =
        .next (((s.advance dt).setStation i { x with
          clock := { x.clock with state := .holdover, silenceDue := none } }).raise .station).endEvent)) ∧
    (x.clock.holdoverDue = some d →
      (now < d → exec (.holdoverTimerExpiry dt i) s = .next (s.advance dt).endEvent) ∧
      (d ≤ now → x.clock.state = .acquiring ∨ x.clock.state = .locked ∨ x.clock.state = .holdover →
        exec (.holdoverTimerExpiry dt i) s = .next (((s.advance dt).setStation i { x with
          clock := { x.clock with
            state := .free, count := 0, stages := 0, outliers := 0, silenceDue := none,
            holdoverDue := none } }).raise .station).endEvent))

/-- PROBE_NOW on a control port: BAD_VALUE above station 47, NOT_ENABLED for a disabled station, LINK_DOWN while the
station's link is OFF or DOWN, and otherwise OK with the part time and both flags set, for either mark source.
PROBE_DUE sets the due flag of an enabled station whose schedule has come due and does nothing before (R91, R94). -/
def Obligations.ProbesBecomeDue : Prop :=
  (∀ (dt : Nat) (p : PortId) (tag : BitVec 16) (b : Byte) (s : State),
    s.takesAt p → (s.port p).role = .control →
    let u := s.requested dt p
    (47 < b → exec (.probeNow dt p tag b) s = .next (u.answered p 0x15 tag [4])) ∧
    (∀ i : StationId, b = stationByte i →
      ((s.station i).enabled = false →
        exec (.probeNow dt p tag b) s = .next (u.answered p 0x15 tag [6])) ∧
      (∀ bd, (s.station i).enabled = true → (s.station i).binding = some bd →
        ((s.link bd.link).state = .off ∨ (s.link bd.link).state = .down →
          exec (.probeNow dt p tag b) s = .next (u.answered p 0x15 tag [16])) ∧
        ((s.link bd.link).state = .up ∨ (s.link bd.link).state = .silent →
          exec (.probeNow dt p tag b) s = .next ((u.modStation i fun x =>
            { x with mark := { x.mark with due := true, requested := true } }).answered p 0x15 tag
              (0 :: be 8 ((s.timebase.oscNs + dt) / 1000000))))))) ∧
  (∀ (dt : Nat) (i : StationId) (d : Nat) (s : State), s.held = false →
    (s.station i).mark.schedule = some d →
    ((s.station i).enabled = true → d ≤ (s.advance dt).partTime →
      exec (.probeDue dt i) s = .next ((s.advance dt).modStation i fun x =>
        { x with mark := { x.mark with due := true } }).endEvent) ∧
    ((s.station i).enabled = false ∨ (s.advance dt).partTime < d →
      exec (.probeDue dt i) s = .next (s.advance dt).endEvent))

/-! ## Station table, calibration, release and subscription -/

/-- STATION_BIND and STATION_ENABLE on a control port. A binding of a disabled station with each value in its set replaces
what it held and clears both stamps; an enabled station is refused with IN_USE and a value outside its set with BAD_VALUE.
Enabling answers ALREADY, NOT_BOUND, DUPLICATE_BINDING with the holder of the pair, or OK with the values of R50, and
touches no binding, stamp or counter (R48 to R50). -/
def Obligations.StationsAreBoundAndEnabled : Prop :=
  ∀ (dt : Nat) (p : PortId) (tag : BitVec 16) (b l a r c : Byte) (s : State),
    s.takesAt p → (s.port p).role = .control →
    let u := s.requested dt p
    (47 < b → exec (.stationBind dt p tag b l a r c) s = .next (u.answered p 0x0B tag [4]) ∧
      exec (.stationEnable dt p tag b) s = .next (u.answered p 0x0C tag [4])) ∧
    ∀ i : StationId, b = stationByte i →
      let x := s.station i
      (x.enabled = true →
        exec (.stationBind dt p tag b l a r c) s = .next (u.answered p 0x0B tag [8]) ∧
        exec (.stationEnable dt p tag b) s = .next (u.answered p 0x0C tag [1])) ∧
      (x.enabled = false →
        (5 < l ∨ r.toNat ∉ [20, 40, 50, 100, 200] ∨ c = 0 ∨ 3 < c →
          exec (.stationBind dt p tag b l a r c) s = .next (u.answered p 0x0B tag [4])) ∧
        (∀ (k : LinkId) (rate : Rate), l = linkByte k → r.toNat = rate.hz → 1 ≤ c → c ≤ 3 →
          exec (.stationBind dt p tag b l a r c) s = .next ((u.setStation i { x with
            binding := some { link := k, address := a, rate := rate, components := c.toNat }
            backfillStamp := none
            probeStamp := none }).answered p 0x0B tag ([0, l, a, r, c] ++ be 4 (1000000000 / rate.hz)))) ∧
        (x.binding = none → exec (.stationEnable dt p tag b) s = .next (u.answered p 0x0C tag [7])) ∧
        (∀ bd, x.binding = some bd →
          let holds : StationId → Prop := fun j =>
            j ≠ i ∧ (s.station j).enabled = true ∧ sharePair x (s.station j)
          (∀ j, holds j → (∀ k, holds k → j ≤ k) →
            exec (.stationEnable dt p tag b) s = .next (u.answered p 0x0C tag [15, stationByte j])) ∧
          ((∀ j, ¬ holds j) →
            exec (.stationEnable dt p tag b) s = .next ((u.setStation i { x with
              enabled := true
              config := {
                source := .sat, depth := 8, acqShift := 0, trackShift := 3, accept := 20000, outlierLimit := 3,
                tearTolerance := 50000, holdTime := 5, backfill := true, attempts := 2, responseTimeout := 20,
                probeInterval := 0, maxRtt := 250, silence := 300, holdover := 240, calibration := 0 }
              tracker := { q := none, hold := [], holdDue := none, gaps := [], covered := none }
              expectation := none
              clock := {
                state := .unset, anchor := none, rho := 0, count := 0, stages := 0, outliers := 0,
                residual := none, silenceDue := none, holdoverDue := none }
              mark := { due := false, requested := false, schedule := none, lastSent := none, lastRtt := none }
              }).answered p 0x0C tag [0]))))

/-- STATION_DISABLE on a control port: ALREADY for a disabled station. An enabled one loses its enable, tracking, clock,
expectation, mark unit and settings in one event, its held slots are freed, its gaps abandoned without a notice, its bit
leaves the expected set of every FORMING epoch, the reservation that names it ends, each link whose blocked head is its
DATA entry drops that entry and unblocks, and completion is evaluated; binding, stamps and the other counters stay
(R52, R53). -/
def Obligations.DisableReturnsTheStationToReset : Prop :=
  ∀ (dt : Nat) (p : PortId) (tag : BitVec 16) (b : Byte) (s : State),
    s.takesAt p → (s.port p).role = .control →
    let u := s.requested dt p
    (47 < b → exec (.stationDisable dt p tag b) s = .next (u.answered p 0x0D tag [4])) ∧
    ∀ i : StationId, b = stationByte i →
      let x := s.station i
      (x.enabled = false → exec (.stationDisable dt p tag b) s = .next (u.answered p 0x0D tag [1])) ∧
      (x.enabled = true →
        let drops : Link → Bool := fun y => y.blocked && match y.queue with
          | .data r :: _ => decide (r.station = i)
          | _ => false
        let cleared : State := { u with
          links := s.links.map fun y => if drops y then { y with
            queue := y.queue.tail
            blocked := false
            counters := { y.counters with disabledEntries := bump y.counters.disabledEntries } } else y
          stations := s.stations.set i { x with
            enabled := false
            config := StationConfig.initial
            tracker := { q := none, hold := [], holdDue := none, gaps := [], covered := none }
            expectation := none
            clock := {
              state := .unset, anchor := none, rho := 0, count := 0, stages := 0, outliers := 0,
              residual := none, silenceDue := none, holdoverDue := none }
            mark := { due := false, requested := false, schedule := none, lastSent := none, lastRtt := none }
            counters := { x.counters with
              gapsAbandoned := bumpBy x.counters.gapsAbandoned x.tracker.gaps.length } }
          store := { s.store with
            slots := s.store.slots.filter fun y => x.tracker.hold.all fun h => decide (h.slot ≠ y.number)
            waiting := s.store.waiting.filter fun l => !drops (s.link l) }
          assembler := { s.assembler with
            table := s.assembler.table.map fun e =>
              if e.state = .forming then { e with expected := e.expected &&& ~~~(1#48 <<< i.val) } else e }
          reservations := match s.reservation i with
            | some y => if y.station = i then s.reservations.set (bankOf i) none else s.reservations
            | none => s.reservations }
        exec (.stationDisable dt p tag b) s =
          .next (((cleared.raiseIf (decide (x.clock.state ≠ .unset)) .station).evalCompletion).answered p 0x0D
            tag [0]))

/-- STATION_CONFIG on a control port is taken whole or not at all: NOT_ENABLED, BAD_VALUE for an enumerated value outside
its set, IN_USE when the settings that would result have source PROBE and interval 0. Otherwise every carried setting,
clamped, is in force and reported, with its effect at once on the clock (depth, or source), on the schedule and due flag,
on the gaps (attempts lowered) and on the reservation (calibration carried), and on no other station; a clock state that
changes raises STATION, an abandoned gap raises GAP, and completion is evaluated after lowered attempts
(R54 to R57, R62, R82, R93, R121, R122, R126, R157). That source takes effect before depth where both change is log 21;
that every carried number but the calibration delay is read as an unsigned one is log 45. -/
def Obligations.ConfigIsTakenWhole : Prop :=
  ∀ (dt : Nat) (p : PortId) (tag : BitVec 16) (b : Byte) (f : SettingFields) (s : State),
    s.takesAt p → (s.port p).role = .control →
    let u := s.requested dt p
    (47 < b → exec (.stationConfig dt p tag b f) s = .next (u.answered p 0x0E tag [4])) ∧
    ∀ i : StationId, b = stationByte i →
      let x := s.station i
      let old := x.config
      let now := u.partTime
      let bad := (∃ v, f.source = some v ∧ v ≠ 0 ∧ v ≠ 1) ∨
        (∃ v, f.depth = some v ∧ v.toNat ∉ [2, 4, 8, 16, 32]) ∨ (∃ v, f.backfill = some v ∧ v ≠ 0 ∧ v ≠ 1)
      let carried : Nat → Nat → Option Nat → Nat → Nat := fun lo hi v held => match v with
        | some n => max lo (min hi n)
        | none => held
      let new : StationConfig := {
        source := match f.source with
          | some v => if v = 1 then .probe else .sat
          | none => old.source
        depth := (f.depth.map BitVec.toNat).getD old.depth
        acqShift := carried 0 4 (f.acqShift.map BitVec.toNat) old.acqShift
        trackShift := carried 0 4 (f.trackShift.map BitVec.toNat) old.trackShift
        accept := carried 100 1000000 (f.accept.map BitVec.toNat) old.accept
        outlierLimit := carried 2 8 (f.outlierLimit.map BitVec.toNat) old.outlierLimit
        tearTolerance := carried 100 (x.period / 2) (f.tearTolerance.map BitVec.toNat) old.tearTolerance
        holdTime := carried 1 60 (f.holdTime.map BitVec.toNat) old.holdTime
        backfill := (f.backfill.map fun v => decide (v = 1)).getD old.backfill
        attempts := carried 1 3 (f.attempts.map BitVec.toNat) old.attempts
        responseTimeout := carried 1 120 (f.responseTimeout.map BitVec.toNat) old.responseTimeout
        probeInterval := if f.probeInterval = some 0 then 0
          else carried 10 3600 (f.probeInterval.map BitVec.toNat) old.probeInterval
        maxRtt := carried 1 2000 (f.maxRtt.map BitVec.toNat) old.maxRtt
        silence := carried 10 3600 (f.silence.map BitVec.toNat) old.silence
        holdover := carried 1 1440 (f.holdover.map BitVec.toNat) old.holdover
        calibration := match f.calibration with
          | some v => max (-10000000) (min 10000000 v.toInt)
          | none => old.calibration }
      (x.enabled = false → exec (.stationConfig dt p tag b f) s = .next (u.answered p 0x0E tag [6])) ∧
      (x.enabled = true → bad → exec (.stationConfig dt p tag b f) s = .next (u.answered p 0x0E tag [4])) ∧
      (x.enabled = true → ¬ bad → new.source = .probe → new.probeInterval = 0 →
        exec (.stationConfig dt p tag b f) s = .next (u.answered p 0x0E tag [8])) ∧
      (x.enabled = true → ¬ bad → new.source = .sat ∨ new.probeInterval ≠ 0 →
        ∃ (t : State) (clock : Clock) (mark : MarkUnit) (gaps : List Gap),
          exec (.stationConfig dt p tag b f) s = .next t ∧
          (t.port p).reply = some { kind := 0x8E, tag := tag, body := 0 :: new.fields } ∧
          (let y : Station := { x with
            config := new
            clock := clock
            mark := mark
            tracker := { x.tracker with gaps := gaps }
            counters := { x.counters with
              gapsAbandoned :=
                bumpBy x.counters.gapsAbandoned (x.tracker.gaps.length - gaps.length) } }
          let told := ((({ u with reservations := t.reservations }.setStation i y).raiseIf
            (decide (clock.state ≠ x.clock.state)) .station).raiseIf
              (decide (gaps.length < x.tracker.gaps.length)) .gap)
          t.station i = y ∧
          t = (if new.attempts < old.attempts then told.evalCompletion else told).answered p 0x0E tag
            (0 :: new.fields)) ∧
          (∀ j, j ≠ i → t.station j = s.station j) ∧ t.links = s.links ∧ t.timebase = u.timebase ∧
          t.reservations = (if f.calibration.isSome ∧ (∃ y, s.reservation i = some y ∧ y.station = i)
            then s.reservations.set (bankOf i) none else s.reservations) ∧
          gaps = (x.tracker.gaps.filter fun g =>
            decide (old.attempts ≤ new.attempts ∨ g.request.isSome ∨ g.attempts < new.attempts)) ∧
          (new.source = old.source → new.depth = old.depth → clock = x.clock) ∧
          (new.source = old.source → new.depth ≠ old.depth →
            clock = (if x.clock.state = .acquiring ∧ new.depth ≤ x.clock.count then
                { x.clock with state := .locked, silenceDue := some (now + new.silence * 1000) }
              else if x.clock.state = .locked ∧ x.clock.count < new.depth then
                { x.clock with state := .acquiring, silenceDue := none }
              else if x.clock.state = .holdover ∧ x.clock.count < new.depth then
                { x.clock with state := .acquiring }
              else x.clock)) ∧
          (new.source ≠ old.source → 2 ≤ new.depth →
            clock = { x.clock with
              count := 0
              stages := 0
              outliers := 0
              state := if x.clock.state = .locked ∨ x.clock.state = .holdover then .acquiring else x.clock.state
              silenceDue := if x.clock.state = .locked ∨ x.clock.state = .holdover then none
                else x.clock.silenceDue }) ∧
          (new.source = old.source → new.source = .sat ∨ new.probeInterval = old.probeInterval →
            mark = x.mark) ∧
          (old.source = .sat → new.source = .probe →
            ∃ d, d = (x.mark.lastSent.map fun n => n + new.probeInterval * 1000).getD now ∧
              mark = { x.mark with schedule := some d, due := x.mark.due || decide (d ≤ now) }) ∧
          (old.source = .probe → new.source = .probe → new.probeInterval ≠ old.probeInterval →
            ∀ before, x.mark.schedule = some before →
            ∃ d, d = (x.mark.lastSent.map fun n => n + new.probeInterval * 1000).getD before ∧
              mark = { x.mark with
                schedule := some d
                due := decide (d ≤ now) || (x.mark.due && x.mark.requested) }) ∧
          (old.source = .probe → new.source = .sat →
            mark = { x.mark with schedule := none, due := x.mark.due && x.mark.requested }))

/-- The calibration requests, from either role. CAL_SET writes the clamped delay of an enabled station and ends the
reservation that names it; CAL_RESERVE overwrites the bank's entry and reports the delay and the previous holder;
CAL_STAGE and CAL_APPLY follow their tables against the bank's entry: staged or applied for the holder's own station,
otherwise the holder's entry ends, and the other port changes nothing (R48, R54, R58 to R62). -/
def Obligations.CalibrationFollowsItsTables : Prop :=
  ∀ (dt : Nat) (p : PortId) (tag : BitVec 16) (b : Byte) (v : BitVec 32) (s : State), s.takesAt p →
    let u := s.requested dt p
    let c : Int := max (-10000000) (min 10000000 v.toInt)
    (47 < b → exec (.calSet dt p tag b v) s = .next (u.answered p 0x11 tag [4]) ∧
      exec (.calReserve dt p tag b) s = .next (u.answered p 0x12 tag [4]) ∧
      exec (.calStage dt p tag b v) s = .next (u.answered p 0x13 tag [4]) ∧
      exec (.calApply dt p tag b) s = .next (u.answered p 0x14 tag [4])) ∧
    ∀ i : StationId, b = stationByte i →
      let x := s.station i
      let entry (y : Option Reservation) : State := { u with reservations := s.reservations.set (bankOf i) y }
      (x.enabled = false → exec (.calSet dt p tag b v) s = .next (u.answered p 0x11 tag [6]) ∧
        exec (.calReserve dt p tag b) s = .next (u.answered p 0x12 tag [6])) ∧
      (x.enabled = true →
        (∀ w : State, w = (if ∃ y, s.reservation i = some y ∧ y.station = i then entry none else u) →
          exec (.calSet dt p tag b v) s = .next ((w.setStation i
            { x with config := { x.config with calibration := c } }).answered p 0x11 tag (0 :: beInt 4 c))) ∧
        exec (.calReserve dt p tag b) s =
          .next ((entry (some { port := p, station := i, staged := none })).answered p 0x12 tag
            (0 :: (beInt 4 x.config.calibration ++ match s.reservation i with
              | some y => [1, PortId.code y.port, stationByte y.station]
              | none => [0, 0, 0])))) ∧
      (s.reservation i = none ∨ (∃ y, s.reservation i = some y ∧ y.port ≠ p) →
        exec (.calStage dt p tag b v) s = .next (u.answered p 0x13 tag (0 :: 3 :: beInt 4 0)) ∧
        exec (.calApply dt p tag b) s =
          .next (u.answered p 0x14 tag (0 :: 0 :: beInt 4 x.config.calibration))) ∧
      (∀ y, s.reservation i = some y → y.port = p →
        (y.station = i → y.staged = none →
          exec (.calStage dt p tag b v) s =
            .next ((entry (some { port := p, station := i, staged := some c })).answered p 0x13 tag
              (0 :: 1 :: beInt 4 c))) ∧
        (y.station ≠ i ∨ y.staged ≠ none →
          exec (.calStage dt p tag b v) s =
            .next ((entry none).answered p 0x13 tag (0 :: 2 :: beInt 4 0))) ∧
        (∀ d, y.station = i → y.staged = some d →
          exec (.calApply dt p tag b) s = .next (((entry none).setStation i
            { x with config := { x.config with calibration := d } }).answered p 0x14 tag
              (0 :: 1 :: beInt 4 d))) ∧
        (y.station ≠ i ∨ y.staged = none →
          exec (.calApply dt p tag b) s = .next ((entry none).answered p 0x14 tag
            (0 :: 0 :: beInt 4 x.config.calibration))))

/-- EPOCH_RELEASE answers NO_GRID, NO_EPOCH, NOT_CLOSED or ALREADY, or adds the port to the released set of the CLOSED
epoch, which is freed in the same event when every needed port has released it. SUBSCRIBE answers BAD_VALUE outside ON
and OFF and ALREADY for the flag held; ON sets the flag and leaves the table alone, and OFF takes the port out of every
needed set and frees the CLOSED epochs that then wait for none, in ascending order, reporting how many. An epoch freed by
either gives its entries back to the pool and its number to the freed mark, is counted, and takes one reference from a slot
for each of its contributions that names the slot: a slot left with none is FREE, one with some keeps its record and timing,
and a slot that none names is as it was (R161 to R163, R171, R172). -/
def Obligations.ReleasesAndUnsubscribesFreeEpochs : Prop :=
  (∀ (dt : Nat) (p : PortId) (tag : BitVec 16) (n : BitVec 64) (s : State), s.takesAt p →
    let u := s.requested dt p
    let replies (r : Byte) : Prop := exec (.epochRelease dt p tag n) s = .next (u.answered p 0x19 tag [r])
    (s.timebase.grid = none → replies 11) ∧
    (s.timebase.grid ≠ none → s.assembler.sound →
      ((∀ e ∈ s.assembler.table, (e.number : Int) ≠ n.toInt) → replies 12) ∧
      ∀ e ∈ s.assembler.table, (e.number : Int) = n.toInt →
        (e.state = .forming → replies 13) ∧
        (e.state ≠ .forming → e.released.has p = true → replies 1) ∧
        (e.state ≠ .forming → e.released.has p = false →
          ((∃ q, q ≠ p ∧ e.needed.has q = true ∧ e.released.has q = false) →
            exec (.epochRelease dt p tag n) s = .next ((u.modAssembler fun a => { a with
              table := a.table.map fun y => if y.number = e.number then { y with
                released := {
                  mp0 := y.released.mp0 || decide (p = .mp0), mp1 := y.released.mp1 || decide (p = .mp1) } }
                else y }).answered p 0x19 tag [0, 0])) ∧
          ((∀ q, q ≠ p → e.needed.has q = true → e.released.has q = true) →
            ∃ t, exec (.epochRelease dt p tag n) s = .next t ∧
              (t.port p).reply = some { kind := 0x99, tag := tag, body := [0, 1] } ∧
              t.assembler = { s.assembler with
                table := s.assembler.table.filter fun y => decide (y.number ≠ e.number)
                freedMark := match s.assembler.freedMark with
                  | some m => some (max m e.number)
                  | none => some e.number
                freed := bump s.assembler.freed } ∧
              t.store.poolFree = s.store.poolFree + e.contributions.length ∧
              t.store.slots = e.contributions.foldl (fun slots c => dropReference c.slot slots) s.store.slots ∧
              (∀ y ∈ s.store.slots, (∀ c ∈ e.contributions, c.slot ≠ y.number) → y ∈ t.store.slots) ∧
              (s.slotsSound → ∀ y ∈ s.store.slots,
                let named := e.contributions.countP fun c => decide (c.slot = y.number)
                (named < y.refs → { y with refs := y.refs - named } ∈ t.store.slots) ∧
                (1 ≤ named → y.refs ≤ named → ∀ z ∈ t.store.slots, z.number ≠ y.number)) ∧
              (∀ z ∈ t.store.slots, ∃ y ∈ s.store.slots, z = { y with refs := z.refs }) ∧
              t.stations = s.stations ∧ t.links = s.links ∧ t.timebase = u.timebase ∧
              t.reservations = s.reservations)))) ∧
  (∀ (dt : Nat) (p : PortId) (tag : BitVec 16) (x : Byte) (s : State), s.takesAt p →
    let u := s.requested dt p
    let off := u.modPort p fun y => { y with subscribed := false }
    (x ≠ 0 → x ≠ 1 → exec (.subscribe dt p tag x) s = .next (u.answered p 0x1A tag [4])) ∧
    (x = (if (s.port p).subscribed then 1 else 0) →
      exec (.subscribe dt p tag x) s = .next (u.answered p 0x1A tag [1])) ∧
    (x = 1 → (s.port p).subscribed = false → exec (.subscribe dt p tag x) s =
      .next ((u.modPort p fun y => { y with subscribed := true }).answered p 0x1A tag [0, 1, 0])) ∧
    (x = 0 → (s.port p).subscribed = true → s.assembler.sound →
      let left := s.assembler.table.map fun e => { e with
        needed := {
          mp0 := e.needed.mp0 && decide (p ≠ .mp0), mp1 := e.needed.mp1 && decide (p ≠ .mp1) } }
      let waits : Epoch → Bool := fun e =>
        decide (e.state = .forming) || (e.needed.mp0 && !e.released.mp0) || (e.needed.mp1 && !e.released.mp1)
      ∃ t, exec (.subscribe dt p tag x) s = .next t ∧
        (t.port p).subscribed = false ∧
        (t.port p).reply = some {
          kind := 0x9A, tag := tag,
          body := [0, 0, BitVec.ofNat 8 (left.length - (left.filter waits).length)] } ∧
        (let gone := left.filter fun e => !waits e
         t.assembler = { s.assembler with
           table := left.filter waits
           freedMark := gone.foldl (fun mark e => match mark with
             | some m => some (max m e.number)
             | none => some e.number) s.assembler.freedMark
           freed := bumpBy s.assembler.freed gone.length } ∧
         t.store.poolFree = s.store.poolFree + (gone.map fun e => e.contributions.length).sum ∧
         t.store.slots = gone.foldl (fun slots e =>
           e.contributions.foldl (fun slots c => dropReference c.slot slots) slots) s.store.slots ∧
         (s.slotsSound → ∀ y ∈ s.store.slots,
           let named := (gone.map fun e => e.contributions.countP fun c => decide (c.slot = y.number)).sum
           (named = 0 → y ∈ t.store.slots) ∧
           (named < y.refs → { y with refs := y.refs - named } ∈ t.store.slots) ∧
           (1 ≤ named → y.refs ≤ named → ∀ z ∈ t.store.slots, z.number ≠ y.number))) ∧
        (∀ q, q ≠ p → (t.port q).subscribed = (s.port q).subscribed) ∧
        t.stations = s.stations ∧ t.links = s.links ∧ t.timebase = off.timebase))

/-! ## Invariants -/

/-- Every step keeps the timebase as R6 and R9 to R18 keep it (runs, stages and states agree, hub time reads 0 in
UNSET, a REFERENCED hub follows a selected USABLE reference), and keeps the ports as R179 to R189 keep them (at most
four buffered frames, none without a pending reply; MP0 a control port; a fault count of at most 255). -/
def Obligations.TimebaseAndPortsStaySound : Prop :=
  ∀ s t : State, step s = .next t →
    (s.timebase.sound → t.timebase.sound) ∧ (s.portsSound → t.portsSound)

/-- Every step keeps each link port in its bounds (64 entries, nothing in a disabled link, identifiers never 0,
parameters in their ranges, a blocked head a DATA entry), and keeps the waiting list the links whose heads are blocked,
each once (R25, R26, R37, R40, R43, R169). -/
def Obligations.LinksAndWaitingListStaySound : Prop :=
  ∀ s t : State, step s = .next t →
    (s.linksSound → t.linksSound) ∧ (s.waitingSound → t.waitingSound)

/-- Every step keeps the station table and the reservations (an enabled station is bound, shares its pair with no other
and has settings in range and within the interlock; a disabled one has the reset settings; a reservation names an
enabled station of its bank), and keeps each clock model within R105 to R120 for its station's required depth. -/
def Obligations.StationsAndClocksStaySound : Prop :=
  ∀ s t : State, step s = .next t →
    (s.tableSound → s.reservationsSound → t.tableSound ∧ t.reservationsSound) ∧
    (s.clocksSound → t.clocksSound)

/-- Every step keeps each station's tracking as R66, R68, R70 and R76 keep it: at most four gaps, held records 1 to 8
steps after q in rising serial order, and nothing held or missing before the first record. -/
def Obligations.TrackingStaysSound : Prop :=
  ∀ s t : State, step s = .next t → s.trackingSound → t.trackingSound

/-- Every step keeps the epoch table at sixteen epochs at most in rising number, the pool's free count plus the
contributions of the table at 16,384, and the slots in use distinct and below 4,096 (R144, R167, R172). -/
def Obligations.PoolAndSlotsStaySound : Prop :=
  ∀ s t : State, step s = .next t →
    (s.poolSound → t.poolSound) ∧ (s.slotsSound → t.slotsSound)

/-- The state after reset meets every invariant of the part, whatever the level of ROLE1 (R6, R25, R50, R66, R105,
R144, R167, R172, R179). -/
def Obligations.ResetIsSound : Prop :=
  let s := State.reset
  s.timebase.sound ∧ s.portsSound ∧ s.linksSound ∧ s.waitingSound ∧ s.tableSound ∧ s.reservationsSound ∧
    s.clocksSound ∧ s.trackingSound ∧ s.poolSound ∧ s.slotsSound
end

