-- ==== Sys2Proof/Laws/State.lean ====
section
/-! SUPPORT. One lemma per part of State per update: what each named operation leaves as it was, and what reading
back the part it writes gives. -/

namespace Sys2Proof.Machine

@[simp] theorem State.setStation_timebase (s : State) (i : StationId) (x : Station) :
    (s.setStation i x).timebase = s.timebase := rfl
@[simp] theorem State.setStation_links (s : State) (i : StationId) (x : Station) :
    (s.setStation i x).links = s.links := rfl
@[simp] theorem State.setStation_reservations (s : State) (i : StationId) (x : Station) :
    (s.setStation i x).reservations = s.reservations := rfl
@[simp] theorem State.setStation_assembler (s : State) (i : StationId) (x : Station) :
    (s.setStation i x).assembler = s.assembler := rfl
@[simp] theorem State.setStation_store (s : State) (i : StationId) (x : Station) :
    (s.setStation i x).store = s.store := rfl
@[simp] theorem State.setStation_mp0 (s : State) (i : StationId) (x : Station) :
    (s.setStation i x).mp0 = s.mp0 := rfl
@[simp] theorem State.setStation_mp1 (s : State) (i : StationId) (x : Station) :
    (s.setStation i x).mp1 = s.mp1 := rfl
@[simp] theorem State.setStation_faultRecord (s : State) (i : StationId) (x : Station) :
    (s.setStation i x).faultRecord = s.faultRecord := rfl
@[simp] theorem State.setStation_faultCount (s : State) (i : StationId) (x : Station) :
    (s.setStation i x).faultCount = s.faultCount := rfl
@[simp] theorem State.setStation_held (s : State) (i : StationId) (x : Station) :
    (s.setStation i x).held = s.held := rfl
@[simp] theorem State.setStation_pending (s : State) (i : StationId) (x : Station) :
    (s.setStation i x).pending = s.pending := rfl
@[simp] theorem State.setStation_link (s : State) (i : StationId) (x : Station) (m : LinkId) :
    (s.setStation i x).link m = s.link m := by
  simp [State.link]
@[simp] theorem State.setStation_port (s : State) (i : StationId) (x : Station) (q : PortId) :
    (s.setStation i x).port q = s.port q := by
  cases q <;> simp [State.port]
@[simp] theorem State.setStation_partTime (s : State) (i : StationId) (x : Station) :
    (s.setStation i x).partTime = s.partTime := by
  simp [State.partTime]

@[simp] theorem State.modStation_timebase (s : State) (i : StationId) (f : Station → Station) :
    (s.modStation i f).timebase = s.timebase := rfl
@[simp] theorem State.modStation_links (s : State) (i : StationId) (f : Station → Station) :
    (s.modStation i f).links = s.links := rfl
@[simp] theorem State.modStation_reservations (s : State) (i : StationId) (f : Station → Station) :
    (s.modStation i f).reservations = s.reservations := rfl
@[simp] theorem State.modStation_assembler (s : State) (i : StationId) (f : Station → Station) :
    (s.modStation i f).assembler = s.assembler := rfl
@[simp] theorem State.modStation_store (s : State) (i : StationId) (f : Station → Station) :
    (s.modStation i f).store = s.store := rfl
@[simp] theorem State.modStation_mp0 (s : State) (i : StationId) (f : Station → Station) :
    (s.modStation i f).mp0 = s.mp0 := rfl
@[simp] theorem State.modStation_mp1 (s : State) (i : StationId) (f : Station → Station) :
    (s.modStation i f).mp1 = s.mp1 := rfl
@[simp] theorem State.modStation_faultRecord (s : State) (i : StationId) (f : Station → Station) :
    (s.modStation i f).faultRecord = s.faultRecord := rfl
@[simp] theorem State.modStation_faultCount (s : State) (i : StationId) (f : Station → Station) :
    (s.modStation i f).faultCount = s.faultCount := rfl
@[simp] theorem State.modStation_held (s : State) (i : StationId) (f : Station → Station) :
    (s.modStation i f).held = s.held := rfl
@[simp] theorem State.modStation_pending (s : State) (i : StationId) (f : Station → Station) :
    (s.modStation i f).pending = s.pending := rfl
@[simp] theorem State.modStation_link (s : State) (i : StationId) (f : Station → Station) (m : LinkId) :
    (s.modStation i f).link m = s.link m := by
  simp [State.link]
@[simp] theorem State.modStation_port (s : State) (i : StationId) (f : Station → Station) (q : PortId) :
    (s.modStation i f).port q = s.port q := by
  cases q <;> simp [State.port]
@[simp] theorem State.modStation_partTime (s : State) (i : StationId) (f : Station → Station) :
    (s.modStation i f).partTime = s.partTime := by
  simp [State.partTime]

@[simp] theorem State.count_timebase (s : State) (i : StationId) (f : StationCounters → StationCounters) :
    (s.count i f).timebase = s.timebase := rfl
@[simp] theorem State.count_links (s : State) (i : StationId) (f : StationCounters → StationCounters) :
    (s.count i f).links = s.links := rfl
@[simp] theorem State.count_reservations (s : State) (i : StationId) (f : StationCounters → StationCounters) :
    (s.count i f).reservations = s.reservations := rfl
@[simp] theorem State.count_assembler (s : State) (i : StationId) (f : StationCounters → StationCounters) :
    (s.count i f).assembler = s.assembler := rfl
@[simp] theorem State.count_store (s : State) (i : StationId) (f : StationCounters → StationCounters) :
    (s.count i f).store = s.store := rfl
@[simp] theorem State.count_mp0 (s : State) (i : StationId) (f : StationCounters → StationCounters) :
    (s.count i f).mp0 = s.mp0 := rfl
@[simp] theorem State.count_mp1 (s : State) (i : StationId) (f : StationCounters → StationCounters) :
    (s.count i f).mp1 = s.mp1 := rfl
@[simp] theorem State.count_faultRecord (s : State) (i : StationId) (f : StationCounters → StationCounters) :
    (s.count i f).faultRecord = s.faultRecord := rfl
@[simp] theorem State.count_faultCount (s : State) (i : StationId) (f : StationCounters → StationCounters) :
    (s.count i f).faultCount = s.faultCount := rfl
@[simp] theorem State.count_held (s : State) (i : StationId) (f : StationCounters → StationCounters) :
    (s.count i f).held = s.held := rfl
@[simp] theorem State.count_pending (s : State) (i : StationId) (f : StationCounters → StationCounters) :
    (s.count i f).pending = s.pending := rfl
@[simp] theorem State.count_link (s : State) (i : StationId) (f : StationCounters → StationCounters) (m : LinkId) :
    (s.count i f).link m = s.link m := by
  simp [State.link]
@[simp] theorem State.count_port (s : State) (i : StationId) (f : StationCounters → StationCounters) (q : PortId) :
    (s.count i f).port q = s.port q := by
  cases q <;> simp [State.port]
@[simp] theorem State.count_partTime (s : State) (i : StationId) (f : StationCounters → StationCounters) :
    (s.count i f).partTime = s.partTime := by
  simp [State.partTime]

@[simp] theorem State.modTracker_timebase (s : State) (i : StationId) (f : Tracker → Tracker) :
    (s.modTracker i f).timebase = s.timebase := rfl
@[simp] theorem State.modTracker_links (s : State) (i : StationId) (f : Tracker → Tracker) :
    (s.modTracker i f).links = s.links := rfl
@[simp] theorem State.modTracker_reservations (s : State) (i : StationId) (f : Tracker → Tracker) :
    (s.modTracker i f).reservations = s.reservations := rfl
@[simp] theorem State.modTracker_assembler (s : State) (i : StationId) (f : Tracker → Tracker) :
    (s.modTracker i f).assembler = s.assembler := rfl
@[simp] theorem State.modTracker_store (s : State) (i : StationId) (f : Tracker → Tracker) :
    (s.modTracker i f).store = s.store := rfl
@[simp] theorem State.modTracker_mp0 (s : State) (i : StationId) (f : Tracker → Tracker) :
    (s.modTracker i f).mp0 = s.mp0 := rfl
@[simp] theorem State.modTracker_mp1 (s : State) (i : StationId) (f : Tracker → Tracker) :
    (s.modTracker i f).mp1 = s.mp1 := rfl
@[simp] theorem State.modTracker_faultRecord (s : State) (i : StationId) (f : Tracker → Tracker) :
    (s.modTracker i f).faultRecord = s.faultRecord := rfl
@[simp] theorem State.modTracker_faultCount (s : State) (i : StationId) (f : Tracker → Tracker) :
    (s.modTracker i f).faultCount = s.faultCount := rfl
@[simp] theorem State.modTracker_held (s : State) (i : StationId) (f : Tracker → Tracker) :
    (s.modTracker i f).held = s.held := rfl
@[simp] theorem State.modTracker_pending (s : State) (i : StationId) (f : Tracker → Tracker) :
    (s.modTracker i f).pending = s.pending := rfl
@[simp] theorem State.modTracker_link (s : State) (i : StationId) (f : Tracker → Tracker) (m : LinkId) :
    (s.modTracker i f).link m = s.link m := by
  simp [State.link]
@[simp] theorem State.modTracker_port (s : State) (i : StationId) (f : Tracker → Tracker) (q : PortId) :
    (s.modTracker i f).port q = s.port q := by
  cases q <;> simp [State.port]
@[simp] theorem State.modTracker_partTime (s : State) (i : StationId) (f : Tracker → Tracker) :
    (s.modTracker i f).partTime = s.partTime := by
  simp [State.partTime]

@[simp] theorem State.setLink_timebase (s : State) (l : LinkId) (x : Link) :
    (s.setLink l x).timebase = s.timebase := rfl
@[simp] theorem State.setLink_stations (s : State) (l : LinkId) (x : Link) :
    (s.setLink l x).stations = s.stations := rfl
@[simp] theorem State.setLink_reservations (s : State) (l : LinkId) (x : Link) :
    (s.setLink l x).reservations = s.reservations := rfl
@[simp] theorem State.setLink_assembler (s : State) (l : LinkId) (x : Link) :
    (s.setLink l x).assembler = s.assembler := rfl
@[simp] theorem State.setLink_store (s : State) (l : LinkId) (x : Link) :
    (s.setLink l x).store = s.store := rfl
@[simp] theorem State.setLink_mp0 (s : State) (l : LinkId) (x : Link) :
    (s.setLink l x).mp0 = s.mp0 := rfl
@[simp] theorem State.setLink_mp1 (s : State) (l : LinkId) (x : Link) :
    (s.setLink l x).mp1 = s.mp1 := rfl
@[simp] theorem State.setLink_faultRecord (s : State) (l : LinkId) (x : Link) :
    (s.setLink l x).faultRecord = s.faultRecord := rfl
@[simp] theorem State.setLink_faultCount (s : State) (l : LinkId) (x : Link) :
    (s.setLink l x).faultCount = s.faultCount := rfl
@[simp] theorem State.setLink_held (s : State) (l : LinkId) (x : Link) :
    (s.setLink l x).held = s.held := rfl
@[simp] theorem State.setLink_pending (s : State) (l : LinkId) (x : Link) :
    (s.setLink l x).pending = s.pending := rfl
@[simp] theorem State.setLink_station (s : State) (l : LinkId) (x : Link) (j : StationId) :
    (s.setLink l x).station j = s.station j := by
  simp [State.station]
@[simp] theorem State.setLink_port (s : State) (l : LinkId) (x : Link) (q : PortId) :
    (s.setLink l x).port q = s.port q := by
  cases q <;> simp [State.port]
@[simp] theorem State.setLink_partTime (s : State) (l : LinkId) (x : Link) :
    (s.setLink l x).partTime = s.partTime := by
  simp [State.partTime]

@[simp] theorem State.modLink_timebase (s : State) (l : LinkId) (f : Link → Link) :
    (s.modLink l f).timebase = s.timebase := rfl
@[simp] theorem State.modLink_stations (s : State) (l : LinkId) (f : Link → Link) :
    (s.modLink l f).stations = s.stations := rfl
@[simp] theorem State.modLink_reservations (s : State) (l : LinkId) (f : Link → Link) :
    (s.modLink l f).reservations = s.reservations := rfl
@[simp] theorem State.modLink_assembler (s : State) (l : LinkId) (f : Link → Link) :
    (s.modLink l f).assembler = s.assembler := rfl
@[simp] theorem State.modLink_store (s : State) (l : LinkId) (f : Link → Link) :
    (s.modLink l f).store = s.store := rfl
@[simp] theorem State.modLink_mp0 (s : State) (l : LinkId) (f : Link → Link) :
    (s.modLink l f).mp0 = s.mp0 := rfl
@[simp] theorem State.modLink_mp1 (s : State) (l : LinkId) (f : Link → Link) :
    (s.modLink l f).mp1 = s.mp1 := rfl
@[simp] theorem State.modLink_faultRecord (s : State) (l : LinkId) (f : Link → Link) :
    (s.modLink l f).faultRecord = s.faultRecord := rfl
@[simp] theorem State.modLink_faultCount (s : State) (l : LinkId) (f : Link → Link) :
    (s.modLink l f).faultCount = s.faultCount := rfl
@[simp] theorem State.modLink_held (s : State) (l : LinkId) (f : Link → Link) :
    (s.modLink l f).held = s.held := rfl
@[simp] theorem State.modLink_pending (s : State) (l : LinkId) (f : Link → Link) :
    (s.modLink l f).pending = s.pending := rfl
@[simp] theorem State.modLink_station (s : State) (l : LinkId) (f : Link → Link) (j : StationId) :
    (s.modLink l f).station j = s.station j := by
  simp [State.station]
@[simp] theorem State.modLink_port (s : State) (l : LinkId) (f : Link → Link) (q : PortId) :
    (s.modLink l f).port q = s.port q := by
  cases q <;> simp [State.port]
@[simp] theorem State.modLink_partTime (s : State) (l : LinkId) (f : Link → Link) :
    (s.modLink l f).partTime = s.partTime := by
  simp [State.partTime]

@[simp] theorem State.countLink_timebase (s : State) (l : LinkId) (f : LinkCounters → LinkCounters) :
    (s.countLink l f).timebase = s.timebase := rfl
@[simp] theorem State.countLink_stations (s : State) (l : LinkId) (f : LinkCounters → LinkCounters) :
    (s.countLink l f).stations = s.stations := rfl
@[simp] theorem State.countLink_reservations (s : State) (l : LinkId) (f : LinkCounters → LinkCounters) :
    (s.countLink l f).reservations = s.reservations := rfl
@[simp] theorem State.countLink_assembler (s : State) (l : LinkId) (f : LinkCounters → LinkCounters) :
    (s.countLink l f).assembler = s.assembler := rfl
@[simp] theorem State.countLink_store (s : State) (l : LinkId) (f : LinkCounters → LinkCounters) :
    (s.countLink l f).store = s.store := rfl
@[simp] theorem State.countLink_mp0 (s : State) (l : LinkId) (f : LinkCounters → LinkCounters) :
    (s.countLink l f).mp0 = s.mp0 := rfl
@[simp] theorem State.countLink_mp1 (s : State) (l : LinkId) (f : LinkCounters → LinkCounters) :
    (s.countLink l f).mp1 = s.mp1 := rfl
@[simp] theorem State.countLink_faultRecord (s : State) (l : LinkId) (f : LinkCounters → LinkCounters) :
    (s.countLink l f).faultRecord = s.faultRecord := rfl
@[simp] theorem State.countLink_faultCount (s : State) (l : LinkId) (f : LinkCounters → LinkCounters) :
    (s.countLink l f).faultCount = s.faultCount := rfl
@[simp] theorem State.countLink_held (s : State) (l : LinkId) (f : LinkCounters → LinkCounters) :
    (s.countLink l f).held = s.held := rfl
@[simp] theorem State.countLink_pending (s : State) (l : LinkId) (f : LinkCounters → LinkCounters) :
    (s.countLink l f).pending = s.pending := rfl
@[simp] theorem State.countLink_station (s : State) (l : LinkId) (f : LinkCounters → LinkCounters) (j : StationId) :
    (s.countLink l f).station j = s.station j := by
  simp [State.station]
@[simp] theorem State.countLink_port (s : State) (l : LinkId) (f : LinkCounters → LinkCounters) (q : PortId) :
    (s.countLink l f).port q = s.port q := by
  cases q <;> simp [State.port]
@[simp] theorem State.countLink_partTime (s : State) (l : LinkId) (f : LinkCounters → LinkCounters) :
    (s.countLink l f).partTime = s.partTime := by
  simp [State.partTime]

@[simp] theorem State.modPort_timebase (s : State) (p : PortId) (f : Port → Port) :
    (s.modPort p f).timebase = s.timebase := by cases p <;> rfl
@[simp] theorem State.modPort_links (s : State) (p : PortId) (f : Port → Port) :
    (s.modPort p f).links = s.links := by cases p <;> rfl
@[simp] theorem State.modPort_stations (s : State) (p : PortId) (f : Port → Port) :
    (s.modPort p f).stations = s.stations := by cases p <;> rfl
@[simp] theorem State.modPort_reservations (s : State) (p : PortId) (f : Port → Port) :
    (s.modPort p f).reservations = s.reservations := by cases p <;> rfl
@[simp] theorem State.modPort_assembler (s : State) (p : PortId) (f : Port → Port) :
    (s.modPort p f).assembler = s.assembler := by cases p <;> rfl
@[simp] theorem State.modPort_store (s : State) (p : PortId) (f : Port → Port) :
    (s.modPort p f).store = s.store := by cases p <;> rfl
@[simp] theorem State.modPort_faultRecord (s : State) (p : PortId) (f : Port → Port) :
    (s.modPort p f).faultRecord = s.faultRecord := by cases p <;> rfl
@[simp] theorem State.modPort_faultCount (s : State) (p : PortId) (f : Port → Port) :
    (s.modPort p f).faultCount = s.faultCount := by cases p <;> rfl
@[simp] theorem State.modPort_held (s : State) (p : PortId) (f : Port → Port) :
    (s.modPort p f).held = s.held := by cases p <;> rfl
@[simp] theorem State.modPort_pending (s : State) (p : PortId) (f : Port → Port) :
    (s.modPort p f).pending = s.pending := by cases p <;> rfl
@[simp] theorem State.modPort_station (s : State) (p : PortId) (f : Port → Port) (j : StationId) :
    (s.modPort p f).station j = s.station j := by
  simp [State.station]
@[simp] theorem State.modPort_link (s : State) (p : PortId) (f : Port → Port) (m : LinkId) :
    (s.modPort p f).link m = s.link m := by
  simp [State.link]
@[simp] theorem State.modPort_partTime (s : State) (p : PortId) (f : Port → Port) :
    (s.modPort p f).partTime = s.partTime := by
  simp [State.partTime]

@[simp] theorem State.modTimebase_links (s : State) (f : Timebase → Timebase) :
    (s.modTimebase f).links = s.links := rfl
@[simp] theorem State.modTimebase_stations (s : State) (f : Timebase → Timebase) :
    (s.modTimebase f).stations = s.stations := rfl
@[simp] theorem State.modTimebase_reservations (s : State) (f : Timebase → Timebase) :
    (s.modTimebase f).reservations = s.reservations := rfl
@[simp] theorem State.modTimebase_assembler (s : State) (f : Timebase → Timebase) :
    (s.modTimebase f).assembler = s.assembler := rfl
@[simp] theorem State.modTimebase_store (s : State) (f : Timebase → Timebase) :
    (s.modTimebase f).store = s.store := rfl
@[simp] theorem State.modTimebase_mp0 (s : State) (f : Timebase → Timebase) :
    (s.modTimebase f).mp0 = s.mp0 := rfl
@[simp] theorem State.modTimebase_mp1 (s : State) (f : Timebase → Timebase) :
    (s.modTimebase f).mp1 = s.mp1 := rfl
@[simp] theorem State.modTimebase_faultRecord (s : State) (f : Timebase → Timebase) :
    (s.modTimebase f).faultRecord = s.faultRecord := rfl
@[simp] theorem State.modTimebase_faultCount (s : State) (f : Timebase → Timebase) :
    (s.modTimebase f).faultCount = s.faultCount := rfl
@[simp] theorem State.modTimebase_held (s : State) (f : Timebase → Timebase) :
    (s.modTimebase f).held = s.held := rfl
@[simp] theorem State.modTimebase_pending (s : State) (f : Timebase → Timebase) :
    (s.modTimebase f).pending = s.pending := rfl
@[simp] theorem State.modTimebase_station (s : State) (f : Timebase → Timebase) (j : StationId) :
    (s.modTimebase f).station j = s.station j := by
  simp [State.station]
@[simp] theorem State.modTimebase_link (s : State) (f : Timebase → Timebase) (m : LinkId) :
    (s.modTimebase f).link m = s.link m := by
  simp [State.link]
@[simp] theorem State.modTimebase_port (s : State) (f : Timebase → Timebase) (q : PortId) :
    (s.modTimebase f).port q = s.port q := by
  cases q <;> simp [State.port]

@[simp] theorem State.modRef_links (s : State) (r : RefId) (f : Reference → Reference) :
    (s.modRef r f).links = s.links := rfl
@[simp] theorem State.modRef_stations (s : State) (r : RefId) (f : Reference → Reference) :
    (s.modRef r f).stations = s.stations := rfl
@[simp] theorem State.modRef_reservations (s : State) (r : RefId) (f : Reference → Reference) :
    (s.modRef r f).reservations = s.reservations := rfl
@[simp] theorem State.modRef_assembler (s : State) (r : RefId) (f : Reference → Reference) :
    (s.modRef r f).assembler = s.assembler := rfl
@[simp] theorem State.modRef_store (s : State) (r : RefId) (f : Reference → Reference) :
    (s.modRef r f).store = s.store := rfl
@[simp] theorem State.modRef_mp0 (s : State) (r : RefId) (f : Reference → Reference) :
    (s.modRef r f).mp0 = s.mp0 := rfl
@[simp] theorem State.modRef_mp1 (s : State) (r : RefId) (f : Reference → Reference) :
    (s.modRef r f).mp1 = s.mp1 := rfl
@[simp] theorem State.modRef_faultRecord (s : State) (r : RefId) (f : Reference → Reference) :
    (s.modRef r f).faultRecord = s.faultRecord := rfl
@[simp] theorem State.modRef_faultCount (s : State) (r : RefId) (f : Reference → Reference) :
    (s.modRef r f).faultCount = s.faultCount := rfl
@[simp] theorem State.modRef_held (s : State) (r : RefId) (f : Reference → Reference) :
    (s.modRef r f).held = s.held := rfl
@[simp] theorem State.modRef_pending (s : State) (r : RefId) (f : Reference → Reference) :
    (s.modRef r f).pending = s.pending := rfl
@[simp] theorem State.modRef_station (s : State) (r : RefId) (f : Reference → Reference) (j : StationId) :
    (s.modRef r f).station j = s.station j := by
  simp [State.station]
@[simp] theorem State.modRef_link (s : State) (r : RefId) (f : Reference → Reference) (m : LinkId) :
    (s.modRef r f).link m = s.link m := by
  simp [State.link]
@[simp] theorem State.modRef_port (s : State) (r : RefId) (f : Reference → Reference) (q : PortId) :
    (s.modRef r f).port q = s.port q := by
  cases q <;> simp [State.port]

@[simp] theorem State.modAssembler_timebase (s : State) (f : Assembler → Assembler) :
    (s.modAssembler f).timebase = s.timebase := rfl
@[simp] theorem State.modAssembler_links (s : State) (f : Assembler → Assembler) :
    (s.modAssembler f).links = s.links := rfl
@[simp] theorem State.modAssembler_stations (s : State) (f : Assembler → Assembler) :
    (s.modAssembler f).stations = s.stations := rfl
@[simp] theorem State.modAssembler_reservations (s : State) (f : Assembler → Assembler) :
    (s.modAssembler f).reservations = s.reservations := rfl
@[simp] theorem State.modAssembler_store (s : State) (f : Assembler → Assembler) :
    (s.modAssembler f).store = s.store := rfl
@[simp] theorem State.modAssembler_mp0 (s : State) (f : Assembler → Assembler) :
    (s.modAssembler f).mp0 = s.mp0 := rfl
@[simp] theorem State.modAssembler_mp1 (s : State) (f : Assembler → Assembler) :
    (s.modAssembler f).mp1 = s.mp1 := rfl
@[simp] theorem State.modAssembler_faultRecord (s : State) (f : Assembler → Assembler) :
    (s.modAssembler f).faultRecord = s.faultRecord := rfl
@[simp] theorem State.modAssembler_faultCount (s : State) (f : Assembler → Assembler) :
    (s.modAssembler f).faultCount = s.faultCount := rfl
@[simp] theorem State.modAssembler_held (s : State) (f : Assembler → Assembler) :
    (s.modAssembler f).held = s.held := rfl
@[simp] theorem State.modAssembler_pending (s : State) (f : Assembler → Assembler) :
    (s.modAssembler f).pending = s.pending := rfl
@[simp] theorem State.modAssembler_station (s : State) (f : Assembler → Assembler) (j : StationId) :
    (s.modAssembler f).station j = s.station j := by
  simp [State.station]
@[simp] theorem State.modAssembler_link (s : State) (f : Assembler → Assembler) (m : LinkId) :
    (s.modAssembler f).link m = s.link m := by
  simp [State.link]
@[simp] theorem State.modAssembler_port (s : State) (f : Assembler → Assembler) (q : PortId) :
    (s.modAssembler f).port q = s.port q := by
  cases q <;> simp [State.port]
@[simp] theorem State.modAssembler_partTime (s : State) (f : Assembler → Assembler) :
    (s.modAssembler f).partTime = s.partTime := by
  simp [State.partTime]

@[simp] theorem State.modStore_timebase (s : State) (f : Store → Store) :
    (s.modStore f).timebase = s.timebase := rfl
@[simp] theorem State.modStore_links (s : State) (f : Store → Store) :
    (s.modStore f).links = s.links := rfl
@[simp] theorem State.modStore_stations (s : State) (f : Store → Store) :
    (s.modStore f).stations = s.stations := rfl
@[simp] theorem State.modStore_reservations (s : State) (f : Store → Store) :
    (s.modStore f).reservations = s.reservations := rfl
@[simp] theorem State.modStore_assembler (s : State) (f : Store → Store) :
    (s.modStore f).assembler = s.assembler := rfl
@[simp] theorem State.modStore_mp0 (s : State) (f : Store → Store) :
    (s.modStore f).mp0 = s.mp0 := rfl
@[simp] theorem State.modStore_mp1 (s : State) (f : Store → Store) :
    (s.modStore f).mp1 = s.mp1 := rfl
@[simp] theorem State.modStore_faultRecord (s : State) (f : Store → Store) :
    (s.modStore f).faultRecord = s.faultRecord := rfl
@[simp] theorem State.modStore_faultCount (s : State) (f : Store → Store) :
    (s.modStore f).faultCount = s.faultCount := rfl
@[simp] theorem State.modStore_held (s : State) (f : Store → Store) :
    (s.modStore f).held = s.held := rfl
@[simp] theorem State.modStore_pending (s : State) (f : Store → Store) :
    (s.modStore f).pending = s.pending := rfl
@[simp] theorem State.modStore_station (s : State) (f : Store → Store) (j : StationId) :
    (s.modStore f).station j = s.station j := by
  simp [State.station]
@[simp] theorem State.modStore_link (s : State) (f : Store → Store) (m : LinkId) :
    (s.modStore f).link m = s.link m := by
  simp [State.link]
@[simp] theorem State.modStore_port (s : State) (f : Store → Store) (q : PortId) :
    (s.modStore f).port q = s.port q := by
  cases q <;> simp [State.port]
@[simp] theorem State.modStore_partTime (s : State) (f : Store → Store) :
    (s.modStore f).partTime = s.partTime := by
  simp [State.partTime]

@[simp] theorem State.modEpoch_timebase (s : State) (n : Nat) (f : Epoch → Epoch) :
    (s.modEpoch n f).timebase = s.timebase := rfl
@[simp] theorem State.modEpoch_links (s : State) (n : Nat) (f : Epoch → Epoch) :
    (s.modEpoch n f).links = s.links := rfl
@[simp] theorem State.modEpoch_stations (s : State) (n : Nat) (f : Epoch → Epoch) :
    (s.modEpoch n f).stations = s.stations := rfl
@[simp] theorem State.modEpoch_reservations (s : State) (n : Nat) (f : Epoch → Epoch) :
    (s.modEpoch n f).reservations = s.reservations := rfl
@[simp] theorem State.modEpoch_store (s : State) (n : Nat) (f : Epoch → Epoch) :
    (s.modEpoch n f).store = s.store := rfl
@[simp] theorem State.modEpoch_mp0 (s : State) (n : Nat) (f : Epoch → Epoch) :
    (s.modEpoch n f).mp0 = s.mp0 := rfl
@[simp] theorem State.modEpoch_mp1 (s : State) (n : Nat) (f : Epoch → Epoch) :
    (s.modEpoch n f).mp1 = s.mp1 := rfl
@[simp] theorem State.modEpoch_faultRecord (s : State) (n : Nat) (f : Epoch → Epoch) :
    (s.modEpoch n f).faultRecord = s.faultRecord := rfl
@[simp] theorem State.modEpoch_faultCount (s : State) (n : Nat) (f : Epoch → Epoch) :
    (s.modEpoch n f).faultCount = s.faultCount := rfl
@[simp] theorem State.modEpoch_held (s : State) (n : Nat) (f : Epoch → Epoch) :
    (s.modEpoch n f).held = s.held := rfl
@[simp] theorem State.modEpoch_pending (s : State) (n : Nat) (f : Epoch → Epoch) :
    (s.modEpoch n f).pending = s.pending := rfl
@[simp] theorem State.modEpoch_station (s : State) (n : Nat) (f : Epoch → Epoch) (j : StationId) :
    (s.modEpoch n f).station j = s.station j := by
  simp [State.station]
@[simp] theorem State.modEpoch_link (s : State) (n : Nat) (f : Epoch → Epoch) (m : LinkId) :
    (s.modEpoch n f).link m = s.link m := by
  simp [State.link]
@[simp] theorem State.modEpoch_port (s : State) (n : Nat) (f : Epoch → Epoch) (q : PortId) :
    (s.modEpoch n f).port q = s.port q := by
  cases q <;> simp [State.port]
@[simp] theorem State.modEpoch_partTime (s : State) (n : Nat) (f : Epoch → Epoch) :
    (s.modEpoch n f).partTime = s.partTime := by
  simp [State.partTime]

@[simp] theorem State.modSlot_timebase (s : State) (k : Nat) (f : Slot → Slot) :
    (s.modSlot k f).timebase = s.timebase := rfl
@[simp] theorem State.modSlot_links (s : State) (k : Nat) (f : Slot → Slot) :
    (s.modSlot k f).links = s.links := rfl
@[simp] theorem State.modSlot_stations (s : State) (k : Nat) (f : Slot → Slot) :
    (s.modSlot k f).stations = s.stations := rfl
@[simp] theorem State.modSlot_reservations (s : State) (k : Nat) (f : Slot → Slot) :
    (s.modSlot k f).reservations = s.reservations := rfl
@[simp] theorem State.modSlot_assembler (s : State) (k : Nat) (f : Slot → Slot) :
    (s.modSlot k f).assembler = s.assembler := rfl
@[simp] theorem State.modSlot_mp0 (s : State) (k : Nat) (f : Slot → Slot) :
    (s.modSlot k f).mp0 = s.mp0 := rfl
@[simp] theorem State.modSlot_mp1 (s : State) (k : Nat) (f : Slot → Slot) :
    (s.modSlot k f).mp1 = s.mp1 := rfl
@[simp] theorem State.modSlot_faultRecord (s : State) (k : Nat) (f : Slot → Slot) :
    (s.modSlot k f).faultRecord = s.faultRecord := rfl
@[simp] theorem State.modSlot_faultCount (s : State) (k : Nat) (f : Slot → Slot) :
    (s.modSlot k f).faultCount = s.faultCount := rfl
@[simp] theorem State.modSlot_held (s : State) (k : Nat) (f : Slot → Slot) :
    (s.modSlot k f).held = s.held := rfl
@[simp] theorem State.modSlot_pending (s : State) (k : Nat) (f : Slot → Slot) :
    (s.modSlot k f).pending = s.pending := rfl
@[simp] theorem State.modSlot_station (s : State) (k : Nat) (f : Slot → Slot) (j : StationId) :
    (s.modSlot k f).station j = s.station j := by
  simp [State.station]
@[simp] theorem State.modSlot_link (s : State) (k : Nat) (f : Slot → Slot) (m : LinkId) :
    (s.modSlot k f).link m = s.link m := by
  simp [State.link]
@[simp] theorem State.modSlot_port (s : State) (k : Nat) (f : Slot → Slot) (q : PortId) :
    (s.modSlot k f).port q = s.port q := by
  cases q <;> simp [State.port]
@[simp] theorem State.modSlot_partTime (s : State) (k : Nat) (f : Slot → Slot) :
    (s.modSlot k f).partTime = s.partTime := by
  simp [State.partTime]

@[simp] theorem State.freeSlot_timebase (s : State) (k : Nat) :
    (s.freeSlot k).timebase = s.timebase := rfl
@[simp] theorem State.freeSlot_links (s : State) (k : Nat) :
    (s.freeSlot k).links = s.links := rfl
@[simp] theorem State.freeSlot_stations (s : State) (k : Nat) :
    (s.freeSlot k).stations = s.stations := rfl
@[simp] theorem State.freeSlot_reservations (s : State) (k : Nat) :
    (s.freeSlot k).reservations = s.reservations := rfl
@[simp] theorem State.freeSlot_assembler (s : State) (k : Nat) :
    (s.freeSlot k).assembler = s.assembler := rfl
@[simp] theorem State.freeSlot_mp0 (s : State) (k : Nat) :
    (s.freeSlot k).mp0 = s.mp0 := rfl
@[simp] theorem State.freeSlot_mp1 (s : State) (k : Nat) :
    (s.freeSlot k).mp1 = s.mp1 := rfl
@[simp] theorem State.freeSlot_faultRecord (s : State) (k : Nat) :
    (s.freeSlot k).faultRecord = s.faultRecord := rfl
@[simp] theorem State.freeSlot_faultCount (s : State) (k : Nat) :
    (s.freeSlot k).faultCount = s.faultCount := rfl
@[simp] theorem State.freeSlot_held (s : State) (k : Nat) :
    (s.freeSlot k).held = s.held := rfl
@[simp] theorem State.freeSlot_pending (s : State) (k : Nat) :
    (s.freeSlot k).pending = s.pending := rfl
@[simp] theorem State.freeSlot_station (s : State) (k : Nat) (j : StationId) :
    (s.freeSlot k).station j = s.station j := by
  simp [State.station]
@[simp] theorem State.freeSlot_link (s : State) (k : Nat) (m : LinkId) :
    (s.freeSlot k).link m = s.link m := by
  simp [State.link]
@[simp] theorem State.freeSlot_port (s : State) (k : Nat) (q : PortId) :
    (s.freeSlot k).port q = s.port q := by
  cases q <;> simp [State.port]
@[simp] theorem State.freeSlot_partTime (s : State) (k : Nat) :
    (s.freeSlot k).partTime = s.partTime := by
  simp [State.partTime]

@[simp] theorem State.raise_timebase (s : State) (k : NoticeKind) :
    (s.raise k).timebase = s.timebase := rfl
@[simp] theorem State.raise_links (s : State) (k : NoticeKind) :
    (s.raise k).links = s.links := rfl
@[simp] theorem State.raise_stations (s : State) (k : NoticeKind) :
    (s.raise k).stations = s.stations := rfl
@[simp] theorem State.raise_reservations (s : State) (k : NoticeKind) :
    (s.raise k).reservations = s.reservations := rfl
@[simp] theorem State.raise_assembler (s : State) (k : NoticeKind) :
    (s.raise k).assembler = s.assembler := rfl
@[simp] theorem State.raise_store (s : State) (k : NoticeKind) :
    (s.raise k).store = s.store := rfl
@[simp] theorem State.raise_faultRecord (s : State) (k : NoticeKind) :
    (s.raise k).faultRecord = s.faultRecord := rfl
@[simp] theorem State.raise_faultCount (s : State) (k : NoticeKind) :
    (s.raise k).faultCount = s.faultCount := rfl
@[simp] theorem State.raise_held (s : State) (k : NoticeKind) :
    (s.raise k).held = s.held := rfl
@[simp] theorem State.raise_pending (s : State) (k : NoticeKind) :
    (s.raise k).pending = s.pending := rfl
@[simp] theorem State.raise_station (s : State) (k : NoticeKind) (j : StationId) :
    (s.raise k).station j = s.station j := by
  simp [State.station]
@[simp] theorem State.raise_link (s : State) (k : NoticeKind) (m : LinkId) :
    (s.raise k).link m = s.link m := by
  simp [State.link]
@[simp] theorem State.raise_partTime (s : State) (k : NoticeKind) :
    (s.raise k).partTime = s.partTime := by
  simp [State.partTime]

@[simp] theorem State.raiseIf_timebase (s : State) (b : Bool) (k : NoticeKind) :
    (s.raiseIf b k).timebase = s.timebase := by cases b <;> rfl
@[simp] theorem State.raiseIf_links (s : State) (b : Bool) (k : NoticeKind) :
    (s.raiseIf b k).links = s.links := by cases b <;> rfl
@[simp] theorem State.raiseIf_stations (s : State) (b : Bool) (k : NoticeKind) :
    (s.raiseIf b k).stations = s.stations := by cases b <;> rfl
@[simp] theorem State.raiseIf_reservations (s : State) (b : Bool) (k : NoticeKind) :
    (s.raiseIf b k).reservations = s.reservations := by cases b <;> rfl
@[simp] theorem State.raiseIf_assembler (s : State) (b : Bool) (k : NoticeKind) :
    (s.raiseIf b k).assembler = s.assembler := by cases b <;> rfl
@[simp] theorem State.raiseIf_store (s : State) (b : Bool) (k : NoticeKind) :
    (s.raiseIf b k).store = s.store := by cases b <;> rfl
@[simp] theorem State.raiseIf_faultRecord (s : State) (b : Bool) (k : NoticeKind) :
    (s.raiseIf b k).faultRecord = s.faultRecord := by cases b <;> rfl
@[simp] theorem State.raiseIf_faultCount (s : State) (b : Bool) (k : NoticeKind) :
    (s.raiseIf b k).faultCount = s.faultCount := by cases b <;> rfl
@[simp] theorem State.raiseIf_held (s : State) (b : Bool) (k : NoticeKind) :
    (s.raiseIf b k).held = s.held := by cases b <;> rfl
@[simp] theorem State.raiseIf_pending (s : State) (b : Bool) (k : NoticeKind) :
    (s.raiseIf b k).pending = s.pending := by cases b <;> rfl
@[simp] theorem State.raiseIf_station (s : State) (b : Bool) (k : NoticeKind) (j : StationId) :
    (s.raiseIf b k).station j = s.station j := by
  simp [State.station]
@[simp] theorem State.raiseIf_link (s : State) (b : Bool) (k : NoticeKind) (m : LinkId) :
    (s.raiseIf b k).link m = s.link m := by
  simp [State.link]
@[simp] theorem State.raiseIf_partTime (s : State) (b : Bool) (k : NoticeKind) :
    (s.raiseIf b k).partTime = s.partTime := by
  simp [State.partTime]

@[simp] theorem State.setReservation_timebase (s : State) (i : StationId) (x : Option Reservation) :
    (s.setReservation i x).timebase = s.timebase := rfl
@[simp] theorem State.setReservation_links (s : State) (i : StationId) (x : Option Reservation) :
    (s.setReservation i x).links = s.links := rfl
@[simp] theorem State.setReservation_stations (s : State) (i : StationId) (x : Option Reservation) :
    (s.setReservation i x).stations = s.stations := rfl
@[simp] theorem State.setReservation_assembler (s : State) (i : StationId) (x : Option Reservation) :
    (s.setReservation i x).assembler = s.assembler := rfl
@[simp] theorem State.setReservation_store (s : State) (i : StationId) (x : Option Reservation) :
    (s.setReservation i x).store = s.store := rfl
@[simp] theorem State.setReservation_mp0 (s : State) (i : StationId) (x : Option Reservation) :
    (s.setReservation i x).mp0 = s.mp0 := rfl
@[simp] theorem State.setReservation_mp1 (s : State) (i : StationId) (x : Option Reservation) :
    (s.setReservation i x).mp1 = s.mp1 := rfl
@[simp] theorem State.setReservation_faultRecord (s : State) (i : StationId) (x : Option Reservation) :
    (s.setReservation i x).faultRecord = s.faultRecord := rfl
@[simp] theorem State.setReservation_faultCount (s : State) (i : StationId) (x : Option Reservation) :
    (s.setReservation i x).faultCount = s.faultCount := rfl
@[simp] theorem State.setReservation_held (s : State) (i : StationId) (x : Option Reservation) :
    (s.setReservation i x).held = s.held := rfl
@[simp] theorem State.setReservation_pending (s : State) (i : StationId) (x : Option Reservation) :
    (s.setReservation i x).pending = s.pending := rfl
@[simp] theorem State.setReservation_station (s : State) (i : StationId) (x : Option Reservation) (j : StationId) :
    (s.setReservation i x).station j = s.station j := by
  simp [State.station]
@[simp] theorem State.setReservation_link (s : State) (i : StationId) (x : Option Reservation) (m : LinkId) :
    (s.setReservation i x).link m = s.link m := by
  simp [State.link]
@[simp] theorem State.setReservation_port (s : State) (i : StationId) (x : Option Reservation) (q : PortId) :
    (s.setReservation i x).port q = s.port q := by
  cases q <;> simp [State.port]
@[simp] theorem State.setReservation_partTime (s : State) (i : StationId) (x : Option Reservation) :
    (s.setReservation i x).partTime = s.partTime := by
  simp [State.partTime]

@[simp] theorem State.invalidateReservation_timebase (s : State) (i : StationId) :
    (s.invalidateReservation i).timebase = s.timebase := by
  unfold State.invalidateReservation; split
  · split <;> rfl
  · rfl
@[simp] theorem State.invalidateReservation_links (s : State) (i : StationId) :
    (s.invalidateReservation i).links = s.links := by
  unfold State.invalidateReservation; split
  · split <;> rfl
  · rfl
@[simp] theorem State.invalidateReservation_stations (s : State) (i : StationId) :
    (s.invalidateReservation i).stations = s.stations := by
  unfold State.invalidateReservation; split
  · split <;> rfl
  · rfl
@[simp] theorem State.invalidateReservation_assembler (s : State) (i : StationId) :
    (s.invalidateReservation i).assembler = s.assembler := by
  unfold State.invalidateReservation; split
  · split <;> rfl
  · rfl
@[simp] theorem State.invalidateReservation_store (s : State) (i : StationId) :
    (s.invalidateReservation i).store = s.store := by
  unfold State.invalidateReservation; split
  · split <;> rfl
  · rfl
@[simp] theorem State.invalidateReservation_mp0 (s : State) (i : StationId) :
    (s.invalidateReservation i).mp0 = s.mp0 := by
  unfold State.invalidateReservation; split
  · split <;> rfl
  · rfl
@[simp] theorem State.invalidateReservation_mp1 (s : State) (i : StationId) :
    (s.invalidateReservation i).mp1 = s.mp1 := by
  unfold State.invalidateReservation; split
  · split <;> rfl
  · rfl
@[simp] theorem State.invalidateReservation_faultRecord (s : State) (i : StationId) :
    (s.invalidateReservation i).faultRecord = s.faultRecord := by
  unfold State.invalidateReservation; split
  · split <;> rfl
  · rfl
@[simp] theorem State.invalidateReservation_faultCount (s : State) (i : StationId) :
    (s.invalidateReservation i).faultCount = s.faultCount := by
  unfold State.invalidateReservation; split
  · split <;> rfl
  · rfl
@[simp] theorem State.invalidateReservation_held (s : State) (i : StationId) :
    (s.invalidateReservation i).held = s.held := by
  unfold State.invalidateReservation; split
  · split <;> rfl
  · rfl
@[simp] theorem State.invalidateReservation_pending (s : State) (i : StationId) :
    (s.invalidateReservation i).pending = s.pending := by
  unfold State.invalidateReservation; split
  · split <;> rfl
  · rfl
@[simp] theorem State.invalidateReservation_station (s : State) (i : StationId) (j : StationId) :
    (s.invalidateReservation i).station j = s.station j := by
  simp [State.station]
@[simp] theorem State.invalidateReservation_link (s : State) (i : StationId) (m : LinkId) :
    (s.invalidateReservation i).link m = s.link m := by
  simp [State.link]
@[simp] theorem State.invalidateReservation_port (s : State) (i : StationId) (q : PortId) :
    (s.invalidateReservation i).port q = s.port q := by
  cases q <;> simp [State.port]
@[simp] theorem State.invalidateReservation_partTime (s : State) (i : StationId) :
    (s.invalidateReservation i).partTime = s.partTime := by
  simp [State.partTime]

@[simp] theorem State.leaveWaiting_timebase (s : State) (l : LinkId) :
    (s.leaveWaiting l).timebase = s.timebase := rfl
@[simp] theorem State.leaveWaiting_links (s : State) (l : LinkId) :
    (s.leaveWaiting l).links = s.links := rfl
@[simp] theorem State.leaveWaiting_stations (s : State) (l : LinkId) :
    (s.leaveWaiting l).stations = s.stations := rfl
@[simp] theorem State.leaveWaiting_reservations (s : State) (l : LinkId) :
    (s.leaveWaiting l).reservations = s.reservations := rfl
@[simp] theorem State.leaveWaiting_assembler (s : State) (l : LinkId) :
    (s.leaveWaiting l).assembler = s.assembler := rfl
@[simp] theorem State.leaveWaiting_mp0 (s : State) (l : LinkId) :
    (s.leaveWaiting l).mp0 = s.mp0 := rfl
@[simp] theorem State.leaveWaiting_mp1 (s : State) (l : LinkId) :
    (s.leaveWaiting l).mp1 = s.mp1 := rfl
@[simp] theorem State.leaveWaiting_faultRecord (s : State) (l : LinkId) :
    (s.leaveWaiting l).faultRecord = s.faultRecord := rfl
@[simp] theorem State.leaveWaiting_faultCount (s : State) (l : LinkId) :
    (s.leaveWaiting l).faultCount = s.faultCount := rfl
@[simp] theorem State.leaveWaiting_held (s : State) (l : LinkId) :
    (s.leaveWaiting l).held = s.held := rfl
@[simp] theorem State.leaveWaiting_pending (s : State) (l : LinkId) :
    (s.leaveWaiting l).pending = s.pending := rfl
@[simp] theorem State.leaveWaiting_station (s : State) (l : LinkId) (j : StationId) :
    (s.leaveWaiting l).station j = s.station j := by
  simp [State.station]
@[simp] theorem State.leaveWaiting_link (s : State) (l : LinkId) (m : LinkId) :
    (s.leaveWaiting l).link m = s.link m := by
  simp [State.link]
@[simp] theorem State.leaveWaiting_port (s : State) (l : LinkId) (q : PortId) :
    (s.leaveWaiting l).port q = s.port q := by
  cases q <;> simp [State.port]
@[simp] theorem State.leaveWaiting_partTime (s : State) (l : LinkId) :
    (s.leaveWaiting l).partTime = s.partTime := by
  simp [State.partTime]

@[simp] theorem State.removeExpected_timebase (s : State) (x : StationSet) :
    (s.removeExpected x).timebase = s.timebase := rfl
@[simp] theorem State.removeExpected_links (s : State) (x : StationSet) :
    (s.removeExpected x).links = s.links := rfl
@[simp] theorem State.removeExpected_stations (s : State) (x : StationSet) :
    (s.removeExpected x).stations = s.stations := rfl
@[simp] theorem State.removeExpected_reservations (s : State) (x : StationSet) :
    (s.removeExpected x).reservations = s.reservations := rfl
@[simp] theorem State.removeExpected_store (s : State) (x : StationSet) :
    (s.removeExpected x).store = s.store := rfl
@[simp] theorem State.removeExpected_mp0 (s : State) (x : StationSet) :
    (s.removeExpected x).mp0 = s.mp0 := rfl
@[simp] theorem State.removeExpected_mp1 (s : State) (x : StationSet) :
    (s.removeExpected x).mp1 = s.mp1 := rfl
@[simp] theorem State.removeExpected_faultRecord (s : State) (x : StationSet) :
    (s.removeExpected x).faultRecord = s.faultRecord := rfl
@[simp] theorem State.removeExpected_faultCount (s : State) (x : StationSet) :
    (s.removeExpected x).faultCount = s.faultCount := rfl
@[simp] theorem State.removeExpected_held (s : State) (x : StationSet) :
    (s.removeExpected x).held = s.held := rfl
@[simp] theorem State.removeExpected_pending (s : State) (x : StationSet) :
    (s.removeExpected x).pending = s.pending := rfl
@[simp] theorem State.removeExpected_station (s : State) (x : StationSet) (j : StationId) :
    (s.removeExpected x).station j = s.station j := by
  simp [State.station]
@[simp] theorem State.removeExpected_link (s : State) (x : StationSet) (m : LinkId) :
    (s.removeExpected x).link m = s.link m := by
  simp [State.link]
@[simp] theorem State.removeExpected_port (s : State) (x : StationSet) (q : PortId) :
    (s.removeExpected x).port q = s.port q := by
  cases q <;> simp [State.port]
@[simp] theorem State.removeExpected_partTime (s : State) (x : StationSet) :
    (s.removeExpected x).partTime = s.partTime := by
  simp [State.partTime]

@[simp] theorem State.popHead_timebase (s : State) (l : LinkId) :
    (s.popHead l).timebase = s.timebase := rfl
@[simp] theorem State.popHead_stations (s : State) (l : LinkId) :
    (s.popHead l).stations = s.stations := rfl
@[simp] theorem State.popHead_reservations (s : State) (l : LinkId) :
    (s.popHead l).reservations = s.reservations := rfl
@[simp] theorem State.popHead_assembler (s : State) (l : LinkId) :
    (s.popHead l).assembler = s.assembler := rfl
@[simp] theorem State.popHead_store (s : State) (l : LinkId) :
    (s.popHead l).store = s.store := rfl
@[simp] theorem State.popHead_mp0 (s : State) (l : LinkId) :
    (s.popHead l).mp0 = s.mp0 := rfl
@[simp] theorem State.popHead_mp1 (s : State) (l : LinkId) :
    (s.popHead l).mp1 = s.mp1 := rfl
@[simp] theorem State.popHead_faultRecord (s : State) (l : LinkId) :
    (s.popHead l).faultRecord = s.faultRecord := rfl
@[simp] theorem State.popHead_faultCount (s : State) (l : LinkId) :
    (s.popHead l).faultCount = s.faultCount := rfl
@[simp] theorem State.popHead_held (s : State) (l : LinkId) :
    (s.popHead l).held = s.held := rfl
@[simp] theorem State.popHead_pending (s : State) (l : LinkId) :
    (s.popHead l).pending = s.pending := rfl
@[simp] theorem State.popHead_station (s : State) (l : LinkId) (j : StationId) :
    (s.popHead l).station j = s.station j := by
  simp [State.station]
@[simp] theorem State.popHead_port (s : State) (l : LinkId) (q : PortId) :
    (s.popHead l).port q = s.port q := by
  cases q <;> simp [State.port]
@[simp] theorem State.popHead_partTime (s : State) (l : LinkId) :
    (s.popHead l).partTime = s.partTime := by
  simp [State.partTime]

@[simp] theorem State.countDisabled_timebase (s : State) (l : LinkId) :
    (s.countDisabled l).timebase = s.timebase := rfl
@[simp] theorem State.countDisabled_stations (s : State) (l : LinkId) :
    (s.countDisabled l).stations = s.stations := rfl
@[simp] theorem State.countDisabled_reservations (s : State) (l : LinkId) :
    (s.countDisabled l).reservations = s.reservations := rfl
@[simp] theorem State.countDisabled_assembler (s : State) (l : LinkId) :
    (s.countDisabled l).assembler = s.assembler := rfl
@[simp] theorem State.countDisabled_store (s : State) (l : LinkId) :
    (s.countDisabled l).store = s.store := rfl
@[simp] theorem State.countDisabled_mp0 (s : State) (l : LinkId) :
    (s.countDisabled l).mp0 = s.mp0 := rfl
@[simp] theorem State.countDisabled_mp1 (s : State) (l : LinkId) :
    (s.countDisabled l).mp1 = s.mp1 := rfl
@[simp] theorem State.countDisabled_faultRecord (s : State) (l : LinkId) :
    (s.countDisabled l).faultRecord = s.faultRecord := rfl
@[simp] theorem State.countDisabled_faultCount (s : State) (l : LinkId) :
    (s.countDisabled l).faultCount = s.faultCount := rfl
@[simp] theorem State.countDisabled_held (s : State) (l : LinkId) :
    (s.countDisabled l).held = s.held := rfl
@[simp] theorem State.countDisabled_pending (s : State) (l : LinkId) :
    (s.countDisabled l).pending = s.pending := rfl
@[simp] theorem State.countDisabled_station (s : State) (l : LinkId) (j : StationId) :
    (s.countDisabled l).station j = s.station j := by
  simp [State.station]
@[simp] theorem State.countDisabled_port (s : State) (l : LinkId) (q : PortId) :
    (s.countDisabled l).port q = s.port q := by
  cases q <;> simp [State.port]
@[simp] theorem State.countDisabled_partTime (s : State) (l : LinkId) :
    (s.countDisabled l).partTime = s.partTime := by
  simp [State.partTime]

@[simp] theorem State.advance_links (s : State) (dt : Nat) :
    (s.advance dt).links = s.links := rfl
@[simp] theorem State.advance_stations (s : State) (dt : Nat) :
    (s.advance dt).stations = s.stations := rfl
@[simp] theorem State.advance_reservations (s : State) (dt : Nat) :
    (s.advance dt).reservations = s.reservations := rfl
@[simp] theorem State.advance_assembler (s : State) (dt : Nat) :
    (s.advance dt).assembler = s.assembler := rfl
@[simp] theorem State.advance_store (s : State) (dt : Nat) :
    (s.advance dt).store = s.store := rfl
@[simp] theorem State.advance_mp0 (s : State) (dt : Nat) :
    (s.advance dt).mp0 = s.mp0 := rfl
@[simp] theorem State.advance_mp1 (s : State) (dt : Nat) :
    (s.advance dt).mp1 = s.mp1 := rfl
@[simp] theorem State.advance_faultRecord (s : State) (dt : Nat) :
    (s.advance dt).faultRecord = s.faultRecord := rfl
@[simp] theorem State.advance_faultCount (s : State) (dt : Nat) :
    (s.advance dt).faultCount = s.faultCount := rfl
@[simp] theorem State.advance_held (s : State) (dt : Nat) :
    (s.advance dt).held = s.held := rfl
@[simp] theorem State.advance_pending (s : State) (dt : Nat) :
    (s.advance dt).pending = s.pending := rfl
@[simp] theorem State.advance_station (s : State) (dt : Nat) (j : StationId) :
    (s.advance dt).station j = s.station j := by
  simp [State.station]
@[simp] theorem State.advance_link (s : State) (dt : Nat) (m : LinkId) :
    (s.advance dt).link m = s.link m := by
  simp [State.link]
@[simp] theorem State.advance_port (s : State) (dt : Nat) (q : PortId) :
    (s.advance dt).port q = s.port q := by
  cases q <;> simp [State.port]

@[simp] theorem State.endEvent_timebase (s : State) :
    s.endEvent.timebase = s.timebase := rfl
@[simp] theorem State.endEvent_links (s : State) :
    s.endEvent.links = s.links := rfl
@[simp] theorem State.endEvent_stations (s : State) :
    s.endEvent.stations = s.stations := rfl
@[simp] theorem State.endEvent_reservations (s : State) :
    s.endEvent.reservations = s.reservations := rfl
@[simp] theorem State.endEvent_assembler (s : State) :
    s.endEvent.assembler = s.assembler := rfl
@[simp] theorem State.endEvent_faultRecord (s : State) :
    s.endEvent.faultRecord = s.faultRecord := rfl
@[simp] theorem State.endEvent_faultCount (s : State) :
    s.endEvent.faultCount = s.faultCount := rfl
@[simp] theorem State.endEvent_held (s : State) :
    s.endEvent.held = s.held := rfl
@[simp] theorem State.endEvent_pending (s : State) :
    s.endEvent.pending = s.pending := rfl
@[simp] theorem State.endEvent_station (s : State) (j : StationId) :
    s.endEvent.station j = s.station j := by
  simp [State.station]
@[simp] theorem State.endEvent_link (s : State) (m : LinkId) :
    s.endEvent.link m = s.link m := by
  simp [State.link]
@[simp] theorem State.endEvent_partTime (s : State) :
    s.endEvent.partTime = s.partTime := by
  simp [State.partTime]

@[simp] theorem State.putClock_timebase (s : State) (i : StationId) (c : Clock) :
    (s.putClock i c).timebase = s.timebase := by
  unfold State.putClock State.raiseIf; split <;> rfl
@[simp] theorem State.putClock_links (s : State) (i : StationId) (c : Clock) :
    (s.putClock i c).links = s.links := by
  unfold State.putClock State.raiseIf; split <;> rfl
@[simp] theorem State.putClock_reservations (s : State) (i : StationId) (c : Clock) :
    (s.putClock i c).reservations = s.reservations := by
  unfold State.putClock State.raiseIf; split <;> rfl
@[simp] theorem State.putClock_assembler (s : State) (i : StationId) (c : Clock) :
    (s.putClock i c).assembler = s.assembler := by
  unfold State.putClock State.raiseIf; split <;> rfl
@[simp] theorem State.putClock_store (s : State) (i : StationId) (c : Clock) :
    (s.putClock i c).store = s.store := by
  unfold State.putClock State.raiseIf; split <;> rfl
@[simp] theorem State.putClock_faultRecord (s : State) (i : StationId) (c : Clock) :
    (s.putClock i c).faultRecord = s.faultRecord := by
  unfold State.putClock State.raiseIf; split <;> rfl
@[simp] theorem State.putClock_faultCount (s : State) (i : StationId) (c : Clock) :
    (s.putClock i c).faultCount = s.faultCount := by
  unfold State.putClock State.raiseIf; split <;> rfl
@[simp] theorem State.putClock_held (s : State) (i : StationId) (c : Clock) :
    (s.putClock i c).held = s.held := by
  unfold State.putClock State.raiseIf; split <;> rfl
@[simp] theorem State.putClock_pending (s : State) (i : StationId) (c : Clock) :
    (s.putClock i c).pending = s.pending := by
  unfold State.putClock State.raiseIf; split <;> rfl
@[simp] theorem State.putClock_link (s : State) (i : StationId) (c : Clock) (m : LinkId) :
    (s.putClock i c).link m = s.link m := by
  simp [State.link]
@[simp] theorem State.putClock_partTime (s : State) (i : StationId) (c : Clock) :
    (s.putClock i c).partTime = s.partTime := by
  simp [State.partTime]

@[simp] theorem State.setRtt_timebase (s : State) (i : StationId) (t : Int) :
    (s.setRtt i t).timebase = s.timebase := rfl
@[simp] theorem State.setRtt_links (s : State) (i : StationId) (t : Int) :
    (s.setRtt i t).links = s.links := rfl
@[simp] theorem State.setRtt_reservations (s : State) (i : StationId) (t : Int) :
    (s.setRtt i t).reservations = s.reservations := rfl
@[simp] theorem State.setRtt_assembler (s : State) (i : StationId) (t : Int) :
    (s.setRtt i t).assembler = s.assembler := rfl
@[simp] theorem State.setRtt_store (s : State) (i : StationId) (t : Int) :
    (s.setRtt i t).store = s.store := rfl
@[simp] theorem State.setRtt_mp0 (s : State) (i : StationId) (t : Int) :
    (s.setRtt i t).mp0 = s.mp0 := rfl
@[simp] theorem State.setRtt_mp1 (s : State) (i : StationId) (t : Int) :
    (s.setRtt i t).mp1 = s.mp1 := rfl
@[simp] theorem State.setRtt_faultRecord (s : State) (i : StationId) (t : Int) :
    (s.setRtt i t).faultRecord = s.faultRecord := rfl
@[simp] theorem State.setRtt_faultCount (s : State) (i : StationId) (t : Int) :
    (s.setRtt i t).faultCount = s.faultCount := rfl
@[simp] theorem State.setRtt_held (s : State) (i : StationId) (t : Int) :
    (s.setRtt i t).held = s.held := rfl
@[simp] theorem State.setRtt_pending (s : State) (i : StationId) (t : Int) :
    (s.setRtt i t).pending = s.pending := rfl
@[simp] theorem State.setRtt_link (s : State) (i : StationId) (t : Int) (m : LinkId) :
    (s.setRtt i t).link m = s.link m := by
  simp [State.link]
@[simp] theorem State.setRtt_port (s : State) (i : StationId) (t : Int) (q : PortId) :
    (s.setRtt i t).port q = s.port q := by
  cases q <;> simp [State.port]
@[simp] theorem State.setRtt_partTime (s : State) (i : StationId) (t : Int) :
    (s.setRtt i t).partTime = s.partTime := by
  simp [State.partTime]

@[simp] theorem State.startHold_timebase (s : State) (i : StationId) :
    (s.startHold i).timebase = s.timebase := rfl
@[simp] theorem State.startHold_links (s : State) (i : StationId) :
    (s.startHold i).links = s.links := rfl
@[simp] theorem State.startHold_reservations (s : State) (i : StationId) :
    (s.startHold i).reservations = s.reservations := rfl
@[simp] theorem State.startHold_assembler (s : State) (i : StationId) :
    (s.startHold i).assembler = s.assembler := rfl
@[simp] theorem State.startHold_store (s : State) (i : StationId) :
    (s.startHold i).store = s.store := rfl
@[simp] theorem State.startHold_mp0 (s : State) (i : StationId) :
    (s.startHold i).mp0 = s.mp0 := rfl
@[simp] theorem State.startHold_mp1 (s : State) (i : StationId) :
    (s.startHold i).mp1 = s.mp1 := rfl
@[simp] theorem State.startHold_faultRecord (s : State) (i : StationId) :
    (s.startHold i).faultRecord = s.faultRecord := rfl
@[simp] theorem State.startHold_faultCount (s : State) (i : StationId) :
    (s.startHold i).faultCount = s.faultCount := rfl
@[simp] theorem State.startHold_held (s : State) (i : StationId) :
    (s.startHold i).held = s.held := rfl
@[simp] theorem State.startHold_pending (s : State) (i : StationId) :
    (s.startHold i).pending = s.pending := rfl
@[simp] theorem State.startHold_link (s : State) (i : StationId) (m : LinkId) :
    (s.startHold i).link m = s.link m := by
  simp [State.link]
@[simp] theorem State.startHold_port (s : State) (i : StationId) (q : PortId) :
    (s.startHold i).port q = s.port q := by
  cases q <;> simp [State.port]
@[simp] theorem State.startHold_partTime (s : State) (i : StationId) :
    (s.startHold i).partTime = s.partTime := by
  simp [State.partTime]

@[simp] theorem State.invalidateExpectation_timebase (s : State) (i : StationId) :
    (s.invalidateExpectation i).timebase = s.timebase := rfl
@[simp] theorem State.invalidateExpectation_links (s : State) (i : StationId) :
    (s.invalidateExpectation i).links = s.links := rfl
@[simp] theorem State.invalidateExpectation_reservations (s : State) (i : StationId) :
    (s.invalidateExpectation i).reservations = s.reservations := rfl
@[simp] theorem State.invalidateExpectation_assembler (s : State) (i : StationId) :
    (s.invalidateExpectation i).assembler = s.assembler := rfl
@[simp] theorem State.invalidateExpectation_store (s : State) (i : StationId) :
    (s.invalidateExpectation i).store = s.store := rfl
@[simp] theorem State.invalidateExpectation_mp0 (s : State) (i : StationId) :
    (s.invalidateExpectation i).mp0 = s.mp0 := rfl
@[simp] theorem State.invalidateExpectation_mp1 (s : State) (i : StationId) :
    (s.invalidateExpectation i).mp1 = s.mp1 := rfl
@[simp] theorem State.invalidateExpectation_faultRecord (s : State) (i : StationId) :
    (s.invalidateExpectation i).faultRecord = s.faultRecord := rfl
@[simp] theorem State.invalidateExpectation_faultCount (s : State) (i : StationId) :
    (s.invalidateExpectation i).faultCount = s.faultCount := rfl
@[simp] theorem State.invalidateExpectation_held (s : State) (i : StationId) :
    (s.invalidateExpectation i).held = s.held := rfl
@[simp] theorem State.invalidateExpectation_pending (s : State) (i : StationId) :
    (s.invalidateExpectation i).pending = s.pending := rfl
@[simp] theorem State.invalidateExpectation_link (s : State) (i : StationId) (m : LinkId) :
    (s.invalidateExpectation i).link m = s.link m := by
  simp [State.link]
@[simp] theorem State.invalidateExpectation_port (s : State) (i : StationId) (q : PortId) :
    (s.invalidateExpectation i).port q = s.port q := by
  cases q <;> simp [State.port]
@[simp] theorem State.invalidateExpectation_partTime (s : State) (i : StationId) :
    (s.invalidateExpectation i).partTime = s.partTime := by
  simp [State.partTime]

/-! ## Reading back what was written -/

@[simp] theorem State.setStation_self (s : State) (i : StationId) (x : Station) :
    (s.setStation i x).station i = x := by
  simp [State.station, State.setStation]

theorem State.setStation_ne (s : State) {i j : StationId} (x : Station) (h : i ≠ j) :
    (s.setStation i x).station j = s.station j := by
  have : i.val ≠ j.val := fun e => h (Fin.ext e)
  simp [State.station, State.setStation, this]

/-- Reading any station after one is put. -/
theorem State.station_setStation (s : State) (i j : StationId) (x : Station) :
    (s.setStation i x).station j = if i = j then x else s.station j := by
  split
  · rename_i h; subst h; simp
  · rename_i h; exact s.setStation_ne x h

@[simp] theorem State.modStation_self (s : State) (i : StationId) (f : Station → Station) :
    (s.modStation i f).station i = f (s.station i) := s.setStation_self i _

theorem State.modStation_ne (s : State) {i j : StationId} (f : Station → Station) (h : i ≠ j) :
    (s.modStation i f).station j = s.station j := s.setStation_ne _ h

theorem State.station_modStation (s : State) (i j : StationId) (f : Station → Station) :
    (s.modStation i f).station j = if i = j then f (s.station i) else s.station j :=
  s.station_setStation i j _

@[simp] theorem State.setStation_setStation (s : State) (i : StationId) (x y : Station) :
    (s.setStation i x).setStation i y = s.setStation i y := by
  simp [State.setStation]

@[simp] theorem State.modStation_modStation (s : State) (i : StationId) (f g : Station → Station) :
    (s.modStation i f).modStation i g = s.modStation i fun x => g (f x) := by
  simp [State.modStation]

@[simp] theorem State.setLink_self (s : State) (l : LinkId) (x : Link) :
    (s.setLink l x).link l = x := by
  simp [State.link, State.setLink]

theorem State.setLink_ne (s : State) {l m : LinkId} (x : Link) (h : l ≠ m) :
    (s.setLink l x).link m = s.link m := by
  have : l.val ≠ m.val := fun e => h (Fin.ext e)
  simp [State.link, State.setLink, this]

/-- Reading any link after one is put. -/
theorem State.link_setLink (s : State) (l m : LinkId) (x : Link) :
    (s.setLink l x).link m = if l = m then x else s.link m := by
  split
  · rename_i h; subst h; simp
  · rename_i h; exact s.setLink_ne x h

@[simp] theorem State.modLink_self (s : State) (l : LinkId) (f : Link → Link) :
    (s.modLink l f).link l = f (s.link l) := s.setLink_self l _

theorem State.modLink_ne (s : State) {l m : LinkId} (f : Link → Link) (h : l ≠ m) :
    (s.modLink l f).link m = s.link m := s.setLink_ne _ h

theorem State.link_modLink (s : State) (l m : LinkId) (f : Link → Link) :
    (s.modLink l f).link m = if l = m then f (s.link l) else s.link m :=
  s.link_setLink l m _

@[simp] theorem State.modLink_modLink (s : State) (l : LinkId) (f g : Link → Link) :
    (s.modLink l f).modLink l g = s.modLink l fun x => g (f x) := by
  simp [State.modLink, State.setLink, State.link]

@[simp] theorem State.modPort_self (s : State) (p : PortId) (f : Port → Port) :
    (s.modPort p f).port p = f (s.port p) := by
  cases p <;> rfl

theorem State.modPort_ne (s : State) {p q : PortId} (f : Port → Port) (h : p ≠ q) :
    (s.modPort p f).port q = s.port q := by
  cases p <;> cases q <;> first | rfl | exact absurd rfl h

@[simp] theorem State.modPort_modPort (s : State) (p : PortId) (f g : Port → Port) :
    (s.modPort p f).modPort p g = s.modPort p fun x => g (f x) := by
  cases p <;> rfl

@[simp] theorem Timebase.setRef_self (t : Timebase) (r : RefId) (x : Reference) :
    (t.setRef r x).ref r = x := by
  cases r <;> rfl

theorem Timebase.setRef_ne (t : Timebase) {r q : RefId} (x : Reference) (h : r ≠ q) :
    (t.setRef r x).ref q = t.ref q := by
  cases r <;> cases q <;> first | rfl | exact absurd rfl h

@[simp] theorem State.modRef_self (s : State) (r : RefId) (f : Reference → Reference) :
    (s.modRef r f).timebase.ref r = f (s.timebase.ref r) := Timebase.setRef_self _ _ _

@[simp] theorem State.setReservation_self (s : State) (i : StationId) (x : Option Reservation) :
    (s.setReservation i x).reservation i = x := by
  simp [State.reservation, State.setReservation]

/-- The station counters after a count. -/
@[simp] theorem State.count_self (s : State) (i : StationId) (f : StationCounters → StationCounters) :
    (s.count i f).station i =
      { s.station i with counters := f (s.station i).counters } := s.modStation_self i _

@[simp] theorem State.modTracker_self (s : State) (i : StationId) (f : Tracker → Tracker) :
    (s.modTracker i f).station i =
      { s.station i with tracker := f (s.station i).tracker } := s.modStation_self i _

@[simp] theorem State.countLink_self (s : State) (l : LinkId) (f : LinkCounters → LinkCounters) :
    (s.countLink l f).link l = { s.link l with counters := f (s.link l).counters } := s.modLink_self l _

@[simp] theorem State.advance_oscNs (s : State) (dt : Nat) :
    (s.advance dt).timebase.oscNs = s.timebase.oscNs + dt := rfl

@[simp] theorem State.advance_hubState (s : State) (dt : Nat) :
    (s.advance dt).timebase.hubState = s.timebase.hubState := rfl

@[simp] theorem State.advance_grid (s : State) (dt : Nat) :
    (s.advance dt).timebase.grid = s.timebase.grid := rfl

@[simp] theorem State.advance_selection (s : State) (dt : Nat) :
    (s.advance dt).timebase.selection = s.timebase.selection := rfl

@[simp] theorem State.advance_ref (s : State) (dt : Nat) (r : RefId) :
    (s.advance dt).timebase.ref r = s.timebase.ref r := by
  cases r <;> rfl

@[simp] theorem State.raise_port_reply (s : State) (k : NoticeKind) (p : PortId) :
    ((s.raise k).port p).reply = (s.port p).reply := by
  cases p <;> rfl

@[simp] theorem State.raise_port_buffer (s : State) (k : NoticeKind) (p : PortId) :
    ((s.raise k).port p).buffer = (s.port p).buffer := by
  cases p <;> rfl

@[simp] theorem State.raise_port_line (s : State) (k : NoticeKind) (p : PortId) :
    ((s.raise k).port p).line = (s.port p).line := by
  cases p <;> rfl

@[simp] theorem State.raise_port_role (s : State) (k : NoticeKind) (p : PortId) :
    ((s.raise k).port p).role = (s.port p).role := by
  cases p <;> rfl

/-! ## Events -/

/-- A command on a part that is not held takes effect as one whole event. -/
theorem State.event_eq (s : State) (dt : Nat) (body : State → State) (h : s.held = false) :
    s.event dt body = .next (body (s.advance dt)).endEvent := by
  simp [State.event, h]

/-- A command on a part held in reset has no effect. -/
theorem State.event_held (s : State) (dt : Nat) (body : State → State) (h : s.held = true) :
    s.event dt body = .next s := by
  simp [State.event, h]

/-- Every event answers a next state. -/
theorem State.event_next (s : State) (dt : Nat) (body : State → State) :
    ∃ t, s.event dt body = .next t := by
  unfold State.event; split <;> exact ⟨_, rfl⟩

/-- What the end of an event does to a port: it is the choice of a free line (R184). -/
@[simp] theorem State.endEvent_port (s : State) (p : PortId) :
    s.endEvent.port p = (s.port p).choose s.partTime := by
  cases p <;> rfl

end Sys2Proof.Machine
end

