-- ==== Sys2Proof/Laws/Frames.lean ====
section
/-! SUPPORT. What the shared operations of assembly, placement and tracking may change, said once for each: every
part of State that a frame does not name is as it was. -/

namespace Sys2Proof.Machine

/-! ## Assembly: epochs, the store, notices and forced-free counts -/

/-- Only the assembler, the store, and the notice sets and forced-free counts of the ports differ. -/
structure AssemblyFrame (s t : State) : Prop where
  timebase : t.timebase = s.timebase
  links : t.links = s.links
  stations : t.stations = s.stations
  reservations : t.reservations = s.reservations
  faultRecord : t.faultRecord = s.faultRecord
  faultCount : t.faultCount = s.faultCount
  held : t.held = s.held
  pending : t.pending = s.pending
  port : ∀ p, ∃ n k, t.port p = { s.port p with notices := n, forcedFrees := k }

theorem AssemblyFrame.refl (s : State) : AssemblyFrame s s :=
  ⟨rfl, rfl, rfl, rfl, rfl, rfl, rfl, rfl, fun _ => ⟨_, _, rfl⟩⟩

theorem AssemblyFrame.trans {s t u : State} (h : AssemblyFrame s t) (k : AssemblyFrame t u) :
    AssemblyFrame s u := by
  refine ⟨k.timebase.trans h.timebase, k.links.trans h.links, k.stations.trans h.stations,
    k.reservations.trans h.reservations, k.faultRecord.trans h.faultRecord,
    k.faultCount.trans h.faultCount, k.held.trans h.held, k.pending.trans h.pending, fun p => ?_⟩
  obtain ⟨n, a, hn⟩ := h.port p
  obtain ⟨m, b, hm⟩ := k.port p
  exact ⟨m, b, by rw [hm, hn]⟩

theorem AssemblyFrame.foldl {α : Type} {f : State → α → State} (h : ∀ s x, AssemblyFrame s (f s x)) :
    ∀ (l : List α) (s : State), AssemblyFrame s (l.foldl f s)
  | [], s => .refl s
  | x :: xs, s => (h s x).trans (AssemblyFrame.foldl h xs (f s x))

theorem AssemblyFrame.ite {s t u : State} {c : Prop} [Decidable c] (h : AssemblyFrame s t)
    (k : AssemblyFrame s u) : AssemblyFrame s (if c then t else u) := by
  split
  · exact h
  · exact k

theorem State.modAssembler_frame (s : State) (f : Assembler → Assembler) :
    AssemblyFrame s (s.modAssembler f) :=
  ⟨rfl, rfl, rfl, rfl, rfl, rfl, rfl, rfl, fun p => by cases p <;> exact ⟨_, _, rfl⟩⟩

theorem State.modStore_frame (s : State) (f : Store → Store) : AssemblyFrame s (s.modStore f) :=
  ⟨rfl, rfl, rfl, rfl, rfl, rfl, rfl, rfl, fun p => by cases p <;> exact ⟨_, _, rfl⟩⟩

theorem State.raise_frame (s : State) (k : NoticeKind) : AssemblyFrame s (s.raise k) :=
  ⟨rfl, rfl, rfl, rfl, rfl, rfl, rfl, rfl, fun p => by cases p <;> exact ⟨_, _, rfl⟩⟩

theorem State.raiseIf_frame (s : State) (b : Bool) (k : NoticeKind) : AssemblyFrame s (s.raiseIf b k) := by
  cases b
  · exact .refl s
  · exact s.raise_frame k

/-- Freeing an epoch (R161, R171). -/
theorem State.freeEpoch_frame (s : State) (n : Nat) : AssemblyFrame s (s.freeEpoch n) := by
  unfold State.freeEpoch
  split
  · exact .refl s
  · exact ⟨rfl, rfl, rfl, rfl, rfl, rfl, rfl, rfl, fun p => by cases p <;> exact ⟨_, _, rfl⟩⟩

/-- A forced free (R175). -/
theorem State.forceFree_frame (s : State) (n : Nat) : AssemblyFrame s (s.forceFree n) := by
  unfold State.forceFree
  split
  · exact .refl s
  · refine .trans (.trans (.trans ?_ (State.freeEpoch_frame _ n)) (State.modStore_frame _ _))
      (State.raise_frame _ _)
    refine ⟨rfl, rfl, rfl, rfl, rfl, rfl, rfl, rfl, fun p => ?_⟩
    cases p <;> (simp only [State.port, Port.countForced]; split <;> exact ⟨_, _, rfl⟩)

theorem State.evict_frame (s : State) (n : Nat) : AssemblyFrame s (s.evict n) :=
  (s.forceFree_frame n).trans (State.modAssembler_frame _ _)

theorem State.forceForSlots_frame : ∀ (fuel : Nat) (s : State), AssemblyFrame s (s.forceForSlots fuel)
  | 0, s => .refl s
  | fuel + 1, s => by
    unfold State.forceForSlots
    split
    · split
      · exact (s.forceFree_frame _).trans (State.forceForSlots_frame fuel _)
      · exact .refl s
    · exact .refl s

/-- The policy for slots (R173). -/
theorem State.slotPolicy_frame (s : State) : AssemblyFrame s s.slotPolicy := s.forceForSlots_frame _

/-- The closing of an epoch (R159). -/
theorem State.closeEpoch_frame (c : EpochState) (s : State) (n : Nat) :
    AssemblyFrame s (s.closeEpoch c n) := by
  unfold State.closeEpoch
  split
  · exact .refl s
  · split
    · exact .refl s
    · have h : AssemblyFrame s (((s.modEpoch n fun x => { x with state := c }).modAssembler
          fun a => a.countClose c).raise .epoch) :=
        ((s.modAssembler_frame _).trans (State.modAssembler_frame _ _)).trans (State.raise_frame _ _)
      have k := h.trans (State.freeEpoch_frame _ n)
      exact .ite (.ite k h) ((AssemblyFrame.ite k h).trans (State.slotPolicy_frame _))

/-- The evaluation of completion (R157). -/
theorem State.evalCompletion_frame (s : State) : AssemblyFrame s s.evalCompletion := by
  unfold State.evalCompletion
  split
  · exact .refl s
  · exact .foldl (State.closeEpoch_frame _) _ s

/-- The closing by deadline (R158). -/
theorem State.closeDeadlines_frame (s : State) : AssemblyFrame s s.closeDeadlines := by
  unfold State.closeDeadlines
  split
  · exact .refl s
  · split
    · exact .refl s
    · exact .foldl (State.closeEpoch_frame _) _ s

theorem State.removeExpected_frame (s : State) (x : StationSet) : AssemblyFrame s (s.removeExpected x) :=
  s.modAssembler_frame _

theorem State.freeReleased_frame (s : State) : AssemblyFrame s s.freeReleased :=
  .foldl State.freeEpoch_frame _ s

theorem State.leaveWaiting_frame (s : State) (l : LinkId) : AssemblyFrame s (s.leaveWaiting l) :=
  s.modStore_frame _

theorem State.freeSlot_frame (s : State) (k : Nat) : AssemblyFrame s (s.freeSlot k) := s.modStore_frame _

theorem State.freeSlots_frame (s : State) (ks : List Nat) : AssemblyFrame s (s.freeSlots ks) :=
  .foldl State.freeSlot_frame ks s

theorem State.modSlot_frame (s : State) (k : Nat) (f : Slot → Slot) : AssemblyFrame s (s.modSlot k f) :=
  s.modStore_frame _

theorem State.createEpoch_frame (s : State) (n : Nat) : AssemblyFrame s (s.createEpoch n) :=
  s.modAssembler_frame _

theorem State.forceForPool_frame (p : Plan) :
    ∀ (fuel : Nat) (s : State), AssemblyFrame s (s.forceForPool p fuel)
  | 0, s => .refl s
  | fuel + 1, s => by
    unfold State.forceForPool
    split
    · split
      · exact (s.forceFree_frame _).trans (State.forceForPool_frame p fuel _)
      · exact .refl s
    · exact .refl s

/-- The settling of a plan (R151, R174). -/
theorem State.settlePlan_frame (g : Grid) (run : List Nat) :
    ∀ (fuel : Nat) (s : State), AssemblyFrame s (s.settlePlan g run fuel).2
  | 0, s => .refl s
  | fuel + 1, s => by
    unfold State.settlePlan
    dsimp only
    split
    · split
      · exact (State.forceForPool_frame _ _ s).trans (State.settlePlan_frame g run fuel _)
      · exact .refl s
    · exact .refl s

/-! ## Tracking: one station's counters, tracking and expectation besides -/

/-- As an assembly frame, but that station i's counters, tracking and expectation may differ too. -/
structure TrackingFrame (i : StationId) (s t : State) : Prop where
  timebase : t.timebase = s.timebase
  links : t.links = s.links
  others : ∀ j, j ≠ i → t.station j = s.station j
  own : ∃ c k e, t.station i = { s.station i with counters := c, tracker := k, expectation := e }
  reservations : t.reservations = s.reservations
  faultRecord : t.faultRecord = s.faultRecord
  faultCount : t.faultCount = s.faultCount
  held : t.held = s.held
  pending : t.pending = s.pending
  port : ∀ p, ∃ n k, t.port p = { s.port p with notices := n, forcedFrees := k }

theorem AssemblyFrame.tracking {s t : State} (h : AssemblyFrame s t) (i : StationId) :
    TrackingFrame i s t := by
  have e (j : StationId) : t.station j = s.station j := by simp [State.station, h.stations]
  exact ⟨h.timebase, h.links, fun j _ => e j, ⟨_, _, _, e i⟩, h.reservations, h.faultRecord,
    h.faultCount, h.held, h.pending, h.port⟩

theorem TrackingFrame.refl (i : StationId) (s : State) : TrackingFrame i s s :=
  (AssemblyFrame.refl s).tracking i

theorem TrackingFrame.trans {i : StationId} {s t u : State} (h : TrackingFrame i s t)
    (k : TrackingFrame i t u) : TrackingFrame i s u := by
  refine ⟨k.timebase.trans h.timebase, k.links.trans h.links,
    fun j hj => (k.others j hj).trans (h.others j hj), ?_, k.reservations.trans h.reservations,
    k.faultRecord.trans h.faultRecord, k.faultCount.trans h.faultCount, k.held.trans h.held,
    k.pending.trans h.pending, fun p => ?_⟩
  · obtain ⟨c, a, e, hs⟩ := h.own
    obtain ⟨c', a', e', ht⟩ := k.own
    exact ⟨c', a', e', by rw [ht, hs]⟩
  · obtain ⟨n, a, hn⟩ := h.port p
    obtain ⟨m, b, hm⟩ := k.port p
    exact ⟨m, b, by rw [hm, hn]⟩

/-- A change of station i that keeps all but its counters, tracking and expectation. -/
theorem State.modStation_tracking (s : State) (i : StationId) (f : Station → Station)
    (h : ∃ c k e, f (s.station i) = { s.station i with counters := c, tracker := k, expectation := e }) :
    TrackingFrame i s (s.modStation i f) :=
  ⟨rfl, rfl, fun _ hj => s.modStation_ne f (Ne.symm hj), by simpa using h, rfl, rfl, rfl, rfl, rfl,
    fun p => by cases p <;> exact ⟨_, _, rfl⟩⟩

theorem State.count_tracking (s : State) (i : StationId) (f : StationCounters → StationCounters) :
    TrackingFrame i s (s.count i f) := s.modStation_tracking i _ ⟨_, _, _, rfl⟩

theorem State.modTracker_tracking (s : State) (i : StationId) (f : Tracker → Tracker) :
    TrackingFrame i s (s.modTracker i f) := s.modStation_tracking i _ ⟨_, _, _, rfl⟩

theorem TrackingFrame.foldl {α : Type} {i : StationId} {f : State → α → State}
    (h : ∀ s x, TrackingFrame i s (f s x)) :
    ∀ (l : List α) (s : State), TrackingFrame i s (l.foldl f s)
  | [], s => .refl i s
  | x :: xs, s => (h s x).trans (TrackingFrame.foldl h xs (f s x))

theorem State.enter_tracking (g : Grid) (period slot : Nat) (r : Record) (t : Timing) (s : State)
    (n : Nat) : TrackingFrame r.station s (s.enter g period slot r t n) := by
  unfold State.enter
  split
  · exact .refl _ s
  · dsimp only
    split
    · exact (((((s.modAssembler_frame _).trans (State.modStore_frame _ _)).trans
        (State.modAssembler_frame _ _)).tracking r.station).trans (State.count_tracking _ _ _)).trans
          ((State.raise_frame _ _).tracking _)
    · exact ((s.modAssembler_frame _).trans (State.modStore_frame _ _)).tracking _

theorem State.carryOut_tracking (g : Grid) (period slot : Nat) (r : Record) (t : Timing) (p : Plan)
    (s : State) : TrackingFrame r.station s (s.carryOut g period slot r t p) := by
  have h1 := (AssemblyFrame.foldl State.evict_frame p.evictions s).trans
    (AssemblyFrame.foldl State.createEpoch_frame p.creations _)
  have h2 := (h1.tracking r.station).trans
    (TrackingFrame.foldl (State.enter_tracking g period slot r t) p.entries _)
  have h3 := h2.trans (State.count_tracking _ r.station
    fun y => { y with tooLate := bumpBy y.tooLate p.tooLate })
  unfold State.carryOut
  dsimp only
  split
  · exact h3.trans ((State.freeSlot_frame _ _).tracking _)
  · exact h3.trans ((State.modSlot_frame _ _ _).tracking _)

theorem State.dropExhausted_tracking (s : State) (slot : Nat) (i : StationId) :
    TrackingFrame i s (s.dropExhausted slot i) :=
  (s.count_tracking i _).trans
    ((((State.modStore_frame _ _).trans (State.freeSlot_frame _ _)).trans (State.raise_frame _ _)).tracking i)

/-- A placement (R152). -/
theorem State.place_tracking (g : Grid) (period slot : Nat) (r : Record) (t : Timing) (s : State) :
    TrackingFrame r.station s (s.place g period slot r t) := by
  refine .trans ?_ ((State.evalCompletion_frame _).tracking _)
  unfold State.placeRecord
  dsimp only
  split
  · exact (s.count_tracking _ _).trans ((State.freeSlot_frame _ _).tracking _)
  · split
    · exact (s.count_tracking _ _).trans ((State.freeSlot_frame _ _).tracking _)
    · have h := State.settlePlan_frame g
        (List.range' (g.epochAt t.start).toNat
          (g.epochAt (t.start + duration period t.rho (r.n - 1)) - g.epochAt t.start + 1).toNat)
        (s.assembler.table.length + 1) s
      split
      · rename_i he
        rw [he] at h
        exact (h.tracking _).trans (State.carryOut_tracking _ _ _ _ _ _ _)
      · rename_i he
        rw [he] at h
        exact (h.tracking _).trans (State.dropExhausted_tracking _ _ _)

end Sys2Proof.Machine
end

