-- ==== Sys2Proof/Laws/Requests.lean ====
section
/-! SUPPORT. What a request row does, said once: an idle port answers it with its owner's answer, and the state in
which it is taken differs from the one before only in time and at its own port. -/

namespace Sys2Proof.Machine

@[simp] theorem State.requested_timebase (s : State) (dt : Nat) (p : PortId) :
    (s.requested dt p).timebase = (s.advance dt).timebase := by simp [State.requested]

@[simp] theorem State.requested_links (s : State) (dt : Nat) (p : PortId) :
    (s.requested dt p).links = s.links := by simp [State.requested]

@[simp] theorem State.requested_stations (s : State) (dt : Nat) (p : PortId) :
    (s.requested dt p).stations = s.stations := by simp [State.requested]

@[simp] theorem State.requested_reservations (s : State) (dt : Nat) (p : PortId) :
    (s.requested dt p).reservations = s.reservations := by simp [State.requested]

@[simp] theorem State.requested_assembler (s : State) (dt : Nat) (p : PortId) :
    (s.requested dt p).assembler = s.assembler := by simp [State.requested]

@[simp] theorem State.requested_store (s : State) (dt : Nat) (p : PortId) :
    (s.requested dt p).store = s.store := by simp [State.requested]

@[simp] theorem State.requested_faultRecord (s : State) (dt : Nat) (p : PortId) :
    (s.requested dt p).faultRecord = s.faultRecord := by simp [State.requested]

@[simp] theorem State.requested_faultCount (s : State) (dt : Nat) (p : PortId) :
    (s.requested dt p).faultCount = s.faultCount := by simp [State.requested]

@[simp] theorem State.requested_held (s : State) (dt : Nat) (p : PortId) :
    (s.requested dt p).held = s.held := by simp [State.requested]

@[simp] theorem State.requested_pending (s : State) (dt : Nat) (p : PortId) :
    (s.requested dt p).pending = s.pending := by simp [State.requested]

@[simp] theorem State.requested_port (s : State) (dt : Nat) (p : PortId) :
    (s.requested dt p).port p =
      { s.port p with receiver := .hunting false, accepted := bump (s.port p).accepted } := by
  cases p <;> rfl

theorem State.requested_port_ne (s : State) (dt : Nat) {p q : PortId} (h : q ≠ p) :
    (s.requested dt p).port q = s.port q := by
  cases p <;> cases q <;> first | exact absurd rfl h | rfl

@[simp] theorem State.requested_station (s : State) (dt : Nat) (p : PortId) (i : StationId) :
    (s.requested dt p).station i = s.station i := by simp [State.station]

@[simp] theorem State.requested_link (s : State) (dt : Nat) (p : PortId) (l : LinkId) :
    (s.requested dt p).link l = s.link l := by simp [State.link]

@[simp] theorem State.requested_reservation (s : State) (dt : Nat) (p : PortId) (i : StationId) :
    (s.requested dt p).reservation i = s.reservation i := by simp [State.reservation]

/-- A request row at a port that takes it: the owner's answer on the state in which it is taken becomes the
pending reply (R180 to R183). -/
theorem State.event_taken {s : State} {p : PortId} (dt : Nat) (tag : BitVec 16) (r : Request)
    (h : s.takesAt p) :
    s.event dt (State.requestArrives p tag r) =
      .next (((s.requested dt p).serve p r).1.answered p (requestKind r) tag
        ((s.requested dt p).serve p r).2) := by
  obtain ⟨hh, hr, hb⟩ := h
  simp only [State.event, hh, Bool.false_eq_true, if_false]
  have e : (((s.advance dt).modPort p fun x => { x with receiver := .hunting false }).port p).idle = true := by
    cases p <;> simp_all [Port.idle, State.port, State.modPort, State.advance, State.modTimebase]
  simp only [State.requestArrives, e, if_true]
  have f : (((s.advance dt).modPort p fun x => { x with receiver := .hunting false }).modPort p
      fun x => { x with accepted := bump x.accepted }) = s.requested dt p := by cases p <;> rfl
  rw [f]
  rfl

/-- A request that its port's role allows is answered by its owner (R182, R189). -/
theorem State.serve_allowed {s : State} {p : PortId} {r : Request}
    (h : Request.controlOnly r = false ∨ (s.port p).role = .control) : s.serve p r = s.answer p r := by
  unfold State.serve
  rcases h with h | h <;> simp [h]

/-- Every station number is read back from its byte. -/
@[simp] theorem stationOf_stationByte (i : StationId) : stationOf (stationByte i) = some i := by
  obtain ⟨v, h⟩ := i
  have : v % 256 < 48 := by omega
  simp [stationOf, stationByte, Nat.mod_eq_of_lt (show v < 256 by omega), h]

/-- A byte above 47 names no station (R48). -/
theorem stationOf_above {b : Byte} (h : 47 < b) : stationOf b = none := by
  have : ¬ b.toNat < 48 := by
    have := (BitVec.lt_def).mp h; simp at this; omega
  simp [stationOf, this]

/-- Every link number is read back from its byte. -/
@[simp] theorem linkOf_linkByte (l : LinkId) : linkOf (linkByte l) = some l := by
  obtain ⟨v, h⟩ := l
  have : v % 256 < 6 := by omega
  simp [linkOf, linkByte, Nat.mod_eq_of_lt (show v < 256 by omega), h]

/-- A byte above 5 names no link (R195). -/
theorem linkOf_above {b : Byte} (h : 5 < b) : linkOf b = none := by
  have : ¬ b.toNat < 6 := by
    have := (BitVec.lt_def).mp h; simp at this; omega
  simp [linkOf, this]

end Sys2Proof.Machine
end

