-- ==== Sys2Proof/Laws/Updates.lean ====
section
/-! SUPPORT. Each change to a station or a link as one whole put, so that a chain of changes to one of them is a
single put; and a put of what stands there already. -/

namespace Sys2Proof.Machine

theorem State.modStation_eq (s : State) (i : StationId) (f : Station → Station) :
    s.modStation i f = s.setStation i (f (s.station i)) := rfl

theorem State.count_eq (s : State) (i : StationId) (f : StationCounters → StationCounters) :
    s.count i f = s.setStation i { s.station i with counters := f (s.station i).counters } := rfl

theorem State.modTracker_eq (s : State) (i : StationId) (f : Tracker → Tracker) :
    s.modTracker i f = s.setStation i { s.station i with tracker := f (s.station i).tracker } := rfl

@[simp] theorem State.setStation_station (s : State) (i : StationId) : s.setStation i (s.station i) = s := by
  simp [State.setStation, State.station]

theorem State.modLink_eq (s : State) (l : LinkId) (f : Link → Link) :
    s.modLink l f = s.setLink l (f (s.link l)) := rfl

theorem State.countLink_eq (s : State) (l : LinkId) (f : LinkCounters → LinkCounters) :
    s.countLink l f = s.setLink l { s.link l with counters := f (s.link l).counters } := rfl

@[simp] theorem State.setLink_setLink (s : State) (l : LinkId) (x y : Link) :
    (s.setLink l x).setLink l y = s.setLink l y := by simp [State.setLink]

@[simp] theorem State.setLink_link (s : State) (l : LinkId) : s.setLink l (s.link l) = s := by
  simp [State.setLink, State.link]

/-- Changes to a station and to a link do not meet. -/
theorem State.setStation_setLink (s : State) (i : StationId) (x : Station) (l : LinkId) (y : Link) :
    (s.setStation i x).setLink l y = (s.setLink l y).setStation i x := rfl

end Sys2Proof.Machine
end

