-- ==== Sys2Proof/Tests/Slice0.lean ====
section
/-! SUPPORT. Tests: ill-formed commands refused, worked values of the spec, and for every statement with hypotheses
a state and operands that meet them. -/

namespace Sys2Proof.Tests

open Sys2Proof Sys2Proof.Machine

-- One theorem at a time: many evaluations at once would each hold a thread's stack.
set_option Elab.async false

/-! ## States built for the tests -/

/-- A part after power-on with two control ports. -/
def on : State := State.powerOn true

/-- A part after power-on whose MP1 is an observe port. -/
def watched : State := State.powerOn false

/-- A station bound to link 1, address 0x21, 100 samples a second, three components. -/
def bound : Station :=
  { Station.initial with binding := some { link := 1, address := 0x21, rate := .r100, components := 3 } }

/-- The same station enabled. -/
def live : Station := { bound with enabled := true }

/-- Station 5 enabled and link 1 UP. -/
def rig : State := (on.setStation 5 live).setLink 1 { Link.initial with state := .up }

/-- The rig with station 5 as given. -/
def withStation (x : Station) : State := rig.setStation 5 x

/-- The rig with link 1 as given. -/
def withLink (f : Link → Link) : State := rig.modLink 1 f

/-- The rig with one entry at the head of link 1's queue. -/
def withHead (e : Entry) : State := withLink fun x => { x with queue := [e] }

/-- A one-sample record of station 5. -/
def record (seq : Seq) : Record :=
  { station := 5, seq := seq, kFirst := 1000000, n := 1, components := 3, payload := List.replicate 9 0 }

/-- The state that a command answers, or the state before it. -/
def after (c : Instr) (s : State) : State :=
  match exec c s with
  | .next t => t
  | .fault _ => s
  | .refused _ => s

/-- A STATION_CONFIG that carries no setting. -/
def noSettings : SettingFields :=
  { source := none, depth := none, acqShift := none, trackShift := none, accept := none, outlierLimit := none,
    tearTolerance := none, holdTime := none, backfill := none, attempts := none, responseTimeout := none,
    probeInterval := none, maxRtt := none, silence := none, holdover := none, calibration := none }

/-- A grid of 10 s epochs. -/
def grid : Grid := { e := 10, o := 0, l := 30 }

/-- An epoch of the grid. -/
def epoch (n : Nat) (state : EpochState) (needed : PortSet) : Epoch :=
  { number := n, state := state, amended := false, late := 0, expected := 0, needed := needed
    released := PortSet.none, contributions := [] }

/-- The rig with the grid set and epochs 3 and 4 in the table, one CLOSED and one FORMING. -/
def tabled (needed : PortSet) : State :=
  (rig.modTimebase fun t => { t with grid := some grid }).modAssembler fun a =>
    { a with table := [epoch 3 .closedComplete needed, epoch 4 .forming needed] }

theorem takes_on (p : PortId) : on.takesAt p := by cases p <;> exact ⟨rfl, rfl, rfl⟩
theorem takes_rig (p : PortId) : rig.takesAt p := by cases p <;> exact ⟨rfl, rfl, rfl⟩
theorem takes_withStation (x : Station) (p : PortId) : (withStation x).takesAt p := by
  cases p <;> exact ⟨rfl, rfl, rfl⟩
theorem takes_withLink (f : Link → Link) (p : PortId) : (withLink f).takesAt p := by
  cases p <;> exact ⟨rfl, rfl, rfl⟩
theorem takes_tabled (x : PortSet) (p : PortId) : (tabled x).takesAt p := by
  cases p <;> exact ⟨rfl, rfl, rfl⟩
theorem tabled_sound (x : PortSet) : (tabled x).assembler.sound :=
  ⟨(by decide : 2 ≤ tableSize), List.pairwise_pair.mpr (by decide : 3 < 4)⟩
theorem rig_enabled : ∀ j, (rig.station j).enabled = true → j = 5 := by decide +kernel

/-! ## Well-formed commands -/

theorem test_ill_formed_empty_frame : (Instr.frameComplete 0 .mp0 []).wellFormed = false := by decide
theorem test_ill_formed_empty_length_field :
    (Instr.frameLengthOverLimit 0 .mp0 []).wellFormed = false := by decide
theorem test_ill_formed_open_delimiter_in_burst :
    (Instr.burstOpen 0 1 [0xE6]).wellFormed = false := by decide
theorem test_ill_formed_close_delimiter_in_burst :
    (Instr.burstClose 0 1 [0x00, 0xE7]).wellFormed = false := by decide
theorem test_ill_formed_delimiter_past_limit :
    (Instr.burstByteLimit 0 1 [0xE7]).wellFormed = false := by decide
theorem test_ill_formed_no_byte_past_limit : (Instr.burstByteLimit 0 1 []).wellFormed = false := by decide
theorem test_ill_formed_delimiter_before_fall :
    (Instr.carrierFall 0 1 [0xE6]).wellFormed = false := by decide
theorem test_well_formed_escape_in_burst :
    (Instr.burstClose 0 1 [0xE5, 0xF6]).wellFormed = true := by decide

/-! ## Values worked in the spec -/

/-- Chapter 6, station 21: the first mark point moves K0, T0 to 1,006,000; 86,460,000,012,975 and ρ to +216. -/
theorem test_mark_point_of_station_21 :
    let c : Clock := { Clock.initial with
      state := .locked, anchor := some { k0 := 1000000, t0 := 86400000000000 }, rho := 250, count := 15 }
    let m := c.take StationConfig.initial 4500000 10000000 1006000 86459999998800
    m.accepted = true ∧ m.clock.anchor = some { k0 := 1006000, t0 := 86460000012975 } ∧
      m.clock.rho = 216 ∧ m.clock.count = 16 ∧ m.clock.residual = some (-16200) := by decide +kernel

/-- Chapter 6, station 12: the mark of probe 12 is accepted in ACQUIRING with ρ = −74 and c = 2. -/
theorem test_mark_point_of_station_12 :
    let c : Clock := { Clock.initial with
      state := .acquiring, anchor := some { k0 := 3500123, t0 := 86470070251500 }, count := 1, stages := 1 }
    let m := c.take StationConfig.initial 2135300 20000000 3506873 86605070241500
    m.clock.rho = -74 ∧ m.clock.count = 2 ∧ m.clock.state = .acquiring ∧
      m.clock.anchor = some { k0 := 3506873, t0 := 86605070241500 } ∧
      m.clock.holdoverDue = some 16535300 := by decide +kernel

/-- Chapter 7, record A of station 21: start 86,464,000,014,500 with path flag BREAK, covered to its end. -/
theorem test_record_a_of_station_21 :
    let x : Station := { live with
      config := { StationConfig.initial with calibration := 1500 }
      clock := { Clock.initial with
        state := .locked, anchor := some { k0 := 1000000, t0 := 86400000000000 }, rho := 250 } }
    x.time .main { record 4001 with kFirst := 1006400, n := 100 } =
      .timed { start := 86464000014500, path := .broke, discontinuity := false, tear := false }
        { start := 86464000014500, rho := 250, quality := .qualified, path := .broke } 86465000014750 := by
  decide +kernel

/-- Chapter 7: the fill of seq 3,990 before the anchor starts at 86,448,999,949,099. -/
theorem test_fill_before_the_anchor :
    let x : Station := { live with
      config := { StationConfig.initial with calibration := 61500 }
      clock := { Clock.initial with
        state := .locked, anchor := some { k0 := 1006000, t0 := 86460000012975 }, rho := 216 } }
    (match x.time .fill { record 3990 with kFirst := 1004900 } with
      | .timed c _ _ => c.start
      | .untimed => 0
      | .beyondSpan => 0) = 86448999949099 := by decide +kernel

/-- Chapter 11, "Reading a burst": the MARK entry of station 21. -/
theorem test_mark_entry_bytes :
    divideEntries 1 [0x02, 0x00, 0x0E, 0x00, 0x00, 0x0F, 0x59, 0xB0, 0x00, 0x00, 0x04, 0xB0, 0x00, 0x01, 0x51,
      0xBC, 0x01] =
      some [{ kind := 2, content := [0x00, 0x00, 0x0F, 0x59, 0xB0, 0x00, 0x00, 0x04, 0xB0, 0x00, 0x01, 0x51, 0xBC,
        0x01] }] ∧
    checkEntry 21 10000000 3 { kind := 2, content := [0x00, 0x00, 0x0F, 0x59, 0xB0, 0x00, 0x00, 0x04, 0xB0, 0x00,
      0x01, 0x51, 0xBC, 0x01] } = .ready (.mark 21 1006000 1200 86460 true) := by decide +kernel

/-- Chapter 11: the three bytes that are stuffed. -/
theorem test_stuffing : stuff [0xE4, 0xE5, 0xE6, 0xE7] = [0xE4, 0xE5, 0xF5, 0xE5, 0xF6, 0xE5, 0xF7] := by decide

/-- The published check value of the generator with preset 0xFFFF, over the digits 1 to 9. -/
theorem test_check_of_digits :
    crc 0xFFFF [0x31, 0x32, 0x33, 0x34, 0x35, 0x36, 0x37, 0x38, 0x39] = 0x29B1 := by decide +kernel

/-- R55: a probe interval of 5 is clamped to 10 and one of 4,000 to 3,600, and 0 stands. -/
theorem test_interval_clamps : [0, 5, 9, 10, 3600, 4000].map clampInterval = [0, 10, 10, 10, 3600, 3600] := by
  decide

/-- R2: halves round away from zero. -/
theorem test_rounding : roundDiv 5 2 = 3 ∧ roundDiv (-5) 2 = -3 ∧ roundDiv (-7) 5 = -1 := by decide

/-- Chapter 1: with E = 10 and O = 0, hub time 86,465 s lies in epoch 8,646. -/
theorem test_epoch_number : grid.epochAt 86465000000000 = 8646 := by decide +kernel

/-- R189: the fault record keeps a station number above 47 as carried. -/
theorem test_fault_record_keeps_station :
    (after (.stationConfig 0 .mp1 9 60 noSettings) watched).faultRecord =
      some { port := .mp1, kind := 0x0E, station := some 60 } := by decide +kernel

/-! ## Witnesses: the queue, the resets and the ports -/

theorem witness_StepRunsTheFrontCommand :
    (on.pending = [] ∧ on.held = false) ∧
      (let s := { on with held := true }; s.pending = [] ∧ s.held = true) := ⟨⟨rfl, rfl⟩, rfl, rfl⟩

theorem witness_ResetInputStopsThePart :
    on.held = false ∧ ({ on with held := true } : State).held = true ∧
      ∀ r, Instr.refPulse 0 .refA ≠ .powerOnReset r := ⟨rfl, rfl, nofun⟩

theorem witness_FrameOnTheLineIsItsRequest :
    Request.row 0 .mp0 7 .gridGet = some (.gridGet 0 .mp0 7) ∧ (on.port .mp0).receiver = .hunting false ∧
      (on.port .mp1).receiver = .hunting false := ⟨rfl, rfl, rfl⟩

/-- Kinds 0 and 0x1F name no request; kind 0x04 has no request with a one-byte body; a body of 1,024 bytes and a
length of 1,025 stand on the two sides of the limit. -/
theorem witness_FramesWithoutARequest :
    on.takesAt .mp0 ∧ (on.port .mp0).receiver = .hunting false ∧ (0x1E : Byte) < 0x1F ∧ (0x1E : Byte) < 0x60 ∧
      ((1 : Byte) ≤ 0x04 ∧ (0x04 : Byte) ≤ 0x1E ∧ ∀ r, requestKind r = 0x04 → requestBody r ≠ [1]) ∧
      (List.replicate 1024 (0 : Byte)).length ≤ 1024 ∧ 1024 < 256 * (4 : Byte).toNat + (1 : Byte).toNat ∧
      (0 : BitVec 16) ≠ crc 0xFFFF ({ kind := 4, tag := 1, body := [] } : Frame).covered ∧
      (let s := on.modPort .mp0 fun x => { x with receiver := .inside [0] 100 };
        (s.port .mp0).receiver = .inside [0] 100 ∧ 100 ≤ (s.advance 100000000).partTime ∧
          (s.advance 99999999).partTime < 100) := by
  refine ⟨takes_on _, rfl, by decide, by decide, ⟨by decide, by decide, ?_⟩, by decide +kernel, by decide,
    by decide +kernel, by decide +kernel⟩
  intro r h
  cases r <;> simp [requestKind] at h
  simp [requestBody]

theorem witness_BusyPortBuffersOrLosesTheRequest :
    let f : Frame := { kind := 4, tag := 0, body := [] }
    let s (n : Nat) : State :=
      on.modPort .mp0 fun x => { x with reply := some f, buffer := List.replicate n f }
    Request.row 0 .mp0 7 .gridGet = some (.gridGet 0 .mp0 7) ∧ (s 3).held = false ∧
      ((s 3).port .mp0).reply ≠ none ∧ ((s 3).port .mp0).buffer.length < 4 ∧
      ((s 4).port .mp0).reply ≠ none ∧ 4 ≤ ((s 4).port .mp0).buffer.length := by decide +kernel

/-- A waiting GRID_GET; PROBE_NOW for station 48 waiting at an observe port; kinds 0 and 0x1F, and a GRID_GET of one
byte. -/
theorem witness_ReplySentTakesTheNextRequest :
    let f : Frame := { kind := 0x84, tag := 0, body := [0x0B] }
    let waiting : Frame := { kind := requestKind .gridGet, tag := 9, body := requestBody .gridGet }
    let s (l : List Frame) : State :=
      on.modPort .mp0 fun x => { x with line := .reply, reply := some f, buffer := l }
    let probe : Frame := { kind := requestKind (.probeNow 48), tag := 9, body := requestBody (.probeNow 48) }
    let w : State := watched.modPort .mp1 fun x => { x with line := .reply, reply := some f, buffer := [probe] }
    ((s []).held = false ∧ ((s []).port .mp0).line = .reply ∧ ((s []).port .mp0).reply = some f ∧
      ¬ (f.kind = 0x82 ∧ f.body = [0]) ∧ ((s []).port .mp0).buffer = [] ∧
      ((s [waiting]).port .mp0).buffer = waiting :: []) ∧
    (w.held = false ∧ (w.port .mp1).line = .reply ∧ (w.port .mp1).buffer = probe :: [] ∧
      requestKind (.probeNow 48) ∈ controlKinds ∧ (w.port .mp1).role = .observe ∧
      requestKind .gridGet ∉ controlKinds ∧ (0x1E : Byte) < 0x1F ∧ (1 : Byte) ≤ 4 ∧ (4 : Byte) ≤ 0x1E) ∧
    ∀ r, requestKind r = 0x04 → requestBody r ≠ [1] := by
  refine ⟨by decide +kernel, by decide +kernel, fun r h => ?_⟩
  cases r <;> simp [requestKind] at h
  simp [requestBody]

theorem witness_PartResetFollowsItsReply :
    (on.takesAt .mp0 ∧ (on.port .mp0).role = .control) ∧
      (∀ role1 : Bool,
        let s := (State.powerOn role1).modPort .mp0 fun x =>
          { x with line := .reply, reply := some { kind := 0x82, tag := 3, body := [0] } }
        s.held = false ∧ (s.port .mp0).line = .reply ∧
          (s.port .mp0).reply = some { kind := 0x82, tag := 3, body := [0] } ∧ s.mp0.role = .control ∧
          s.mp1.role = (if role1 then .control else .observe)) := ⟨⟨takes_on _, rfl⟩, by decide +kernel⟩

theorem witness_NoticeSentFreesTheLine :
    let s (r : Option Frame) (n : BitVec 8) : State :=
      on.modPort .mp1 fun x => { x with line := .notice 2 5, reply := r, notices := n }
    let f : Frame := { kind := 0x84, tag := 0, body := [0x0B] }
    (s none 0).held = false ∧ ((s none 0).port .mp1).line = .notice 2 5 ∧ ((s none 0).port .mp1).notices = 0 ∧
      ((s none 0).port .mp1).reply = none ∧ ((s none 1).port .mp1).notices ≠ 0 ∧
      ((s (some f) 1).port .mp1).reply = some f := by decide +kernel

theorem witness_FreeLineHasNothingToSend :
    exec (.refPulse 0 .refA) on = .next (after (.refPulse 0 .refA) on) ∧
      (after (.refPulse 0 .refA) on).held = false ∧
      ((after (.refPulse 0 .refA) on).port .mp0).line = .free := ⟨rfl, by decide +kernel, by decide +kernel⟩

/-- PROBE_NOW at the observe port for station 48; GRID_GET there; PROBE_NOW at a control port; kind 0x1F. -/
theorem witness_ObserveRequestIsRefused :
    (requestKind (.probeNow 48) ∈ controlKinds ∧ watched.takesAt .mp1 ∧ (watched.port .mp1).role = .observe ∧
      (watched.port .mp1).receiver = .hunting false ∧
      Request.row 0 .mp1 1 (.probeNow 48) = some (.probeNow 0 .mp1 1 48)) ∧
    (Request.row 0 .mp1 1 .gridGet = some (.gridGet 0 .mp1 1) ∧ requestKind .gridGet ∉ controlKinds) ∧
    (watched.takesAt .mp0 ∧ (watched.port .mp0).role = .control ∧ Request.probeNow 48 ≠ .faultClear) ∧
    (∀ r, decodeRequest 0x1F [] ≠ .request r) :=
  have unknown : decodeRequest 0x1F [] = .unknownKind := by decide +kernel
  ⟨⟨by decide, ⟨rfl, rfl, rfl⟩, rfl, rfl, rfl⟩, ⟨rfl, by decide⟩, ⟨⟨rfl, rfl, rfl⟩, rfl, nofun⟩,
    fun r h => nomatch unknown.symm.trans h⟩

theorem witness_NoticeMaskReplacesTheMask :
    on.takesAt .mp0 ∧ watched.takesAt .mp1 ∧
      (∃ b ∈ ([1, 1, 1, 1, 1, 1, 1, 2] : List Byte), b ≠ 0 ∧ b ≠ 1) ∧
      ({ Port.initial .control with mask := 0 }).mask = 0 ∧ (Port.initial .control).notices = 0 :=
  ⟨takes_on _, ⟨rfl, rfl, rfl⟩, by decide, rfl, rfl⟩

theorem witness_NoticePollEmptiesTheSet :
    watched.takesAt .mp1 ∧
      (let x := Port.initial .observe; x.line = .free ∧ x.reply = none ∧ x.notices = 0) ∧
      ({ Port.initial .observe with notices := 0x80 }).notices ≠ 0 := ⟨⟨rfl, rfl, rfl⟩, by decide, by decide⟩

theorem witness_FaultReadAndFaultClear : watched.takesAt .mp1 ∧ on.takesAt .mp0 := ⟨⟨rfl, rfl, rfl⟩, takes_on _⟩

/-! ## Witnesses: the status requests and the timebase -/

/-- A set grid and none, a flag of 2, link 6, station 48 and a disabled station. -/
theorem witness_StatusRequestsReportAndClear :
    (tabled PortSet.none).takesAt .mp0 ∧ (tabled PortSet.none).timebase.grid ≠ none ∧ rig.takesAt .mp0 ∧
      rig.timebase.grid = none ∧ (2 : Byte) ≠ 0 ∧ (2 : Byte) ≠ 1 ∧ (5 : Byte) < 6 ∧ (47 : Byte) < 48 ∧
      (on.station 0).enabled = false := ⟨takes_tabled _ _, nofun, takes_rig _, rfl, by decide⟩

theorem witness_ReportsHaveTheirLayoutLengths :
    (tabled PortSet.none).assembler.sound ∧ (record 0).payload.length ≤ 900 ∧
      (List.replicate 900 (0 : Byte)).length ≤ 900 :=
  ⟨tabled_sound _, by decide +kernel⟩

/-- No grid; station 48; an epoch that is absent; one with a contribution of station 5 at position 0 and none at 1. -/
theorem witness_EpochsAreReadWithoutChange :
    let c := makeContribution grid 3 10000000 7 (record 0)
      { start := 30000000000, rho := 0, quality := .qualified, path := .broke } false
    let e := { epoch 3 .closedComplete PortSet.none with contributions := [c] }
    let s := ((tabled PortSet.none).modAssembler fun a => { a with table := [e] }).modStore fun y =>
      { y with slots := [{ number := 7, record := record 0, timing := none, refs := 1 }] }
    on.takesAt .mp0 ∧ on.timebase.grid = none ∧ s.takesAt .mp0 ∧ s.timebase.grid = some grid ∧
      (47 : Byte) < 48 ∧ (∀ x ∈ s.assembler.table, (x.number : Int) ≠ (4 : BitVec 64).toInt) ∧
      e ∈ s.assembler.table ∧ s.assembler.sound ∧ (e.number : Int) = (3 : BitVec 64).toInt ∧
      (5 : Byte) = stationByte 5 ∧
      (e.contributions.filter fun c => decide (c.station = 5)).length ≤ (1 : BitVec 16).toNat ∧
      (e.contributions.filter fun c => decide (c.station = 5))[(0 : BitVec 16).toNat]? = some c ∧
      s.slot? c.slot = some { number := 7, record := record 0, timing := none, refs := 1 } := by
  refine ⟨takes_on _, rfl, ⟨rfl, rfl, rfl⟩, rfl, by decide, by decide +kernel, List.mem_singleton.mpr rfl,
    ⟨by decide, by decide +kernel⟩, by decide +kernel, by decide, by decide +kernel, by decide +kernel,
    by decide +kernel⟩

theorem witness_GridIsSetOnce :
    rig.takesAt .mp0 ∧ (rig.port .mp0).role = .control ∧ (tabled PortSet.none).timebase.grid ≠ none ∧
      rig.timebase.grid = none ∧ (15 : Byte) ∉ ([1, 2, 5, 10, 20, 30, 60] : List Byte) ∧
      (60 : Byte) ∈ ([1, 2, 5, 10, 20, 30, 60] : List Byte) ∧ (1 : BitVec 7) ≠ 0 :=
  ⟨takes_rig _, rfl, nofun, rfl, by decide⟩

theorem witness_GridGetReportsTheGrid :
    on.takesAt .mp1 ∧ on.timebase.grid = none ∧ (tabled PortSet.none).timebase.grid = some grid ∧
      (tabled PortSet.none).timebase.hubState = .unset ∧
      ((tabled PortSet.none).modTimebase fun t => { t with hubState := .holdover }).timebase.hubState ≠ .unset :=
  ⟨takes_on _, rfl, rfl, rfl, nofun⟩

/-- Reference REFA in a given state, selected. -/
def referred (x : RefState) (hub : HubState) : State :=
  on.modTimebase fun t => { t with
    refA := { t.refA with state := x, run := 63, stages := 0x0F, depth := 64, pendingSecond := some 101
                          lastGood := some 100, lastPulse := 0, window := some 1500 }
    selection := some .refA, hubState := hub }

theorem witness_RefConfigSetsItsTarget :
    on.takesAt .mp0 ∧ (on.port .mp0).role = .control ∧ (on.port .mp0).receiver = .hunting false ∧
      (0 : Byte) ∉ ([1, 2, 3] : List Byte) ∧ (4 : Byte) ∉ ([1, 2, 3] : List Byte) ∧
      (∃ d, some (5 : BitVec 32) = some d ∧ d ∉ ([4, 8, 16, 32, 64] : List (BitVec 32))) ∧
      (let s := referred .usable .referenced;
        (s.timebase.ref .refA).state ≠ .off ∧ s.timebase.selection = some .refA) ∧
      (on.timebase.ref .refB).state = .off ∧
      (2 : Byte) ≠ 0 ∧ (2 : Byte) ≠ 1 ∧
      (let s := (referred .usable .unset).modTimebase fun t => { t with selection := none, autoSelect := false };
        s.timebase.autoSelect = false ∧ s.timebase.refA.state = .usable ∧
          ¬ ∃ r, s.timebase.selection = some r ∧ (s.timebase.ref r).state = .usable) := by
  refine ⟨takes_on _, rfl, rfl, by decide, by decide, ⟨5, rfl, by decide⟩, by decide +kernel, rfl, by decide,
    by decide, rfl, rfl, ?_⟩
  rintro ⟨r, h, -⟩
  exact absurd (show (none : Option RefId) = some r from h) nofun

theorem witness_RefSelectSelects :
    on.takesAt .mp0 ∧ (on.port .mp0).role = .control ∧ (2 : Byte) < 3 ∧
      (on.timebase.ref .refB).state ≠ .usable ∧
      ((referred .usable .referenced).timebase.ref .refA).state = .usable ∧
      on.timebase.hubState ≠ .referenced ∧ (referred .usable .referenced).timebase.hubState = .referenced :=
  ⟨takes_on _, rfl, by decide, nofun, rfl, nofun, rfl⟩

/-- An OFF reference; the two ends of the pulse interval are good, in STABILIZING and in USABLE; no pending second is
not. -/
theorem witness_PulsesMoveTheRun :
    let s := referred .stabilizing .unset
    let x := s.timebase.ref .refA
    let good : Nat → Nat → Prop := fun now second => x.lastGood = some (second - 1) ∧ 1 ≤ second ∧
      999900000 ≤ now - x.lastPulse ∧ now - x.lastPulse ≤ 1000100000
    s.held = false ∧ x.state ≠ .off ∧ x.pendingSecond = some 101 ∧ good 999900000 101 ∧
      good 1000100000 101 ∧ ¬ good 1000100001 101 ∧ ¬ good 999899999 101 ∧
      (on.timebase.ref .refA).state = .off ∧ ((referred .usable .unset).timebase.ref .refA).state = .usable ∧
      ((referred .absent .unset).timebase.ref .refA).state = .absent ∧
      ((referred .fault .unset).timebase.ref .refA).pendingSecond = some 101 ∧
      (on.modRef .refB fun y => { y with state := .absent }).timebase.refB.pendingSecond = none := by
  decide +kernel

/-- A pulse that makes REFA USABLE at its depth; one that leaves a USABLE REFA below a raised depth, and a bad one, with
REFB USABLE and not; a pulse of REFB while REFA is selected. -/
theorem witness_GoodPulseStepsTheHub :
    let s := referred .stabilizing .unset
    let x := s.timebase.ref .refA
    let u := referred .usable .referenced
    let low : State := u.modRef .refA fun y => { y with run := 15 }
    (s.held = false ∧ x.state = .stabilizing ∧ x.pendingSecond = some 101 ∧ x.lastGood = some 100 ∧
      999900000 ≤ s.timebase.oscNs + 1000000000 - x.lastPulse ∧
      s.timebase.oscNs + 1000000000 - x.lastPulse ≤ 1000100000 ∧ x.depth ≤ min (x.run + 1) 64 ∧
      s.timebase.selection = some .refA) ∧
    (u.timebase.selection = some (otherRef .refB) ∧ (u.timebase.ref (otherRef .refB)).state = .usable ∧
      (u.timebase.ref .refB).state = .off ∧ u.timebase.selection ≠ some .refB) ∧
    (low.timebase.selection = some .refA ∧ (low.timebase.ref .refA).state = .usable ∧
      ¬ (low.timebase.ref .refA).depth ≤ min ((low.timebase.ref .refA).run + 1) 64 ∧
      (low.timebase.ref .refA).pendingSecond = some 101 ∧ ¬ (999900000 ≤ 0 - (low.timebase.ref .refA).lastPulse) ∧
      (low.timebase.ref (otherRef .refA)).state ≠ .usable ∧
      ((low.modRef .refB fun y => { y with state := .usable }).timebase.ref (otherRef .refA)).state = .usable ∧
      low.timebase.hubState = .referenced) := by
  decide +kernel

/-- A first step to 101 s with a requested probe in flight and epochs 6 and 7 of 10 s FORMING, the deadline of 6 at
101 s, needed by a port or by none; and one of 10,001 ns in REFERENCED. -/
theorem witness_GoodPulseStepsTheHub_ends :
    let g : Grid := { grid with l := 31 }
    let probe : ProbeSlot :=
      { identifier := 1, station := 5, ts := { time := 0, hub := .unset }, sentAt := 0, expiry := 1250
        requested := true }
    let s (n : PortSet) : State := (((referred .stabilizing .unset).modTimebase fun t => { t with grid := some g
      }).modLink 1 fun x => { x with probe := some probe }).modAssembler fun a =>
        { a with table := [epoch 6 .forming n, epoch 7 .forming n] }
    ((s PortSet.none).timebase.hubState ≠ .referenced ∧ (on.timebase.grid = none) ∧
      ((s PortSet.none).link 1).probe = some probe ∧ probe.requested = true ∧
      on.timebase.stepLimit < ((101 : Int) * 1000000000 - 100999989999).natAbs) ∧
    ((s PortSet.none).timebase.grid = some g ∧ (s PortSet.none).store.waiting = [] ∧
      (s PortSet.none).assembler.sound ∧ epoch 6 .forming PortSet.none ∈ (s PortSet.none).assembler.table ∧
      (g.o + 6 * g.e + g.e + g.l : Int) * 1000000000 ≤ 101 * 1000000000 ∧
      ¬ (g.o + 7 * g.e + g.e + g.l : Int) * 1000000000 ≤ 101 * 1000000000 ∧
      (epoch 6 .forming { mp0 := true, mp1 := false }).needed.has .mp0 = true ∧
      (epoch 6 .forming { mp0 := true, mp1 := false }).released.has .mp0 = false ∧
      ∀ p, (epoch 6 .forming PortSet.none).needed.has p = false) := by
  refine ⟨by decide +kernel, rfl, rfl, ⟨by decide +kernel, by decide +kernel⟩, by decide +kernel, by decide +kernel,
    by decide +kernel, rfl, rfl, ?_⟩
  intro p
  cases p <;> rfl

theorem witness_MessagesAndMissedPulses :
    let s (x : RefState) := referred x .referenced
    on.held = false ∧ ((s .usable).timebase.ref .refA).window = some 1500 ∧
      ((s .usable).advance 1499999999).partTime < 1500 ∧ 1500 ≤ ((s .usable).advance 1500000000).partTime ∧
      ((s .stabilizing).timebase.ref .refA).state = .stabilizing ∧
      ((s .usable).timebase.ref .refA).state = .usable ∧ (s .usable).timebase.selection = some .refA ∧
      ((s .usable).timebase.ref (otherRef .refA)).state ≠ .usable ∧
      ((s .usable).modRef .refB fun x => { x with state := .usable }).timebase.refB.state = .usable ∧
      ((s .usable).modTimebase fun t => { t with selection := none }).timebase.selection ≠ some .refA := by
  decide +kernel

/-- Epoch 4 of the grid is reached at 80 s, to the ns, and is needed by a port or by none. -/
theorem witness_DeadlinesCloseEpochs :
    let s (n : PortSet) : State := (tabled n).modTimebase fun t =>
      { t with hubState := .referenced, hubTime := 79999999999 }
    (s PortSet.none).held = false ∧ (s PortSet.none).timebase.grid = some grid ∧
      (s PortSet.none).store.waiting = [] ∧ (s PortSet.none).assembler.sound ∧
      (s PortSet.none).timebase.hubState ≠ .unset ∧ (tabled PortSet.none).timebase.hubState = .unset ∧
      (grid.o + 4 * grid.e + grid.e + grid.l : Int) * 1000000000 ≤ (s PortSet.none).timebase.hubTime + 1 ∧
      ¬ ((grid.o + 4 * grid.e + grid.e + grid.l : Int) * 1000000000 ≤
        (s PortSet.none).timebase.hubTime + (0 : Nat)) ∧
      (∃ p, (epoch 4 .forming { mp0 := true, mp1 := false }).needed.has p = true ∧
        (epoch 4 .forming { mp0 := true, mp1 := false }).released.has p = false) ∧
      (¬ ∃ p, (epoch 4 .forming PortSet.none).needed.has p = true ∧
        (epoch 4 .forming PortSet.none).released.has p = false) := by
  refine ⟨rfl, rfl, rfl, ⟨by decide +kernel, by decide +kernel⟩, nofun, rfl, by decide +kernel, by decide +kernel,
    ⟨.mp0, rfl, rfl⟩, ?_⟩
  rintro ⟨p, h, -⟩
  cases p <;> exact absurd h nofun

/-! ## Witnesses: the station telemetry links -/

/-- A LINK_CONFIG that carries no parameter. -/
def noFields : LinkFields :=
  { reserved := 0, seed := none, noActivity := none, carrierLoss := none, asymmetry := none, mask := none }

theorem witness_LinkConfigSetsTheLink :
    rig.takesAt .mp0 ∧ (rig.port .mp0).role = .control ∧ (5 : Byte) < 6 ∧ (2 : Byte) ≠ 0 ∧ (2 : Byte) ≠ 1 ∧
      (5 : Byte) = linkByte 5 ∧
      ¬ (((1 : Byte) ≠ 0 ∧ (1 : Byte) ≠ 1) ∨ noFields.reserved ≠ 0 ∨
        ∃ m, noFields.mask = some m ∧ ∃ b ∈ [m.burstFail, m.linkDown, m.linkUp], b ≠ 0 ∧ b ≠ 1) ∧
      (rig.link 1).state ≠ .off ∧ (rig.link 5).state = .off := by
  refine ⟨takes_rig _, rfl, by decide, by decide, by decide, by decide, ?_, by decide +kernel, by decide +kernel⟩
  rintro (h | h | ⟨m, h, -⟩)
  · exact absurd h (by decide)
  · exact absurd h (by decide)
  · exact absurd h nofun

theorem witness_LinkResetClearsTheLink :
    rig.takesAt .mp0 ∧ (rig.port .mp0).role = .control ∧ (5 : Byte) < 6 ∧ (1 : Byte) = linkByte 1 :=
  ⟨takes_rig _, rfl, by decide, by decide⟩

theorem witness_OpeningDelimiterStampsTheBurst :
    rig.held = false ∧ noDelimiter [0xE5, 0xE8] = true ∧ (rig.link 1).state ≠ .off ∧
      (rig.link 1).burst = none ∧ (rig.link 0).state = .off := by decide +kernel

/-- The seed after reset and a stamp. -/
def opened : Burst := Burst.opened { time := 0, hub := .unset } 0x1F3C

/-- Link 1 with a burst just opened. -/
def bursting : State := withLink fun x => { x with burst := some opened }

theorem bursting_tableSound : bursting.tableSound := by
  refine ⟨?_, fun i j hi hj _ => ?_⟩
  · unfold Station.configured StationConfig.inRange
    decide +kernel
  · have only : ∀ k, (bursting.station k).enabled = true → k = 5 := by decide +kernel
    exact (only i hi).trans (only j hj).symm

theorem stuff_length_le (l : List Byte) : (stuff l).length ≤ 2 * l.length := by
  induction l with
  | nil => exact le_refl 0
  | cons b l ih =>
    have : (stuffByte b).length ≤ 2 := by unfold stuffByte; split <;> simp
    simp only [stuff, List.flatMap_cons, List.length_append, List.length_cons] at *
    omega

/-- A burst whose covered bytes are at most 8,190 fits the byte limit however it is stuffed. -/
theorem burst_fits (covered : List Byte) (check : Nat) (h : covered.length ≤ 8190) :
    (stuff (covered ++ be 2 check)).length ≤ 16384 := by
  have two : (be 2 check).length = 2 := rfl
  have := stuff_length_le (covered ++ be 2 check)
  rw [List.length_append, two] at this
  omega

/-- A burst of ten entries, one of each reading, at a bound of its test where it has one. -/
def readings : List (RawEntry × Entry) :=
  [(⟨1, dataContent (record 7)⟩, .data (record 7)),
    (⟨2, be 5 (7 : Counter40).toNat ++ be 4 (9999999 : BitVec 32).toNat ++ be 4 (1 : BitVec 32).toNat ++ [1]⟩,
      .mark 5 7 9999999 1 ((1 : Byte).getLsbD 0)),
    (⟨4, [9, FillStatus.code .partly]⟩, .fillEnd 5 9 .partly),
    (⟨5, []⟩, .damaged 5 5 .kind),
    (⟨1, List.replicate 9 0⟩, .damaged 5 1 .size),
    (⟨1, be 2 (7 : Seq).toNat ++ be 5 (8 : Counter40).toNat ++ be 2 0 ++ 3 :: []⟩, .damaged 5 1 .empty),
    (⟨1, be 2 (7 : Seq).toNat ++ be 5 (8 : Counter40).toNat ++ be 2 1 ++ 2 :: []⟩, .damaged 5 1 .components),
    (⟨1, be 2 (7 : Seq).toNat ++ be 5 (8 : Counter40).toNat ++ be 2 101 ++ 3 :: []⟩, .damaged 5 1 .size),
    (⟨2, be 5 (7 : Counter40).toNat ++ be 4 (10000000 : BitVec 32).toNat ++ be 4 (1 : BitVec 32).toNat ++ [0]⟩,
      .damaged 5 2 .phase),
    (⟨4, [9, 4]⟩, .damaged 5 4 .status)]

theorem readings_read : ∀ e ∈ readings, EntryReads 5 10000000 3 e.1 e.2 := by
  simp only [readings, List.forall_mem_cons]
  exact ⟨.data _ rfl (by decide) rfl (by decide) (by decide), .mark _ _ _ _ (by decide), .fillEnd _ _,
    .otherKind _ _ (.inr (by decide)), .wrongLength _ _ (.inl ⟨rfl, by decide⟩), .noSample _ _ _ _,
    .otherComponents _ _ _ _ _ (by decide) (by decide) (by decide),
    .wrongSize _ _ _ _ _ (by decide) (by decide) rfl (.inl (by decide)), .latePhase _ _ _ _ (by decide),
    .otherStatus _ _ (.inr (by decide)), fun _ h => nomatch h⟩

/-- Ten readings on a link that is DOWN, SILENT or UP with a request in flight, before and past 64 entries with a
RESTART and a LINK_UP, and beside an ECHO of the probe in flight and of another. -/
theorem witness_BurstOfRecordsIsQueued :
    let bd : Binding := { link := 1, address := 0x21, rate := .r100, components := 3 }
    let probe : ProbeSlot :=
      { identifier := 1, station := 5, ts := { time := 0, hub := .unset }, sentAt := 0, expiry := 1250
        requested := true }
    let s (state : LinkState) (n : Nat) : State := withLink fun x =>
      { x with burst := some opened, state := state, maskLinkUp := true, probe := some probe
               queue := List.replicate n .linkUp }
    let told (state : LinkState) (n : Nat) : Link :=
      Link.withControl ((s state n).link 1) (decide (state ≠ .up) && true) .linkUp
    let line (sent : List RawEntry) : List Byte :=
      let covered := burstCovered bd.address (boolByte true) sent
      stuff (covered ++ be 2 (crc 0x1F3C covered).toNat)
    (∀ state n, (s state n).held = false ∧ (s state n).tableSound ∧
      ((s state n).station 5).binding = some bd) ∧
    bursting.held = false ∧ bursting.tableSound ∧ (bursting.link 1).burst = some opened ∧
      (bursting.station 5).enabled = true ∧
    (((s .silent 3).link 1).state ≠ .off ∧ ((s .silent 3).link 1).burst = some opened ∧
      ((s .silent 3).link 1).probe = some probe) ∧
    bd.link = 1 ∧ 1 ≤ bd.components ∧ bd.components ≤ 3 ∧
    (1 ≤ readings.length ∧ readings.length ≤ 16 ∧
      (∀ e ∈ readings, EntryReads 5 bd.rate.period bd.components e.1 e.2) ∧
      (line (readings.map Prod.fst)).length ≤ 16384) ∧
    ((told .down 52).queue.length + readings.length + true.toNat ≤ 64 ∧
      64 < (told .down 53).queue.length + readings.length + true.toNat ∧
      (told .up 53).queue.length + readings.length + true.toNat ≤ 64 ∧
      (told .silent 0).queue.length + (readings.length + 1 + 0) + true.toNat ≤ 64) ∧
    readings.length + 1 + ([] : List (RawEntry × Entry)).length ≤ 16 ∧
    (∀ e ∈ readings ++ [], EntryReads 5 bd.rate.period bd.components e.1 e.2) ∧
    (line (readings.map Prod.fst ++
      (⟨3, 1 :: be 5 (7 : Counter40).toNat ++ be 4 (5 : BitVec 32).toNat⟩ : RawEntry) :: [])).length ≤ 16384 ∧
    probe.identifier = 1 ∧ probe.station = 5 ∧ probe.identifier ≠ 2 := by
  refine ⟨fun state n => ⟨rfl, bursting_tableSound, rfl⟩, rfl, bursting_tableSound, by decide +kernel,
    by decide +kernel, by decide +kernel, rfl, by decide, by decide,
    ⟨by decide, by decide, readings_read, burst_fits _ _ (by decide +kernel)⟩, by decide +kernel, by decide, ?_,
    burst_fits _ _ (by decide +kernel), rfl, rfl, by decide⟩
  rw [List.append_nil]
  exact readings_read

/-- A burst of one entry of no content for address 0x22, under the seed after reset. -/
def unbound : Burst :=
  let covered : List Byte := [0x22, 0, 1, 9, 0, 0]
  { opened with content := covered ++ be 2 (crc 0x1F3C covered).toNat }

theorem witness_UnboundBurstIsActivityAlone :
    let s := withLink fun x => { x with burst := some unbound }
    s.held = false ∧ (s.link 1).state ≠ .off ∧ (s.link 1).burst = some unbound ∧
      unbound.judge =
        .ok { address := 0x22, restart := false, entries := [{ kind := 9, content := [] }] } ∧
      (∀ i bd, (s.station i).enabled = true → (s.station i).binding = some bd → bd.link = 1 →
        bd.address ≠ 0x22) := by
  refine ⟨rfl, by decide +kernel, by decide +kernel, by decide +kernel, fun i bd he hb _ => ?_⟩
  have i5 : i = 5 := (by decide +kernel : ∀ k,
    ((withLink fun x => { x with burst := some unbound }).station k).enabled = true → k = 5) i he
  subst i5
  have : (some ({ link := 1, address := 0x21, rate := .r100, components := 3 } : Binding)) = some bd := hb
  cases this
  decide

/-- Entry counts 0 and 17 on the two sides of 1 to 16; an entry that ends short of the check; a header of two bytes and
a content of one; wrong checks over no byte and one; and 16,384 bytes received, or two less before a bad escape. -/
theorem witness_BurstsFailWithTheirCause :
    let checked (l : List Byte) : Burst := { opened with content := l ++ be 2 (crc 0x1F3C l).toNat }
    let s (b : Burst) : State := withLink fun x => { x with burst := some b }
    ((s opened).held = false ∧ ((s opened).link 1).state ≠ .off ∧ ((s opened).link 1).burst = some opened ∧
      (checked [0x21, 0, 0]).content = 0x21 :: 0 :: 0 :: [] ++ be 2 (crc opened.seed [0x21, 0, 0]).toNat ∧
      (checked [0x21, 0, 17]).content = 0x21 :: 0 :: 17 :: [] ++ be 2 (crc opened.seed [0x21, 0, 17]).toNat ∧
      (checked [0x21, 0, 1, 9, 0, 0, 7]).content =
        0x21 :: 0 :: 1 :: [9, 0, 0, 7] ++ be 2 (crc opened.seed [0x21, 0, 1, 9, 0, 0, 7]).toNat ∧
      (16 : Byte) < 17 ∧ opened.escaped = false ∧ opened.badEscape = false) ∧
    (([0x21, 0] : List Byte).length < 3 ∧
      (checked [0x21, 0]).content = [0x21, 0] ++ be 2 (crc opened.seed [0x21, 0]).toNat ∧
      ({ opened with content := [0x21] } : Burst).content.length < 2 ∧
      (0 : BitVec 16) ≠ crc opened.seed [] ∧ (0 : BitVec 16) ≠ crc opened.seed [0x21] ∧
      noDelimiter [0x00] = true ∧ (0xE5 : Byte) ∉ ([0xF5, 0xF6, 0xF7] : List Byte) ∧
      ({ opened with received := 16382 } : Burst).received ≤ 16382 ∧
      ({ opened with received := 16384, content := [0x21] } : Burst).received = 16384) ∧
    ∀ es : List RawEntry, es.length = 1 → (∀ e ∈ es, e.content.length < 65536) →
      ([9, 0, 0, 7] : List Byte) ≠ es.flatMap fun e => e.kind :: (be 2 e.content.length ++ e.content) := by
  refine ⟨by decide +kernel, by decide +kernel, fun es one fits h => ?_⟩
  obtain ⟨e, rfl⟩ := List.length_eq_one_iff.mp one
  have count := congrArg List.length h
  have two : (be 2 e.content.length).length = 2 := rfl
  simp only [List.flatMap_singleton, List.length_cons, List.length_append, List.length_nil, two] at count
  have : e.content.length = 1 := by omega
  rw [List.flatMap_singleton, this] at h
  exact absurd (List.cons.inj (List.cons.inj (List.cons.inj h).2).2).1 (by decide)

theorem witness_CarrierAndSilenceMoveTheLink :
    let s (state : LinkState) : State :=
      withLink fun x => { x with state := state, carrierDue := some 400, noActivityDue := some 30000 }
    (s .up).held = false ∧ ((s .up).link 1).burst = none ∧ ((s .up).link 1).state = .up ∧
      ((s .silent).link 1).state = .silent ∧ ((s .down).link 1).state = .down ∧
      ((s .up).link 1).carrierDue = some 400 ∧ ((s .up).advance 399999999).partTime < 400 ∧
      400 ≤ ((s .up).advance 400000000).partTime ∧ ((s .up).link 1).noActivityDue = some 30000 ∧
      ((s .up).advance 29999999999).partTime < 30000 ∧
      30000 ≤ ((s .up).advance 30000000000).partTime := by decide +kernel

/-- A gap of three records, OPEN or carrying request 9. -/
def gap (request : Option Byte) : Gap :=
  { first := 10, last := 12, attempts := 1, request := request, damaged := false }

/-- Station 5 of the rig with gaps and the flags of its mark unit. -/
def gapped (gaps : List Gap) (due : Bool) (stamp : Option (BitVec 64)) : State :=
  withStation { live with
    tracker := { live.tracker with q := some 20, gaps := gaps }
    mark := { live.mark with due := due, requested := due }
    backfillStamp := stamp, probeStamp := stamp }

theorem witness_BackfillIsGrantedInTurn :
    let g := gapped [gap (some 9), gap none] false none
    let may (s : State) : StationId → Prop := fun j => (s.station j).enabled = true ∧
      (∃ bd, (s.station j).binding = some bd ∧ bd.link = 1) ∧ (s.station j).config.backfill = true ∧
      ∃ h ∈ (s.station j).tracker.gaps, h.request = none
    g.held = false ∧ (g.link 0).state = .off ∧ (g.link 1).state = .up ∧ (g.link 1).outbound = none ∧
      (g.link 1).backfill = none ∧ (∀ j, ¬ may on j) ∧
      (¬ ((g.link 1).probe = none ∧ ∃ j, (g.station j).enabled = true ∧
        (∃ bd, (g.station j).binding = some bd ∧ bd.link = 1) ∧ (g.station j).mark.due = true)) ∧
      servedFirst (fun j => (g.station j).backfillStamp) (may g) 5 ∧
      (g.station 5).tracker.gaps = [gap (some 9)] ++ gap none :: [] ∧
      (∀ h ∈ [gap (some 9)], h.request ≠ none) ∧ (gap none).request = none := by
  have only : ∀ k, ((gapped [gap (some 9), gap none] false none).station k).enabled = true → k = 5 := by
    decide +kernel
  refine ⟨rfl, by decide +kernel, by decide +kernel, by decide +kernel, by decide +kernel, ?_, ?_, ⟨?_, .inl ⟨?_, ?_⟩⟩,
    by decide +kernel, by decide, rfl⟩
  · rintro j ⟨h, -⟩
    exact absurd h ((by decide +kernel : ∀ k, ¬ (on.station k).enabled = true) j)
  · rintro ⟨-, j, -, -, h⟩
    exact absurd h ((by decide +kernel :
      ∀ k, ¬ ((gapped [gap (some 9), gap none] false none).station k).mark.due = true) j)
  · exact ⟨by decide +kernel, ⟨{ link := 1, address := 0x21, rate := .r100, components := 3 }, by decide +kernel, rfl⟩, by decide +kernel, gap none, by decide +kernel, rfl⟩
  · decide +kernel
  · rintro j ⟨h, -⟩ -
    exact le_of_eq (only j h).symm

theorem witness_ProbesAreGrantedAndExpire :
    let g := gapped [] true (some 3)
    let probe : ProbeSlot :=
      { identifier := 1, station := 5, ts := { time := 0, hub := .unset }, sentAt := 0, expiry := 1250
        requested := true }
    let may : StationId → Prop := fun j => (g.station j).enabled = true ∧
      (∃ bd, (g.station j).binding = some bd ∧ bd.link = 1) ∧ (g.station j).mark.due = true
    g.held = false ∧ (g.link 1).state = .up ∧ (g.link 1).outbound = none ∧ (g.link 1).probe = none ∧
      servedFirst (fun j => (g.station j).probeStamp) may 5 ∧ (g.link 0).state = .off ∧
      (let s := withLink fun x => { x with probe := some probe };
        (s.link 1).probe = some probe ∧ (s.advance 1249999999).partTime < probe.expiry ∧
          probe.expiry ≤ (s.advance 1250000000).partTime) := by
  have only : ∀ k, ((gapped [] true (some 3)).station k).enabled = true → k = 5 := by decide +kernel
  refine ⟨rfl, by decide +kernel, by decide +kernel, by decide +kernel,
    ⟨⟨by decide +kernel, ⟨{ link := 1, address := 0x21, rate := .r100, components := 3 }, by decide +kernel, rfl⟩,
      by decide +kernel⟩, .inr ⟨3, by decide +kernel, ?_⟩⟩,
    by decide +kernel, by decide +kernel⟩
  rintro j ⟨h, -⟩
  obtain rfl := only j h
  exact ⟨3, by decide +kernel, .inr ⟨rfl, le_refl _⟩⟩

/-- A request in flight and a FILL_END at the head: of the request, of another identifier, of a disabled station. -/
theorem witness_BackfillRequestsEnd :
    let b : BackfillSlot :=
      { identifier := 9, station := 5, first := 10, last := 12, damage := none, due := 20000 }
    let s (e : Entry) : State := (gapped [gap (some 9)] false none).modLink 1 fun x =>
      { x with backfill := some b, queue := [e] }
    let idle := withHead (.fillEnd 5 9 .complete)
    (idle.held = false ∧ (idle.link 1).backfill = none ∧ (idle.link 1).blocked = false ∧
      (idle.link 1).queue = .fillEnd 5 9 .complete :: [] ∧ (idle.station 5).enabled = true) ∧
    ((s .linkUp).held = false ∧ ((s .linkUp).link 1).backfill = some b ∧
      b.due ≤ ((s .linkUp).advance 20000000000).partTime ∧
      ((s .linkUp).advance 19999999999).partTime < b.due ∧
      ((s (.fillEnd 5 9 .partly)).link 1).queue = .fillEnd 5 9 .partly :: [] ∧
      ((s (.fillEnd 5 9 .partly)).link 1).blocked = false ∧ (8 : Byte) ≠ b.identifier ∧
      ((s .linkUp).station 6).enabled = false) := by decide +kernel

/-! ## Witnesses: queue heads, tracking and the record store -/

/-- The rig with a record at the head of link 1, its station as given. -/
def offered (x : Station) (seq : Seq) : State :=
  (withHead (.data (record seq))).setStation 5 x

/-- No epoch is in the table, so none awaits its close. -/
theorem offered_settled (x : Station) (seq : Seq) : (offered x seq).settled := fun _ _ _ h => nomatch h

/-- Station 5 expecting seq 4,000, with records held. -/
def expecting (hold : List Held) : Station :=
  { live with tracker := { live.tracker with q := some 4000, hold := hold } }

/-- A store with every slot in use. -/
def fullSlots : List Slot := List.replicate 4096 { number := 0, record := record 0, timing := none, refs := 1 }

/-- A store with every slot but one in use. -/
def lastSlot : List Slot := (List.range 4095).map fun k => { number := k, record := record 0, timing := none, refs := 1 }

theorem lastSlot_length : lastSlot.length = 4095 := by rw [lastSlot, List.length_map, List.length_range]

theorem lastSlot_rising : lastSlot.Pairwise fun x y => x.number < y.number :=
  List.pairwise_map.mpr (List.pairwise_lt_range.imp fun h => h)

theorem lastSlot_bounded : ∀ x ∈ lastSlot, x.number < slotCount := by
  intro x h
  obtain ⟨k, hk, rfl⟩ := List.mem_map.mp h
  exact Nat.lt_of_lt_of_le (List.mem_range.mp hk) (by decide)

theorem dropReference_head (n : Nat) (x : Slot) (h : x.refs ≤ 1) :
    (dropReference x.number (List.replicate (n + 1) x)).length = n := by
  rw [List.replicate_succ, dropReference, if_pos rfl, if_pos h, List.length_replicate]

/-- Links 1 and 2 wait for the last slot, the first with seq 4,001 for a station that expects 4,000. -/
def served : State :=
  ((withHead (.data (record 4001))).setStation 5
    { live with tracker := { live.tracker with q := some 4000 } }).modStore fun y =>
      { y with waiting := 1 :: [2], slots := lastSlot }

theorem stored_slots (s : State) (w : List LinkId) (l : List Slot) :
    (s.modStore fun y => { y with waiting := w, slots := l }).store.slots = l := rfl

theorem served_slots : served.store.slots = lastSlot := stored_slots _ _ _

/-- An epoch 3 that is CLOSED and whose one contribution holds slot 0. -/
def closedEpoch : Epoch :=
  { epoch 3 .closedComplete PortSet.none with
    contributions := [makeContribution grid 3 10000000 0 (record 0)
      { start := 30000000000, rho := 0, quality := .qualified, path := .broke } false] }

/-- A disabled station; a head behind the waiting list, with no slot FREE and none to free, and with an epoch that
gives its slot; one link waiting; two links waiting for one slot, with the record 1 and 8 steps after q. -/
theorem witness_DataHeadsBlockAndAreServed :
    let s := withHead (.data (record 7))
    let off := withHead (.data { record 7 with station := 6 })
    let blocked := ((s.modLink 1 fun x => { x with blocked := true }).modStore fun y => { y with waiting := [1] })
    (off.held = false ∧ (off.link 1).queue = .data { record 7 with station := 6 } :: [] ∧
      (off.link 1).blocked = false ∧ (off.station 6).enabled = false) ∧
    ((s.link 1).blocked = false ∧ (s.station 5).enabled = true ∧
      (s.modStore fun y => { y with waiting := [2] }).store.waiting ≠ [] ∧ s.store.slots.length < 4096) ∧
    ((s.modStore fun y => { y with slots := fullSlots }).store.slots.length = 4096 ∧
      ∀ e ∈ s.assembler.table, e.state = .forming) ∧
    (blocked.store.waiting = [1] ∧ blocked.store.slots.length < 4096 ∧
      (blocked.link 1).queue = .data (record 7) :: [] ∧ (blocked.station 5).enabled = true) ∧
    s.store.waiting = [] ∧
    (let a : Assembler := { s.assembler with
        table := [epoch 1 .forming PortSet.none] ++ closedEpoch :: [epoch 4 .forming PortSet.none] };
      a.sound ∧ (∀ d ∈ [epoch 1 .forming PortSet.none], d.state = .forming) ∧ closedEpoch.state ≠ .forming ∧
        (closedEpoch.contributions.foldl (fun slots c => dropReference c.slot slots) fullSlots).length + 0 + 1 ≤
          4096) ∧
    (served.held = false ∧ served.store.waiting = 1 :: [2] ∧ (1 : LinkId) ∉ ([2] : List LinkId) ∧
      (served.link 1).queue = .data (record 4001) :: []) ∧
    (served.store.slots.length = 4095 ∧ served.slotsSound ∧ served.settled) ∧
    ((served.station 5).tracker.q = some 4000 ∧ 1 ≤ stepsAfter 4000 4001 ∧ stepsAfter 4000 4008 ≤ 8 ∧
      ∀ h ∈ (served.station 5).tracker.hold, h.seq ≠ 4001) := by
  refine ⟨by decide +kernel, by decide +kernel, ⟨List.length_replicate, by decide +kernel⟩, by decide +kernel, rfl,
    ⟨⟨by decide +kernel, by decide +kernel⟩, by decide, by decide, ?_⟩, by decide +kernel,
    ⟨served_slots ▸ lastSlot_length, ⟨served_slots ▸ lastSlot_rising, served_slots ▸ lastSlot_bounded⟩, ?_⟩,
    by decide +kernel⟩
  · exact le_of_eq (congrArg (· + 0 + 1)
      (dropReference_head 4095 { number := 0, record := record 0, timing := none, refs := 1 } (le_refl 1)))
  · intro g h
    exact absurd (show (none : Option Grid) = some g from h) nofun

/-- Seqs 1 and 8 steps after q, one held already, and one 32,768 steps after q, which is behind it. -/
theorem witness_EarlyAndRepeatedRecords :
    let s (hold : List Held) (a : Seq) := offered (expecting hold) a
    ((s [] 4001).held = false ∧ (s [] 4001).slotsSound ∧ (s [] 4001).settled) ∧
    (((s [] 4001).link 1).blocked = false ∧ ((s [] 4001).link 1).queue = .data (record 4001) :: [] ∧
      ((s [] 4001).station 5).enabled = true ∧ (s [] 4001).store.waiting = [] ∧
      (s [] 4001).store.slots.length < 4096 ∧ ((s [] 4001).station 5).tracker.q = some 4000 ∧
      1 ≤ stepsAfter 4000 4001 ∧ stepsAfter 4000 4008 ≤ 8 ∧ 1 ≤ stepsAfter 4000 4003 ∧
      (∃ h ∈ ((s [{ slot := 0, seq := 4003 }] 4003).station 5).tracker.hold, h.seq = 4003) ∧
      ∀ g ∈ ((s [] 36768).station 5).tracker.gaps, stepsAfter g.first g.last < stepsAfter g.first 36768) ∧
    32768 ≤ stepsAfter 4000 36768 ∧ ¬ 32768 ≤ stepsAfter 4000 36767 :=
  have slots : (offered (expecting []) 4001).slotsSound := by unfold State.slotsSound; decide +kernel
  ⟨⟨rfl, slots, offered_settled _ _⟩, by decide +kernel, by simp [stepsAfter]⟩

/-- The first, an inner and the last seq of the youngest gap of four, and the one seq of the oldest. -/
theorem witness_EarlyAndRepeatedRecords_fills :
    let gap (a b : Seq) : Gap := { first := a, last := b, attempts := 1, request := some 9, damaged := false }
    let before := [gap 3000 3000, gap 3002 3005, gap 3007 3009]
    let x : Station := { expecting [] with
      tracker := { (expecting []).tracker with gaps := before ++ gap 3900 3902 :: [] } }
    ((offered x 3901).station 5).tracker.gaps = before ++ gap 3900 3902 :: [] ∧
      (∀ a ∈ ([3900, 3901, 3902] : List Seq), 32768 ≤ stepsAfter 4000 a ∧
        (∀ h ∈ before, stepsAfter h.first h.last < stepsAfter h.first a) ∧
        stepsAfter 3900 a ≤ stepsAfter 3900 3902) ∧
      4 ≤ ((offered x 3901).station 5).tracker.gaps.length ∧ 32768 ≤ stepsAfter 4000 3000 ∧
      stepsAfter 3000 3000 ≤ stepsAfter 3000 3000 := by
  refine ⟨by decide +kernel, ?_, by decide +kernel, by simp [stepsAfter], le_refl _⟩
  simp [stepsAfter]

/-- A fill with its counter at K0 and a start at 0 inside the span, at the span's edge and one counter past it, with a
grid and without, on a LOCKED, a HOLDOVER, an ACQUIRING and an UNSET clock; slots 0 and 2 in use leave 1 the lowest. -/
theorem witness_EarlyAndRepeatedRecords_timed :
    let gap : Gap := { first := 3901, last := 3901, attempts := 0, request := none, damaged := false }
    let timed (c : ClockState) (k0 : Counter40) : Station := { expecting [] with
      tracker := { (expecting []).tracker with gaps := [] ++ gap :: [] }
      clock := { Clock.initial with state := c, anchor := some { k0 := k0, t0 := 0 } } }
    let s (x : Station) : State := (offered x 3901).modTimebase fun t => { t with grid := some grid }
    let used (k : Nat) : Slot := { number := k, record := record 1, timing := none, refs := 1 }
    ((∀ x, (s x).settled ∧ (s x).timebase.grid = some grid) ∧ (offered live 3901).timebase.grid = none) ∧
    ((∀ c ∈ [ClockState.locked, .holdover, .acquiring], c ≠ .unset) ∧ live.clock.state = .unset ∧
      ((s (timed .locked 1000000)).station 5).clock.anchor = some { k0 := 1000000, t0 := 0 } ∧
      (record 3901).kFirst.toNat = 1000000 ∧
      ((record 3901).kFirst.toNat : Int) - (2148483647 : Counter40).toNat = -2147483647 ∧
      ¬ (-2147483647 ≤ ((record 3901).kFirst.toNat : Int) - (2148483648 : Counter40).toNat)) ∧
    (let w := (s (timed .locked 1000000)).modStore fun y => { y with slots := [used 0, used 2] };
      w.slotsSound ∧ (∀ y ∈ w.store.slots, y.number ≠ 1) ∧ ∀ j, j < 1 → ∃ y ∈ w.store.slots, y.number = j) :=
  ⟨⟨fun _ => ⟨fun _ _ _ h => (nomatch h), rfl⟩, rfl⟩, by decide +kernel,
    by unfold State.slotsSound; decide +kernel⟩

/-- Seqs 9 and 32,767 steps after q; one record held at the 8th step and the 1st, next to it, 1 and 8 steps past it,
and 9. -/
theorem witness_EarlyAndRepeatedRecords_ahead :
    let s := offered (expecting [{ slot := 0, seq := 4008 }]) 4009
    9 ≤ stepsAfter 4000 4009 ∧ stepsAfter 4000 36767 ≤ 32767 ∧
      (s.station 5).tracker.hold = [{ slot := 0, seq := 4008 }] ∧
      (∀ y ∈ s.store.slots, y.number = 0 → y.record.station = 5) ∧
      1 ≤ stepsAfter 4000 4001 ∧ stepsAfter 4000 4008 ≤ 8 ∧
      (4009 : Seq) = 4008 + 1 ∧ 1 ≤ stepsAfter (4008 + 1) 4010 ∧ stepsAfter (4001 + 1) 4010 ≤ 8 ∧
      9 ≤ stepsAfter (4001 + 1) 4011 := by
  refine ⟨by simp [stepsAfter], by simp [stepsAfter], by decide +kernel, by decide +kernel, ?_⟩
  simp [stepsAfter]

/-- A clock, an expectation at K_x = 1,000,000 and a tear tolerance of 50,000 ns; T_mod is 0 and T_x on its edge. -/
theorem witness_MainStreamRecordsAreTimed :
    let a : Anchor := { k0 := 1000000, t0 := 0 }
    let timed (k0 : Counter40) (tx : Int) : Station := { expecting [] with
      clock := { Clock.initial with state := .locked, anchor := some { a with k0 := k0 } }
      expectation := some { kx := 1000000, tx := tx } }
    let s (x : Station) := offered x 4000
    ((s live).held = false ∧ (s live).slotsSound ∧ (s live).settled ∧
      ((s live).modTimebase fun t => { t with grid := some grid }).settled) ∧
    ((s live).link 1).blocked = false ∧ ((s live).link 1).queue = .data (record 4000) :: [] ∧ ((s live).station 5).enabled = true ∧
      (s live).store.waiting = [] ∧ (s live).store.slots.length < 4096 ∧ (s live).timebase.grid = none ∧
      ((s live).modTimebase fun t => { t with grid := some grid }).timebase.grid = some grid ∧
      ((s live).station 5).tracker.hold = [] ∧ ((s live).station 5).tracker.gaps = [] ∧
      ((s live).station 5).tracker.q = none ∧ ((s live).station 5).clock.state = .unset ∧
      ((s (timed 1000000 50000)).station 5).tracker.q = some (record 4000).seq ∧
      ((s (timed 1000000 50000)).station 5).clock.state ≠ .unset ∧
      ((s (timed 1000000 50000)).station 5).clock.anchor = some a ∧
      (record 4000).kFirst.toNat = 1000000 ∧
      ¬ (((s (timed 1000000 50000)).station 5).config.tearTolerance < ((0 : Int) - 50000).natAbs) ∧
      ((s (timed 1000000 50001)).station 5).config.tearTolerance < ((0 : Int) - 50001).natAbs ∧
      ¬ (((record 4000).kFirst.toNat : Int) - (1099511627775 : Counter40).toNat ≥ -2147483647) :=
  have slots : (offered live 4000).slotsSound := by unfold State.slotsSound; decide +kernel
  ⟨⟨rfl, slots, offered_settled _ _, fun _ _ _ h => nomatch h⟩, by decide +kernel⟩

/-- Seq 4,000 at q with 4,001 and 4,002 held next to it and 4,005 and 4,008 past a break, with nothing next to it, and
with 4,001 alone held; gaps 32,767 and 32,768 steps behind the q that follows. -/
theorem witness_MainStreamRecordsAreTimed_drain :
    let run : List Held := [{ slot := 0, seq := 4001 }, { slot := 1, seq := 4002 }]
    let others : List Held := [{ slot := 2, seq := 4005 }, { slot := 3, seq := 4008 }]
    let held (k : Nat) (a : Seq) : Slot := { number := k, record := record a, timing := none, refs := 0 }
    let gap (a : Seq) : Gap := { first := a, last := a, attempts := 0, request := none, damaged := false }
    let s : State := (offered { expecting (run ++ others) with
      tracker := { (expecting (run ++ others)).tracker with gaps := [gap 36771, gap 36772] } } 4000).modStore fun y =>
        { y with slots := [held 0 4001, held 1 4002, held 2 4005, held 3 4008] }
    (s.held = false ∧ s.slotsSound ∧ s.settled) ∧
    ((s.link 1).blocked = false ∧ (s.link 1).queue = .data (record 4000) :: [] ∧ (s.station 5).enabled = true ∧
      s.store.waiting = [] ∧ s.store.slots.length < 4096 ∧ (s.station 5).tracker.q = some (record 4000).seq ∧
      (s.station 5).tracker.hold = run ++ others) ∧
    (run.map Held.seq = (List.range run.length).map (fun k => 4000 + 1 + BitVec.ofNat 16 k) ∧
      (∀ o ∈ others.head?, o.seq ≠ 4000 + 1 + BitVec.ofNat 16 run.length) ∧
      (∀ h ∈ run, ∀ y ∈ s.store.slots, y.number = h.slot → y.record.station = 5) ∧
      (∀ o ∈ (run ++ others).head?, o.seq = 4000 + 1) ∧
      ([{ slot := 0, seq := 4001 }] : List Held).map Held.seq =
        (List.range 1).map (fun k => 4000 + 1 + BitVec.ofNat 16 k)) ∧
    ((s.station 5).clock.state = .unset ∧ (run.map Held.slot).Nodup ∧
      ∀ h ∈ run, ∃ y ∈ s.store.slots, y.number = h.slot) ∧
    (stepsAfter 36772 4003 = 32767 ∧ stepsAfter 36771 4003 = 32768) := by
  refine ⟨⟨rfl, ?_, fun _ _ _ h => nomatch h⟩, by decide +kernel, by decide +kernel, by decide +kernel,
    by simp [stepsAfter]⟩
  unfold State.slotsSound
  decide +kernel

/-- One record of a sample at each end of ρ, inside epoch 8,646, and one across two epochs. -/
theorem witness_ContributionsCutTheRecordExactly :
    let t (rho : Int) : Timing := { start := 86469500000000, rho := rho, quality := .qualified, path := .fill }
    1 ≤ grid.e ∧ 1 ≤ (record 0).n ∧ -100000 ≤ (t (-100000)).rho ∧ (t 100000).rho ≤ 100000 ∧
      ((8646 : Nat) : Int) = grid.epochAt (t 0).start ∧
      ((8646 : Nat) : Int) = grid.epochAt ((t 100000).start + duration Rate.r100.period 100000 0) ∧
      ((8647 : Nat) : Int) = grid.epochAt ((t 0).start + duration Rate.r100.period 0 (100 - 1)) := by
  decide +kernel

/-- A record of epochs 2, 3 and 4 of 10 s epochs against the hub's epoch; a table whose CLOSED epoch 3 gives an entry
back before FORMING epochs, one without it; freed marks, lowest numbers and deadlines at their bounds; and tables of
fifteen and sixteen epochs. -/
theorem witness_FirstRecordCreatesItsEpoch :
    let t (start : Int) : Timing := { start := start, rho := 0, quality := .qualified, path := .broke }
    let s := (tabled PortSet.none).modAssembler fun a => { a with table := closedEpoch :: [epoch 4 .forming PortSet.none] }
    let hub (ns : Int) : State := s.modTimebase fun x => { x with hubState := .holdover, hubTime := ns }
    let marked (m : Nat) : Assembler := { on.assembler with freedMark := some m }
    let filled (l : List Nat) : Assembler :=
      { on.assembler with table := l.map fun k => epoch k .forming PortSet.none }
    (({ grid with o := 5 } : Grid).epochAt (t 4999999999).start < 0 ∧
    (∀ n ∈ ([2, 3, 4] : List Nat), grid.epochAt (t (n * 10000000000)).start = (n : Nat) ∧
      grid.epochAt ((t (n * 10000000000)).start + duration 10000000 0 ((record 0).n - 1)) = (n : Nat)) ∧
    ((hub 19999999999).hubEpoch = some 1 ∧ (1 : Int) + 1 < 3 ∧ (hub 20000000000).hubEpoch = some 2 ∧
      (3 : Int) ≤ 2 + 1 ∧ s.hubEpoch = none)) ∧
    (s.assembler.sound ∧ 1 ≤ s.store.poolFree ∧ closedEpoch ∈ s.assembler.table ∧ closedEpoch.number = 3 ∧
      closedEpoch.state ≠ .forming ∧ epoch 4 .forming PortSet.none ∈ s.assembler.table) ∧
    ((∀ e ∈ s.assembler.table, e.number ≠ 2) ∧ (∃ e ∈ s.assembler.table.head?, 2 < e.number) ∧
      (marked 2).freedMark = some 2 ∧ (marked 2).table = [] ∧
      (grid.o + 2 * grid.e + grid.e + grid.l : Int) * 1000000000 ≤ (hub 60000000000).timebase.hubTime ∧
      ¬ (grid.o + 2 * grid.e + grid.e + grid.l : Int) * 1000000000 ≤ (hub 59999999999).timebase.hubTime) ∧
    (∀ l ∈ [List.range 15, List.range 16, 1 :: (List.range 15).map (· + 3)],
      ((filled l).table.length ≤ 16 ∧ (filled l).table.Pairwise fun x y => x.number < y.number) ∧
      ∀ m, ¬ (filled l).freedMark = some m) ∧
    ((filled (List.range 15)).table.length < 16 ∧ (∀ e ∈ (filled (List.range 15)).table, e.number ≠ 15) ∧
      (filled (List.range 16)).table.length = 16 ∧ (∀ e ∈ (filled (List.range 16)).table, e.number < 16) ∧
      (filled (1 :: (List.range 15).map (· + 3))).table.length = 16 ∧
      (∀ e ∈ (filled (1 :: (List.range 15).map (· + 3))).table, e.number ≠ 2) ∧
      (∃ e ∈ (filled (1 :: (List.range 15).map (· + 3))).table, 2 < e.number) ∧
      ¬ ∃ e ∈ (filled (1 :: (List.range 15).map (· + 3))).table.head?, 2 < e.number) ∧
    ((s.modStore fun y => { y with poolFree := 0 }).store.poolFree = 0 ∧
      s.assembler.table = [] ++ closedEpoch :: [epoch 4 .forming PortSet.none] ∧ closedEpoch.contributions ≠ [] ∧
      ∀ e ∈ [epoch 4 .forming PortSet.none], e.state = .forming) := by
  refine ⟨by decide +kernel, ⟨⟨by decide +kernel, by decide +kernel⟩, by decide +kernel⟩, by decide +kernel, ?_, by decide +kernel, by decide +kernel⟩
  exact fun l h => ⟨(by decide +kernel : ∀ l ∈ [List.range 15, List.range 16, 1 :: (List.range 15).map (· + 3)],
    (l.map fun k => epoch k .forming PortSet.none).length ≤ 16 ∧
      (l.map fun k => epoch k .forming PortSet.none).Pairwise fun x y => x.number < y.number) l h, nofun⟩

/-- A record of two samples a period of 1 s apart, over the epochs 3 and 4 of 10 s: both present; in an empty table, both
new; with a pool of one entry, which lacks one that epoch 3 gives back; and above a full table of 0 to 15, as 16 and 17. -/
theorem witness_FirstRecordCreatesItsEpoch_boundary :
    let start (n : Nat) : Int := n * 10000000000 - 500000000
    let s := (tabled PortSet.none).modAssembler fun a => { a with table := closedEpoch :: [epoch 4 .forming PortSet.none] }
    let full : List Epoch := (List.range 16).map fun k => epoch k .forming PortSet.none
    (∀ n ∈ ([4, 17] : List Nat), grid.epochAt (start n) = ((n - 1 : Nat) : Int) ∧
      grid.epochAt (start n + duration 1000000000 0 (2 - 1)) = (n : Int)) ∧
    List.range' 3 (4 + 1 - 3) = [3, 4] ∧ s.assembler.sound ∧
    (s.hubEpoch = none ∧ s.assembler.table.length + 0 ≤ 16 ∧
      (∀ n ∈ ([3, 4] : List Nat), (s.assembler.table.any fun e => decide (e.number = n)) = true) ∧
      ([] : List Epoch).length + 2 ≤ 16 ∧ 2 ≤ s.store.poolFree ∧ 1 < 2 ∧
      2 ≤ 1 + closedEpoch.contributions.length) ∧
    (full.length = 16 ∧ (∀ e ∈ full, e.number < 16) ∧ (List.range' 16 (17 + 1 - 16)).length ≤ 16 ∧
      2 ≤ s.store.poolFree + ((full.take 2).map fun e => e.contributions.length).sum) := by
  refine ⟨by decide +kernel, by decide, ⟨by decide +kernel, by decide +kernel⟩, by decide +kernel, by decide +kernel⟩

/-- Station 5 holds seq 4,003 in slot 0, its hold timer due at 5,000. -/
def holding (e : Entry) : State :=
  ((withHead e).setStation 5 { expecting [{ slot := 0, seq := 4003 }] with
    tracker := { (expecting [{ slot := 0, seq := 4003 }]).tracker with holdDue := some 5000 } }).modStore fun y =>
      { y with slots := [{ number := 0, record := record 4003, timing := none, refs := 0 }] }

theorem witness_GivingUpDeclaresAGap :
    let s := holding (.damaged 5 1 .size)
    let b := holding (.burstFail (some 0x21))
    (s.held = false ∧ (s.link 1).blocked = false ∧ (s.station 5).tracker.holdDue = some 5000 ∧
      5000 ≤ (s.advance 5000000000).partTime ∧ (s.station 5).enabled = true ∧
      (s.link 1).queue = .damaged 5 1 .size :: [] ∧ (b.link 1).queue = .burstFail (some 0x21) :: [] ∧
      b.lookup 1 0x21 = some 5) ∧
    ((s.station 5).tracker.q = some 4000 ∧ (s.station 5).tracker.hold = { slot := 0, seq := 4003 } :: [] ∧
      (∀ o ∈ ([] : List Held).head?, o.seq ≠ 4003 + 1) ∧
      (∀ y ∈ s.store.slots, y.number = 0 → y.record.station = 5)) ∧
    ((withHead (.damaged 5 1 .size)).station 5).tracker.hold = [] ∧
    (∀ d, Instr.headDamaged 0 1 ≠ .holdTimerExpiry d 5) :=
  ⟨by decide +kernel, by decide +kernel, by decide +kernel, nofun⟩

/-- Entries of station 6, which is disabled, at a head that is not blocked. It is the witness of the like clauses of
GivingUpDeclaresAGap, RestartClearsTheStation, MarksMoveTheClock and EchoesAreJudged. -/
theorem witness_disabled_entries :
    let stamp : Stamp := { time := 0, hub := .referenced }
    ∀ e ∈ [Entry.damaged 6 1 .size, .restart 6, .mark 6 1000100 0 1 true, .echo 6 0 0 stamp stamp false],
      (withHead e).held = false ∧ ((withHead e).link 1).blocked = false ∧ ((withHead e).link 1).queue = e :: [] ∧
        ((withHead e).station 6).enabled = false := by decide +kernel

theorem witness_RestartClearsTheStation :
    let s := holding (.restart 5)
    s.held = false ∧ (s.link 1).blocked = false ∧ (s.link 1).queue = .restart 5 :: [] ∧
      (s.station 5).enabled = true := by decide +kernel

theorem witness_LinkEntriesReachTheirStations :
    let s := holding .linkUp
    s.held = false ∧ (s.link 1).blocked = false ∧ (s.link 1).queue = .linkUp :: [] ∧
      ((withHead (.linkDown .silent)).link 1).queue = .linkDown .silent :: [] := by decide +kernel

/-- Epoch 4 expects no station, so it is complete; expecting station 5, which is not covered, it is not. -/
theorem witness_CompletionClosesCoveredEpochs :
    let s := tabled PortSet.none
    s.timebase.grid = some grid ∧ s.assembler.sound ∧ s.store.waiting = [] ∧
      epoch 4 .forming PortSet.none ∈ s.assembler.table ∧
      (∀ i, inSet (epoch 4 .forming PortSet.none).expected i = true → False) ∧
      inSet (stationBit 5) 5 = true ∧ (s.station 5).tracker.covered = none := by
  refine ⟨rfl, ⟨by decide +kernel, by decide +kernel⟩, rfl, by decide +kernel, fun i => ?_, by decide +kernel,
    by decide +kernel⟩
  revert i
  decide +kernel

/-! ## Witnesses: marks, probes and clocks -/

/-- Station 5 with a clock in the state given, anchored at K0 = 1,000,000, with its outlier count. -/
def clocked (x : ClockState) (outliers : Nat) : Station :=
  { live with clock := { Clock.initial with
      state := x, anchor := some { k0 := 1000000, t0 := 0 }, count := 8, stages := 0x0F, outliers := outliers
      silenceDue := some 300000, holdoverDue := some 14400000 } }

/-- The rig with a MARK entry at the head of link 1. -/
def marked (x : Station) (km : Counter40) (p sec : BitVec 32) (locked : Bool) : State :=
  (withHead (.mark 5 km p sec locked)).setStation 5 x

/-- A phase at P and below it; points at and one counter past the anchor, at the span and past it; residuals on the two
sides of the limit; the outlier count one and two below its limit of 3. -/
theorem witness_MarksMoveTheClock :
    let s := marked (clocked .locked 0) 1000100 0 1 true
    (s.held = false ∧ (s.link 1).blocked = false ∧ (s.link 1).queue = .mark 5 1000100 0 1 true :: [] ∧
      (s.station 5).enabled = true) ∧
    (¬ ((10000000 : BitVec 32).toNat < live.period) ∧ (9999999 : BitVec 32).toNat < live.period ∧
      live.config.source = .sat ∧ live.clock.state = .unset) ∧
    ((clocked .locked 0).clock.anchor = some { k0 := 1000000, t0 := 0 } ∧
      (clocked .locked 0).clock.state ≠ .unset ∧
      ((1000000 : Counter40).toNat : Int) - (1000000 : Counter40).toNat ≤ 0 ∧
      1 ≤ ((1000001 : Counter40).toNat : Int) - (1000000 : Counter40).toNat ∧
      ((2148483647 : Counter40).toNat : Int) - (1000000 : Counter40).toNat ≤ 2147483647 ∧
      2147483647 < ((2148483648 : Counter40).toNat : Int) - (1000000 : Counter40).toNat ∧
      (clocked .free 0).clock.state = .free) ∧
    (((1000000000 : Int) - 20000 - 1000000000).natAbs ≤ live.config.accept ∧
      live.config.accept < ((1000000000 : Int) - 20001 - 1000000000).natAbs ∧
      (clocked .locked 1).clock.outliers + 1 < live.config.outlierLimit ∧
      live.config.outlierLimit ≤ (clocked .holdover 2).clock.outliers + 1 ∧
      (clocked .acquiring 0).clock.state = .acquiring) := by decide +kernel

/-- Stamps of a REFERENCED hub with RTT −1, 0, the maximum of 250 ms and one ns more. -/
theorem witness_EchoesAreJudged :
    let ts : Stamp := { time := 0, hub := .referenced }
    let ta (t : Int) : Stamp := { time := t, hub := .referenced }
    let e := Entry.echo 5 0 0 ts (ta 0) false
    let s := withHead e
    (s.held = false ∧ (s.link 1).blocked = false ∧ (s.link 1).queue = e :: [] ∧
      (s.station 5).enabled = true) ∧
    ¬ ((HubState.holdover = .referenced) ∧ (ta 0).hub = .referenced) ∧
    (ta (-1)).time - ts.time - (0 : BitVec 32).toNat < 0 ∧
    0 ≤ (ta 0).time - ts.time - (0 : BitVec 32).toNat ∧
    (ta 250000000).time - ts.time - (0 : BitVec 32).toNat ≤ (live.config.maxRtt : Int) * 1000000 ∧
    (live.config.maxRtt : Int) * 1000000 < (ta 250000001).time - ts.time - (0 : BitVec 32).toNat ∧
    live.config.source = .sat ∧
    ({ live with config := { live.config with source := .probe } } : Station).config.source = .probe ∧
    live.binding = some { link := 1, address := 0x21, rate := .r100, components := 3 } := by decide +kernel

theorem witness_ClockTimersRunOut :
    let s (x : ClockState) := withStation (clocked x 0)
    (s .locked).held = false ∧ ((s .locked).station 5).clock.silenceDue = some 300000 ∧
      ((s .locked).advance 299999999999).partTime < 300000 ∧
      300000 ≤ ((s .locked).advance 300000000000).partTime ∧
      ((s .locked).station 5).clock.state = .locked ∧
      ((s .holdover).station 5).clock.holdoverDue = some 14400000 ∧
      ((s .holdover).advance 14399999999999).partTime < 14400000 ∧
      14400000 ≤ ((s .holdover).advance 14400000000000).partTime ∧
      ((s .acquiring).station 5).clock.state = .acquiring := by decide +kernel

theorem witness_ProbesBecomeDue :
    let s := withStation { live with mark := { live.mark with schedule := some 100 } }
    rig.takesAt .mp0 ∧ (rig.port .mp0).role = .control ∧ (47 : Byte) < 48 ∧ (47 : Byte) = stationByte 47 ∧
      (rig.station 47).enabled = false ∧ (rig.station 5).enabled = true ∧
      (rig.station 5).binding = some { link := 1, address := 0x21, rate := .r100, components := 3 } ∧
      (rig.link 1).state = .up ∧ (on.link 1).state = .off ∧ s.held = false ∧
      (s.station 5).mark.schedule = some 100 ∧ 100 ≤ (s.advance 100000000).partTime ∧
      (s.advance 99999999).partTime < 100 := by
  refine ⟨takes_rig _, rfl, by decide +kernel⟩

/-! ## Witnesses: stations, calibration, release and subscription -/

theorem witness_StationsAreBoundAndEnabled :
    let s := rig.setStation 6 bound
    s.takesAt .mp0 ∧ (s.port .mp0).role = .control ∧
      ((47 : Byte) < 48 ∧ (6 : Byte) = stationByte 6 ∧ (s.station 5).enabled = true ∧
        (s.station 6).enabled = false ∧ (5 : Byte) < 6 ∧ (21 : Byte).toNat ∉ [20, 40, 50, 100, 200] ∧
        (3 : Byte) < 4 ∧ (5 : Byte) = linkByte 5 ∧ (200 : Byte).toNat = Rate.r200.hz ∧ (1 : Byte) ≤ 1 ∧
        (1 : Byte) ≤ 3 ∧ (s.station 7).binding = none ∧
        (s.station 6).binding = some { link := 1, address := 0x21, rate := .r100, components := 3 }) ∧
      (∀ k, k ≠ 6 ∧ (s.station k).enabled = true ∧ sharePair (s.station 6) (s.station k) → 5 ≤ k) ∧
      sharePair (s.station 6) (s.station 5) ∧
      (∀ j, ¬ (j ≠ 6 ∧ ((on.setStation 6 bound).station j).enabled = true ∧
        sharePair ((on.setStation 6 bound).station 6) ((on.setStation 6 bound).station j))) := by
  refine ⟨⟨rfl, rfl, rfl⟩, rfl, by decide +kernel, ?_, ?_, ?_⟩
  · rintro k ⟨-, h, -⟩
    exact le_of_eq ((by decide +kernel : ∀ k, ((rig.setStation 6 bound).station k).enabled = true → k = 5) k h).symm
  · exact ⟨{ link := 1, address := 0x21, rate := .r100, components := 3 },
      { link := 1, address := 0x21, rate := .r100, components := 3 }, by decide +kernel, by decide +kernel, rfl, rfl⟩
  · rintro j ⟨-, h, -⟩
    exact absurd h ((by decide +kernel : ∀ k, ¬ ((on.setStation 6 bound).station k).enabled = true) j)

theorem witness_DisableReturnsTheStationToReset :
    rig.takesAt .mp0 ∧ (rig.port .mp0).role = .control ∧ (47 : Byte) < 48 ∧ (5 : Byte) = stationByte 5 ∧
      (rig.station 5).enabled = true ∧ (rig.station 47).enabled = false ∧ (47 : Byte) = stationByte 47 := by
  refine ⟨takes_rig _, rfl, by decide +kernel⟩

/-- Values on the two sides of each test: station 47 and 48, source 1 and 2, depth 32 and 33, interval 0 with PROBE. -/
theorem witness_ConfigIsTakenWhole :
    let f : SettingFields := { noSettings with source := some 1 }
    rig.takesAt .mp0 ∧ (rig.port .mp0).role = .control ∧ (47 : Byte) < 48 ∧ (5 : Byte) = stationByte 5 ∧
      (rig.station 47).enabled = false ∧ (rig.station 5).enabled = true ∧
      (∃ v, ({ noSettings with source := some 2 } : SettingFields).source = some v ∧ v ≠ 0 ∧ v ≠ 1) ∧
      (∃ v, ({ noSettings with depth := some 33 } : SettingFields).depth = some v ∧
        v.toNat ∉ [2, 4, 8, 16, 32]) ∧
      ¬ ((∃ v, f.source = some v ∧ v ≠ 0 ∧ v ≠ 1) ∨ (∃ v, f.depth = some v ∧ v.toNat ∉ [2, 4, 8, 16, 32]) ∨
        (∃ v, f.backfill = some v ∧ v ≠ 0 ∧ v ≠ 1)) ∧
      ((rig.station 5).config.apply (rig.station 5).period f).source = .probe ∧
      ((rig.station 5).config.apply (rig.station 5).period f).probeInterval = 0 ∧
      ((rig.station 5).config.apply (rig.station 5).period
        { f with probeInterval := some 1 }).probeInterval = 10 ∧
      ((rig.station 5).config.apply (rig.station 5).period noSettings).source = .sat := by
  refine ⟨takes_rig _, rfl, by decide, by decide, by decide +kernel, by decide +kernel, ⟨2, rfl, by decide⟩,
    ⟨33, rfl, by decide⟩, ?_, by decide +kernel⟩
  rintro (⟨v, h, h0, h1⟩ | ⟨v, h, -⟩ | ⟨v, h, -⟩)
  · exact h1 (Option.some.inj h).symm
  · exact absurd h nofun
  · exact absurd h nofun

/-- Attempts lowered to 1 and kept, with OPEN gaps at 0 and 1 attempts and a REQUESTED one; a change of depth that makes
an ACQUIRING clock LOCKED. -/
theorem witness_ConfigIsTakenWhole_notices :
    let f : SettingFields := { noSettings with attempts := some 1, depth := some 4 }
    let gap (n : Nat) (r : Option Byte) : Gap := { first := 10, last := 12, attempts := n, request := r, damaged := false }
    let gaps := [gap 0 none, gap 1 none, gap 1 (some 9)]
    (live.config.apply live.period f).attempts < live.config.attempts ∧
      ¬ (live.config.apply live.period noSettings).attempts < live.config.attempts ∧
      (gaps.filter fun g => decide (live.config.attempts ≤ 1 ∨ g.request.isSome ∨ g.attempts < 1)) =
        [gap 0 none, gap 1 (some 9)] ∧
      (live.config.apply live.period f).source = live.config.source ∧
      (live.config.apply live.period f).depth ≠ live.config.depth ∧
      (clocked .acquiring 0).clock.state = .acquiring ∧
      (live.config.apply live.period f).depth ≤ (clocked .acquiring 0).clock.count := by decide +kernel

/-- A bank with no entry, one of the other port, and entries of the port for the station and for another one. -/
theorem witness_CalibrationFollowsItsTables :
    let s (y : Reservation) : State := rig.setReservation 5 (some y)
    let y : Reservation := { port := .mp0, station := 5, staged := none }
    rig.takesAt .mp0 ∧ (47 : Byte) < 48 ∧ (5 : Byte) = stationByte 5 ∧ (rig.station 5).enabled = true ∧
      (rig.station 47).enabled = false ∧ rig.reservation 5 = none ∧ (s y).takesAt .mp1 ∧
      (s y).reservation 5 = some y ∧ y.port ≠ .mp1 ∧ y.station = 5 ∧ y.staged = none ∧
      (s { y with station := 9 }).reservation 5 = some { y with station := 9 } ∧ (9 : StationId) ≠ 5 ∧
      (s { y with staged := some 7 }).reservation 5 = some { y with staged := some 7 } := by
  refine ⟨takes_rig _, by decide, by decide, by decide +kernel, by decide +kernel, by decide +kernel, ⟨rfl, rfl, rfl⟩,
    by decide +kernel⟩

theorem witness_ReleasesAndUnsubscribesFreeEpochs :
    let both : PortSet := { mp0 := true, mp1 := true }
    let s := tabled both
    let e := epoch 3 .closedComplete both
    (on.takesAt .mp0 ∧ on.timebase.grid = none) ∧
    (s.takesAt .mp0 ∧ s.timebase.grid ≠ none ∧ s.assembler.sound ∧
      (e ∈ s.assembler.table ∧ (∀ x ∈ s.assembler.table, (x.number : Int) ≠ (5 : BitVec 64).toInt) ∧
      (e.number : Int) = (3 : BitVec 64).toInt ∧ e.state ≠ .forming ∧ e.released.has .mp0 = false ∧
      (epoch 4 .forming both) ∈ s.assembler.table ∧ (4 : Int) = (4 : BitVec 64).toInt ∧
      ({ e with released := both } : Epoch).released.has .mp0 = true) ∧
      (∃ q, q ≠ PortId.mp0 ∧ e.needed.has q = true ∧ e.released.has q = false) ∧
      (∀ q, q ≠ PortId.mp0 → (epoch 3 .closedComplete { both with mp1 := false }).needed.has q = true →
        (epoch 3 .closedComplete { both with mp1 := false }).released.has q = true)) ∧
    ((2 : Byte) ≠ 0 ∧ (2 : Byte) ≠ 1 ∧ (0 : Byte) = (if (on.port .mp0).subscribed then 1 else 0) ∧
      (on.port .mp0).subscribed = false ∧
      ((on.modPort .mp0 fun x => { x with subscribed := true }).port .mp0).subscribed = true) := by
  refine ⟨⟨takes_on _, rfl⟩, ⟨takes_tabled _ _, nofun, tabled_sound _, by decide +kernel,
    ⟨.mp1, by decide, by decide, by decide⟩, ?_⟩, by decide +kernel⟩
  rintro q hq h
  cases q
  · exact absurd rfl hq
  · exact absurd h (by decide)

/-- Epoch 3 names slot 0 twice and slot 1 once, which have two references and three: the first is freed with the epoch
and the second keeps two; slot 2 is named by none. -/
theorem witness_ReleasesAndUnsubscribesFreeEpochs_slots :
    let c (k : Nat) : Contribution := makeContribution grid 3 10000000 k (record 0)
      { start := 30000000000, rho := 0, quality := .qualified, path := .broke } false
    let e : Epoch := { epoch 3 .closedComplete { mp0 := true, mp1 := false } with contributions := [c 0, c 0, c 1] }
    let slot (k refs : Nat) : Slot := { number := k, record := record 0, timing := none, refs := refs }
    let s : State := ((tabled PortSet.none).modAssembler fun a => { a with table := [e] }).modStore fun y =>
      { y with slots := [slot 0 2, slot 1 3, slot 2 1] }
    let named (k : Nat) : Nat := e.contributions.countP fun x => decide (x.slot = k)
    (s.slotsSound ∧ s.assembler.sound ∧ (s.modPort .mp0 fun x => { x with subscribed := true }).mp0.subscribed = true) ∧
      (∀ q, q ≠ PortId.mp0 → e.needed.has q = true → e.released.has q = true) ∧
      1 ≤ named 0 ∧ 2 ≤ named 0 ∧ named 1 < 3 ∧ named 2 = 0 ∧
      e.contributions.foldl (fun slots x => dropReference x.slot slots) s.store.slots = [slot 1 2, slot 2 1] := by
  refine ⟨⟨?_, ⟨by decide +kernel, by decide +kernel⟩, rfl⟩, ?_, by decide +kernel⟩
  · unfold State.slotsSound
    decide +kernel
  · intro q hq h
    cases q
    · exact absurd rfl hq
    · exact absurd h nofun

/-! ## Witnesses: the invariants -/

/-- The bursting rig with a pulse waiting, which its step answers, meets every invariant that the steps keep. It is
the witness of TimebaseAndPortsStaySound, LinksAndWaitingListStaySound, StationsAndClocksStaySound,
TrackingStaysSound and PoolAndSlotsStaySound. -/
theorem witness_invariants :
    let s : State := { bursting with pending := [.refPulse 0 .refA] }
    (∃ t, step s = .next t) ∧ s.timebase.sound ∧ s.portsSound ∧ s.linksSound ∧ s.waitingSound ∧ s.tableSound ∧
      s.reservationsSound ∧ s.clocksSound ∧ s.trackingSound ∧ s.poolSound ∧ s.slotsSound := by
  refine ⟨⟨_, rfl⟩, ?_, ?_, ?_, ?_, bursting_tableSound, ?_, ?_, ?_, ?_, ?_⟩
  · refine ⟨?_, ?_, by decide +kernel, ?_, by decide +kernel, by decide +kernel, by decide +kernel⟩
    · unfold Reference.sound; decide +kernel
    · unfold Reference.sound; decide +kernel
    · intro r h; exact absurd (show (none : Option RefId) = some r from h) nofun
  · refine ⟨?_, ?_, by decide +kernel, by decide +kernel⟩ <;> unfold Port.sound <;> decide +kernel
  · intro l
    refine ⟨?_, ?_, ?_⟩
    · revert l; decide +kernel
    · intro h; exact absurd h ((by decide +kernel : ∀ l, ¬ (bursting.link l).blocked = true) l)
    · revert l; decide +kernel
  · exact ⟨by decide +kernel, by decide +kernel⟩
  · intro b x h
    exact absurd ((by decide +kernel : ∀ b : Fin 4, bursting.reservations[b] = none) b ▸ h) nofun
  · unfold State.clocksSound Clock.sound; decide +kernel
  · intro i
    have q : ∀ i, (bursting.station i).tracker = Tracker.initial := by decide +kernel
    rw [show (State.station { bursting with pending := [.refPulse 0 .refA] } i).tracker = Tracker.initial from q i]
    exact ⟨by decide, rfl, rfl⟩
  · exact ⟨⟨by decide +kernel, by decide +kernel⟩, by decide +kernel⟩
  · exact ⟨by decide +kernel, by decide +kernel⟩

end Sys2Proof.Tests
end

section
/-! PROOF. GRID_GET (R21): the hub epoch at the moment a request is taken, and the three answers of the request. -/

namespace Sys2Proof.Machine

/-! ## Hub time and hub epoch -/

/-- Hub time runs with the oscillator once the hub is set (R6). -/
theorem State.advance_hubTime_of_set {s : State} (dt : Nat) (h : s.timebase.hubState ≠ .unset) :
    (s.advance dt).timebase.hubTime = s.timebase.hubTime + dt := by
  cases hub : s.timebase.hubState with
  | unset => exact absurd hub h
  | referenced => simp [State.advance, State.modTimebase, hub]
  | holdover => simp [State.advance, State.modTimebase, hub]

/-- The epoch number of a time rounds down, also for a time before the first epoch. -/
theorem Grid.epochAt_eq_fdiv (g : Grid) (t : Int) :
    g.epochAt t = Int.fdiv (t - g.o * 1000000000) (g.e * 1000000000) :=
  (Int.fdiv_eq_ediv_of_nonneg _ (by positivity)).symm

/-- An UNSET hub has no epoch (R22). -/
theorem State.hubEpoch_of_unset {s : State} (h : s.timebase.hubState = .unset) : s.hubEpoch = none := by
  unfold State.hubEpoch
  cases s.timebase.grid <;> simp [h]

/-- With the grid and the hub set, the hub epoch is that of hub time (R22). -/
theorem State.hubEpoch_of_set {s : State} {g : Grid} (hg : s.timebase.grid = some g)
    (h : s.timebase.hubState ≠ .unset) : s.hubEpoch = some (g.epochAt s.timebase.hubTime) := by
  simp [State.hubEpoch, hg, h]

/-! ## The answers of GRID_GET -/

theorem State.answerGridGet_of_noGrid {s : State} (hg : s.timebase.grid = none) :
    s.answerGridGet = (s, [0x0B]) := by
  simp [State.answerGridGet, State.onGrid, hg, State.refuse, Result.code]

/-- With the grid set, the answer is OK with E, O and L and the hub epoch's field. -/
theorem State.answerGridGet_of_grid {s : State} {g : Grid} (hg : s.timebase.grid = some g) :
    s.answerGridGet = s.ok (g.fields ++
      optional 16 (s.hubEpoch.map fun h => beInt 8 h ++ beInt 8 s.timebase.hubTime)) := by
  simp [State.answerGridGet, State.onGrid, hg]

theorem State.answerGridGet_of_unset {s : State} {g : Grid} (hg : s.timebase.grid = some g)
    (h : s.timebase.hubState = .unset) :
    s.answerGridGet = (s, 0 :: (be 1 g.e ++ be 1 g.o ++ be 2 g.l) ++ List.replicate 17 0) := by
  rw [State.answerGridGet_of_grid hg, State.hubEpoch_of_unset h]
  rfl

theorem State.answerGridGet_of_set {s : State} {g : Grid} (hg : s.timebase.grid = some g)
    (h : s.timebase.hubState ≠ .unset) :
    s.answerGridGet = (s, 0 :: (be 1 g.e ++ be 1 g.o ++ be 2 g.l) ++ 1 ::
      beInt 8 (g.epochAt s.timebase.hubTime) ++ beInt 8 s.timebase.hubTime) := by
  rw [State.answerGridGet_of_grid hg, State.hubEpoch_of_set hg h]
  simp [State.ok, Result.code, Grid.fields, optional]

/-! ## The request -/

/-- Either role allows GRID_GET, and its owner's answer becomes the pending reply. -/
theorem exec_gridGet {s : State} {p : PortId} (dt : Nat) (tag : BitVec 16) (h : s.takesAt p) :
    exec (.gridGet dt p tag) s =
      .next ((s.requested dt p).answerGridGet.1.answered p 0x04 tag (s.requested dt p).answerGridGet.2) := by
  have allowed : (s.requested dt p).serve p .gridGet = (s.requested dt p).answerGridGet :=
    State.serve_allowed (.inl rfl)
  rw [← allowed]
  exact State.event_taken dt tag .gridGet h

/-- Settles O20: each clause is the request's own answer on the state in which it is taken, whose grid and hub state
are those before and whose hub time is `dt` later. -/
theorem gridGetReportsTheGrid : Obligations.GridGetReportsTheGrid := by
  intro dt p tag s takes
  refine ⟨fun noGrid => ?_, fun g grid => ⟨fun hubUnset => ?_, fun hubSet => ?_⟩⟩
  · rw [exec_gridGet dt tag takes, State.answerGridGet_of_noGrid (by simpa using noGrid)]
  · rw [exec_gridGet dt tag takes,
      State.answerGridGet_of_unset (g := g) (by simpa using grid) (by simpa using hubUnset)]
  · have time : (s.requested dt p).timebase.hubTime = s.timebase.hubTime + dt := by
      rw [State.requested_timebase, State.advance_hubTime_of_set dt hubSet]
    rw [exec_gridGet dt tag takes,
      State.answerGridGet_of_set (g := g) (by simpa using grid) (by simpa using hubSet), time, Grid.epochAt_eq_fdiv]

end Sys2Proof.Machine
end

section
/-! PROOF. The frame of a request on a receive line (R180, R194): numbers read back from their bytes, requests read back
from their bodies, and the bytes of a good frame taken as that frame. -/

namespace Sys2Proof.Machine

/-! ## Numbers read back from their bytes -/

@[simp] theorem be_length (k v : Nat) : (be k v).length = k := by
  induction k with
  | zero => rfl
  | succ k ih => simp [be, ih]

/-- The bytes read so far weigh 256 to the number of bytes that follow. -/
theorem foldl_bytes (l : List Byte) (a : Nat) :
    l.foldl (fun a b => a * 256 + b.toNat) a = a * 256 ^ l.length + ofBe l := by
  induction l generalizing a with
  | nil => simp [ofBe]
  | cons b l ih =>
    have tail : ofBe (b :: l) = b.toNat * 256 ^ l.length + ofBe l := by simpa [ofBe] using ih b.toNat
    rw [List.foldl_cons, ih, tail, List.length_cons]
    ring

theorem ofBe_cons (b : Byte) (l : List Byte) : ofBe (b :: l) = b.toNat * 256 ^ l.length + ofBe l := by
  simpa [ofBe] using foldl_bytes l b.toNat

theorem ofBe_be (k v : Nat) : ofBe (be k v) = v % 256 ^ k := by
  induction k with
  | zero => simp [be, ofBe, Nat.mod_one]
  | succ k ih =>
    rw [be, ofBe_cons, ih, be_length, BitVec.toNat_ofNat, Nat.mod_pow_succ (b := 256), Nat.mul_comm, Nat.add_comm]

theorem ofBe_be_of_lt {k v : Nat} (h : v < 256 ^ k) : ofBe (be k v) = v := by
  rw [ofBe_be, Nat.mod_eq_of_lt h]

/-- A word of k bytes is read back from them. -/
theorem ofNat_ofBe_be {w k : Nat} (x : BitVec w) (h : w = 8 * k) : BitVec.ofNat w (ofBe (be k x.toNat)) = x := by
  have fits : x.toNat < 256 ^ k := by
    subst h
    simpa [pow_mul] using x.isLt
  rw [ofBe_be_of_lt fits, BitVec.ofNat_toNat, BitVec.setWidth_eq]

/-! ## Requests read back from their bodies -/

/-- An optional field announced as it stands is read from the front of a body. -/
theorem takeField_optField {w : Nat} (k : Nat) (x : Option (BitVec w)) (rest : List Byte) (h : w = 8 * k) :
    takeField w k x.isSome (optField k x ++ rest) = some (x, rest) := by
  cases x with
  | none => rfl
  | some v => simp [takeField, optField, ofNat_ofBe_be v h]

/-- A decoder that reads an announced field first goes on with its value and the rest of the body. -/
theorem takeField_bind {w k : Nat} {α : Type} {announced : Bool} {x : Option (BitVec w)} {rest : List Byte}
    {next : Option (BitVec w) × List Byte → Option α} {y : Option α} (h : w = 8 * k) (bit : announced = x.isSome)
    (goesOn : next (x, rest) = y) : (takeField w k announced (optField k x ++ rest) >>= next) = y := by
  rw [bit, takeField_optField k x rest h]
  exact goesOn

/-- A control mask announced as it stands is read from the front of a body. -/
theorem takeMask_maskBytes (m : Option MaskFields) (rest : List Byte) :
    takeMask m.isSome (maskBytes m ++ rest) = some (m, rest) := by
  cases m <;> rfl

theorem presence_eq {α : Type} (i : Nat) (x : Option α) : presence i x = 2 ^ i * x.isSome.toNat := by
  cases x <;> simp [presence]

/-- The bits put below a number are read back at their positions. -/
theorem testBit_foldr_bit (bits : List Bool) (high i : Nat) (h : i < bits.length) :
    (bits.foldr Nat.bit high).testBit i = bits[i] := by
  induction bits generalizing i with
  | nil => simp at h
  | cons b bits ih =>
    cases i with
    | zero => simp
    | succ i => simpa [Nat.testBit_bit_succ] using ih i (by simpa using h)

/-- The number above its low bits is read back. -/
theorem foldr_bit_div (bits : List Bool) (high : Nat) : bits.foldr Nat.bit high / 2 ^ bits.length = high := by
  induction bits with
  | nil => simp
  | cons b bits ih =>
    rw [List.length_cons, Nat.pow_succ', ← Nat.div_div_eq_div_mul, List.foldr_cons, Nat.bit_div_two, ih]

theorem foldr_bit_lt (bits : List Bool) {high n : Nat} (h : high < 2 ^ n) :
    bits.foldr Nat.bit high < 2 ^ (bits.length + n) := by
  rw [Nat.pow_add, Nat.mul_comm, ← Nat.div_lt_iff_lt_mul (by positivity), foldr_bit_div]
  exact h

/-- The presence byte of GRID_SET and REF_CONFIG: one bit below the undefined ones. -/
theorem presenceByte_toNat {α : Type} (reserved : BitVec 7) (x : Option α) :
    (presenceByte reserved x).toNat = [x.isSome].foldr Nat.bit reserved.toNat := by
  have fits := foldr_bit_lt [x.isSome] reserved.isLt
  rw [presenceByte, BitVec.toNat_ofNat, ← Nat.mod_eq_of_lt fits]
  simp [presence_eq, Nat.bit_val, Nat.mul_comm]

/-- The presence bits of LINK_CONFIG from bit 0 up (chapter 11). -/
def linkBits (f : LinkFields) : List Bool :=
  [f.seed.isSome, f.noActivity.isSome, f.carrierLoss.isSome, f.asymmetry.isSome, f.mask.isSome]

theorem linkPresence_toNat (f : LinkFields) :
    (linkPresence f).toNat = (linkBits f).foldr Nat.bit f.reserved.toNat := by
  have fits := foldr_bit_lt (linkBits f) f.reserved.isLt
  rw [linkPresence, BitVec.toNat_ofNat, ← Nat.mod_eq_of_lt fits]
  congr 1
  simp only [presence_eq, linkBits, List.foldr_cons, List.foldr_nil, Nat.bit_val]
  omega

/-- The presence bits of STATION_CONFIG from bit 0 up (chapter 11). -/
def settingBits (f : SettingFields) : List Bool :=
  [f.source.isSome, f.depth.isSome, f.acqShift.isSome, f.trackShift.isSome, f.accept.isSome, f.outlierLimit.isSome,
   f.tearTolerance.isSome, f.holdTime.isSome, f.backfill.isSome, f.attempts.isSome, f.responseTimeout.isSome,
   f.probeInterval.isSome, f.maxRtt.isSome, f.silence.isSome, f.holdover.isSome, f.calibration.isSome]

theorem settingPresence_eq (f : SettingFields) : settingPresence f = (settingBits f).foldr Nat.bit 0 := by
  simp only [settingPresence, presence_eq, settingBits, List.foldr_cons, List.foldr_nil, Nat.bit_val]
  omega

theorem settingPresence_lt (f : SettingFields) : settingPresence f < 2 ^ 16 := by
  rw [settingPresence_eq]
  exact foldr_bit_lt (settingBits f) (n := 0) Nat.one_pos

theorem settingPresence_toNat (f : SettingFields) :
    (BitVec.ofNat 16 (settingPresence f)).toNat = (settingBits f).foldr Nat.bit 0 := by
  rw [BitVec.toNat_ofNat, Nat.mod_eq_of_lt (settingPresence_lt f), settingPresence_eq]

/-- A presence field tells of each field whether it is present. -/
theorem getLsbD_of_bits {w : Nat} {x : BitVec w} {bits : List Bool} {high : Nat}
    (e : x.toNat = bits.foldr Nat.bit high) (i : Nat) (h : i < bits.length) : x.getLsbD i = bits[i] := by
  rw [BitVec.getLsbD, e, testBit_foldr_bit bits high i h]

/-- The undefined bits of a presence field are read back as carried. -/
theorem ofNat_div_of_bits {w n : Nat} {x : BitVec w} {bits : List Bool} {high : BitVec n}
    (e : x.toNat = bits.foldr Nat.bit high.toNat) : BitVec.ofNat n (x.toNat / 2 ^ bits.length) = high := by
  rw [e, foldr_bit_div, BitVec.ofNat_toNat, BitVec.setWidth_eq]

/-- GRID_SET and REF_CONFIG: the undefined bits and the optional field (R194). -/
theorem decodePresence_presenceByte {w k : Nat} (reserved : BitVec 7) (x : Option (BitVec w)) (h : w = 8 * k) :
    decodePresence w k (presenceByte reserved x) (optField k x) = some (reserved, x) := by
  have announced : (presenceByte reserved x).getLsbD 0 = x.isSome :=
    getLsbD_of_bits (presenceByte_toNat reserved x) 0 (by simp)
  have undefinedBits : BitVec.ofNat 7 ((presenceByte reserved x).toNat / 2) = reserved :=
    ofNat_div_of_bits (presenceByte_toNat reserved x)
  have field := takeField_optField k x [] h
  rw [List.append_nil] at field
  simp only [decodePresence, announced, undefinedBits, field, Option.bind_eq_bind, Option.bind_some, if_true]

/-- LINK_CONFIG: the fields from the presence byte and the bytes of those present (R194). -/
theorem decodeLinkFields_bytes (f : LinkFields) :
    decodeLinkFields (linkPresence f) (optField 2 f.seed ++ optField 1 f.noActivity ++ optField 1 f.carrierLoss ++
      optField 4 f.asymmetry ++ maskBytes f.mask) = some f := by
  have announced (i : Nat) (h : i < 5) : (linkPresence f).getLsbD i = (linkBits f)[i] :=
    getLsbD_of_bits (linkPresence_toNat f) i h
  have undefinedBits : BitVec.ofNat 3 ((linkPresence f).toNat / 32) = f.reserved :=
    ofNat_div_of_bits (linkPresence_toNat f)
  have mask := takeMask_maskBytes f.mask []
  rw [List.append_nil] at mask
  simp [decodeLinkFields, undefinedBits, announced, linkBits, takeField_optField, mask, -BitVec.getLsbD_eq_getElem]

/-- STATION_CONFIG: the sixteen settings in bit order, each read where its presence bit announces it (R194).
(The long append is unfolded by `delta`: its equation lemma takes long to make.) -/
theorem decodeSettings_bytes (f : SettingFields) :
    decodeSettings (BitVec.ofNat 16 (settingPresence f)) (settingBytes f) = some f := by
  have bit (i : Nat) (h : i < 16) : (BitVec.ofNat 16 (settingPresence f)).getLsbD i = (settingBits f)[i] :=
    getLsbD_of_bits (settingPresence_toNat f) i h
  rw [← List.append_nil (settingBytes f)]
  delta settingBytes
  simp only [List.append_assoc]
  exact takeField_bind rfl (bit 0 (by decide)) <| takeField_bind rfl (bit 1 (by decide)) <|
    takeField_bind rfl (bit 2 (by decide)) <| takeField_bind rfl (bit 3 (by decide)) <|
    takeField_bind rfl (bit 4 (by decide)) <| takeField_bind rfl (bit 5 (by decide)) <|
    takeField_bind rfl (bit 6 (by decide)) <| takeField_bind rfl (bit 7 (by decide)) <|
    takeField_bind rfl (bit 8 (by decide)) <| takeField_bind rfl (bit 9 (by decide)) <|
    takeField_bind rfl (bit 10 (by decide)) <| takeField_bind rfl (bit 11 (by decide)) <|
    takeField_bind rfl (bit 12 (by decide)) <| takeField_bind rfl (bit 13 (by decide)) <|
    takeField_bind rfl (bit 14 (by decide)) <| takeField_bind rfl (bit 15 (by decide)) rfl

theorem decodeRequest_gridSet (e o pres : Byte) (rest : List Byte) :
    decodeRequest 0x03 (e :: o :: pres :: rest) =
      .ofOption ((decodePresence 16 2 pres rest).map fun x => .gridSet e o x.1 x.2) := rfl

theorem decodeRequest_refConfig (target switch pres : Byte) (rest : List Byte) :
    decodeRequest 0x06 (target :: switch :: pres :: rest) =
      .ofOption ((decodePresence 32 4 pres rest).map fun x => .refConfig target switch x.1 x.2) := rfl

theorem decodeRequest_linkConfig (l en pres : Byte) (rest : List Byte) :
    decodeRequest 0x08 (l :: en :: pres :: rest) =
      .ofOption ((decodeLinkFields pres rest).map (.linkConfig l en)) := rfl

theorem decodeRequest_stationConfig (i : Byte) (v : Nat) (rest : List Byte) :
    decodeRequest 0x0E (i :: (be 2 v ++ rest)) =
      .ofOption ((decodeSettings (BitVec.ofNat 16 (ofBe (be 2 v))) rest).map (.stationConfig i)) := rfl

/-- A request is read back from its kind and body (R182, R194). -/
theorem decodeRequest_request (r : Request) : decodeRequest (requestKind r) (requestBody r) = .request r := by
  cases r with
  | gridSet e o reserved l =>
    rw [requestKind, requestBody, decodeRequest_gridSet, decodePresence_presenceByte reserved l rfl]
    rfl
  | refConfig target switch reserved v =>
    rw [requestKind, requestBody, decodeRequest_refConfig, decodePresence_presenceByte reserved v rfl]
    rfl
  | linkConfig l en f =>
    rw [requestKind, requestBody, decodeRequest_linkConfig, decodeLinkFields_bytes]
    rfl
  | stationConfig i f =>
    rw [requestKind, requestBody, decodeRequest_stationConfig, ofBe_be_of_lt (settingPresence_lt f),
      decodeSettings_bytes]
    rfl
  | calSet i v =>
    show Decoded.request (.calSet i (BitVec.ofNat 32 (ofBe (be 4 v.toNat)))) = _
    rw [ofNat_ofBe_be v rfl]
  | calStage i v =>
    show Decoded.request (.calStage i (BitVec.ofNat 32 (ofBe (be 4 v.toNat)))) = _
    rw [ofNat_ofBe_be v rfl]
  | epochSummary n =>
    show Decoded.request (.epochSummary (BitVec.ofNat 64 (ofBe (be 8 n.toNat)))) = _
    rw [ofNat_ofBe_be n rfl]
  | epochRelease n =>
    show Decoded.request (.epochRelease (BitVec.ofNat 64 (ofBe (be 8 n.toNat)))) = _
    rw [ofNat_ofBe_be n rfl]
  | contribFetch n i k =>
    show Decoded.request (.contribFetch (BitVec.ofNat 64 (ofBe (be 8 n.toNat))) i
      (BitVec.ofNat 16 (ofBe (be 2 k.toNat)))) = _
    rw [ofNat_ofBe_be n rfl, ofNat_ofBe_be k rfl]
  | partInfo c | timebaseStatus c | epochList c | linkStatus _ c | stationStats _ c => cases c <;> rfl
  | partReset | gridGet | refSelect | linkReset | stationBind | stationEnable | stationDisable | stationStatus
  | calReserve | calApply | probeNow | subscribe | noticeMask | noticePoll | faultRead | faultClear => rfl

theorem optField_length_le (k : Nat) {w : Nat} (x : Option (BitVec w)) : (optField k x).length ≤ k := by
  cases x <;> simp [optField]

theorem settingBytes_length_le (f : SettingFields) : (settingBytes f).length ≤ 34 := by
  delta settingBytes
  simp only [List.length_append]
  refine le_trans (b := 1 + 1 + 1 + 1 + 4 + 1 + 4 + 1 + 1 + 1 + 1 + 2 + 2 + 2 + 2 + 4) ?_ (by decide)
  gcongr <;> exact optField_length_le _ _

/-- Every request's body is far below the limit of R180. -/
theorem requestBody_length_le (r : Request) : (requestBody r).length ≤ bodyLimit := by
  cases r with
  | gridSet e o reserved l =>
    have := optField_length_le 2 l
    simp only [requestBody, bodyLimit, List.length_cons]; omega
  | refConfig target switch reserved v =>
    have := optField_length_le 4 v
    simp only [requestBody, bodyLimit, List.length_cons]; omega
  | linkConfig l en f =>
    have seed := optField_length_le 2 f.seed
    have noActivity := optField_length_le 1 f.noActivity
    have carrierLoss := optField_length_le 1 f.carrierLoss
    have asymmetry := optField_length_le 4 f.asymmetry
    have mask : (maskBytes f.mask).length ≤ 3 := by cases f.mask <;> simp [maskBytes]
    simp only [requestBody, bodyLimit, List.length_cons, List.length_append]; omega
  | stationConfig i f =>
    have := settingBytes_length_le f
    simp only [requestBody, bodyLimit, List.length_cons, List.length_append, be_length]; omega
  | partInfo c | timebaseStatus c | epochList c | linkStatus _ c | stationStats _ c =>
    cases c <;> simp [requestBody, optByte, bodyLimit]
  | partReset | gridGet | refSelect | linkReset | stationBind | stationEnable | stationDisable | stationStatus
  | calSet | calReserve | calStage | calApply | probeNow | epochSummary | contribFetch | epochRelease | subscribe
  | noticeMask | noticePoll | faultRead | faultClear => simp [requestBody, bodyLimit]

/-! ## A frame taken from its bytes -/

/-- The bytes of a frame after its sync pair. -/
def Frame.afterSync (f : Frame) : List Byte := f.covered ++ be 2 (crc frameSeed f.covered).toNat

theorem Frame.bytes_eq (f : Frame) : f.bytes = 0xA5 :: 0x5A :: f.afterSync := rfl

theorem Frame.afterSync_length (f : Frame) : f.afterSync.length = 7 + f.body.length := by
  simp [Frame.afterSync, Frame.covered]
  omega

theorem Frame.afterSync_bodyLength (f : Frame) (h : f.body.length ≤ bodyLimit) :
    ofBe (f.afterSync.take 2) = f.body.length :=
  ofBe_be_of_lt (k := 2) (Nat.lt_of_le_of_lt h (by decide))

theorem frameOf_afterSync (f : Frame) : frameOf f.afterSync = f := by
  have tag : ofBe ((f.afterSync.drop 3).take 2) = f.tag.toNat := ofBe_be_of_lt (k := 2) f.tag.isLt
  have body : (f.afterSync.drop 5).take (f.afterSync.length - 7) = f.body := by
    have dropped : f.afterSync.drop 5 = f.body ++ be 2 (crc frameSeed f.covered).toNat := rfl
    rw [dropped, Frame.afterSync_length, Nat.add_sub_cancel_left, List.take_left]
  rw [frameOf, tag, body, BitVec.ofNat_toNat, BitVec.setWidth_eq]
  rfl

/-- A whole frame with the check computed from it is complete (R180). -/
theorem State.frameEnds_afterSync (s : State) (p : PortId) (f : Frame) :
    s.frameEnds p f.afterSync = (s.modPort p fun x => { x with receiver := .hunting false }).frameArrives p f := by
  have covered : f.afterSync.take (f.afterSync.length - 2) = f.covered := by simp [Frame.afterSync]
  have check : ofBe (f.afterSync.drop (f.afterSync.length - 2)) = (crc frameSeed f.covered).toNat := by
    have dropped : f.afterSync.drop (f.afterSync.length - 2) = be 2 (crc frameSeed f.covered).toNat := by
      simp [Frame.afterSync]
    rw [dropped, ofBe_be_of_lt (k := 2) (crc frameSeed f.covered).isLt]
  simp only [State.frameEnds, covered, check, if_true, frameOf_afterSync]

/-- A change of a port depends only on what it makes of the port as it stands. -/
theorem State.modPort_congr {s : State} {p : PortId} {f g : Port → Port} (h : f (s.port p) = g (s.port p)) :
    s.modPort p f = s.modPort p g := by
  cases p
  · exact congrArg (fun x => { s with mp0 := x }) h
  · exact congrArg (fun x => { s with mp1 := x }) h

theorem State.modPort_of_self {s : State} {p : PortId} {f : Port → Port} (h : f (s.port p) = s.port p) :
    s.modPort p f = s :=
  (State.modPort_congr (g := id) h).trans (by cases p <;> rfl)

/-- A byte of a frame that neither announces too long a body nor is the frame's last is kept (R180). -/
theorem State.portByte_inside {s : State} {p : PortId} {read : List Byte} {due : Nat} {b : Byte}
    (inside : (s.port p).receiver = .inside read due)
    (short : (read ++ [b]).length = 2 → ofBe ((read ++ [b]).take 2) ≤ bodyLimit)
    (more : 2 ≤ (read ++ [b]).length → (read ++ [b]).length < 7 + ofBe ((read ++ [b]).take 2)) :
    s.portByte p b =
      s.modPort p fun x => { x with receiver := .inside (read ++ [b]) (s.partTime + byteTimeout) } := by
  have notLong : ¬ ((read ++ [b]).length = 2 ∧ bodyLimit < ofBe ((read ++ [b]).take 2)) :=
    fun ⟨two, long⟩ => Nat.not_lt.mpr (short two) long
  have notLast : ¬ (2 ≤ (read ++ [b]).length ∧ (read ++ [b]).length = 7 + ofBe ((read ++ [b]).take 2)) :=
    fun ⟨two, last⟩ => (more two).ne last
  simp only [State.portByte, inside, notLong, notLast, if_false]

/-- The last byte of a frame ends it (R180). -/
theorem State.portByte_last {s : State} {p : PortId} {read : List Byte} {due : Nat} {b : Byte}
    (inside : (s.port p).receiver = .inside read due)
    (last : (read ++ [b]).length = 7 + ofBe ((read ++ [b]).take 2)) :
    s.portByte p b = s.frameEnds p (read ++ [b]) := by
  have notTwo : ¬ ((read ++ [b]).length = 2 ∧ bodyLimit < ofBe ((read ++ [b]).take 2)) := by omega
  have two : 2 ≤ (read ++ [b]).length := by omega
  simp only [State.portByte, inside]
  rw [if_neg notTwo, if_pos ⟨two, last⟩]

/-- The bytes of a frame that are left to read end it, and have changed nothing but its port's receiver before. -/
theorem State.portBytes_inside {p : PortId} {n : Nat} (rest : List Byte) (limit : n ≤ bodyLimit) (left : rest ≠ []) :
    ∀ {s : State} {read : List Byte} {due : Nat}, (s.port p).receiver = .inside read due →
      (read ++ rest).length = 7 + n → ofBe ((read ++ rest).take 2) = n →
      ∃ r, s.portBytes p rest = (s.modPort p fun x => { x with receiver := r }).frameEnds p (read ++ rest) := by
  induction rest with
  | nil => exact absurd rfl left
  | cons b rest ih =>
    intro s read due inside len body
    cases rest with
    | nil =>
      have same : (s.modPort p fun x => { x with receiver := .inside read due }) = s :=
        State.modPort_of_self (by rw [← inside])
      exact ⟨.inside read due, by rw [same]; exact State.portByte_last inside (by rw [len, body])⟩
    | cons c rest =>
      have shift : read ++ b :: c :: rest = (read ++ [b]) ++ c :: rest := by simp
      have front (two : 2 ≤ (read ++ [b]).length) : ofBe ((read ++ [b]).take 2) = n := by
        rw [← body, shift, List.take_append_of_le_length two]
      have kept := State.portByte_inside inside (fun two => by rw [front two.ge]; exact limit) fun two => by
        rw [front two, ← len, shift, List.length_append]; simp
      rw [shift] at len body
      obtain ⟨r, ends⟩ := ih (by simp) (s := s.portByte p b) (by rw [kept, State.modPort_self]) len body
      refine ⟨r, ?_⟩
      calc s.portBytes p (b :: c :: rest) = (s.portByte p b).portBytes p (c :: rest) := rfl
        _ = _ := ends
        _ = _ := by rw [kept, State.modPort_modPort, shift]

/-- The bytes of a good frame at a hunting receiver are that frame, complete (R180). -/
theorem State.portBytes_frame {s : State} {p : PortId} {f : Frame} {saw : Bool}
    (hunting : (s.port p).receiver = .hunting saw) (limit : f.body.length ≤ bodyLimit) :
    s.portBytes p f.bytes = (s.modPort p fun x => { x with receiver := .hunting false }).frameArrives p f := by
  have first : s.portByte p 0xA5 = s.modPort p fun x => { x with receiver := .hunting true } := by
    simp [State.portByte, hunting]
  have second : (s.portByte p 0xA5).portByte p 0x5A =
      s.modPort p fun x => { x with receiver := .inside [] (s.partTime + byteTimeout) } := by
    rw [first]
    simp [State.portByte]
  have left : f.afterSync ≠ [] := List.ne_nil_of_length_pos (by rw [Frame.afterSync_length]; omega)
  obtain ⟨r, ends⟩ := State.portBytes_inside f.afterSync limit left (s := (s.portByte p 0xA5).portByte p 0x5A)
    (by rw [second, State.modPort_self]) f.afterSync_length (f.afterSync_bodyLength limit)
  calc s.portBytes p f.bytes = ((s.portByte p 0xA5).portByte p 0x5A).portBytes p f.afterSync := rfl
    _ = _ := ends
    _ = _ := by rw [second, State.modPort_modPort, List.nil_append, State.frameEnds_afterSync, State.modPort_modPort]

/-- A frame that arrives at an idle port passes through the empty buffer and is judged at once (R182). -/
theorem State.frameArrives_idle {s : State} {p : PortId} (f : Frame) (noReply : (s.port p).reply = none)
    (empty : (s.port p).buffer = []) :
    s.frameArrives p f = (s.modPort p fun x => { x with accepted := bump x.accepted }).takeFrame p f := by
  have through : (s.modPort p fun x => { x with accepted := bump x.accepted, buffer := [] }) =
      s.modPort p fun x => { x with accepted := bump x.accepted } := State.modPort_congr (by rw [empty])
  rw [← through]
  simp [State.frameArrives, bufferSize, State.takeNext, noReply, empty]

/-- The bytes of a good frame at a port that takes it are judged at once (R180, R182). -/
theorem exec_frameComplete_taken {s : State} {p : PortId} {f : Frame} {saw : Bool} (dt : Nat) (h : s.takesAt p)
    (hunting : (s.port p).receiver = .hunting saw) (limit : f.body.length ≤ bodyLimit) :
    exec (.frameComplete dt p f.bytes) s = .next ((s.requested dt p).takeFrame p f).endEvent := by
  obtain ⟨running, noReply, empty⟩ := h
  have port : (s.advance dt).port p = s.port p := State.advance_port s dt p
  have bytes : (s.advance dt).portBytes p f.bytes = _ := State.portBytes_frame (by rw [port, hunting]) limit
  calc exec (.frameComplete dt p f.bytes) s = s.event dt fun s => s.portBytes p f.bytes := rfl
    _ = .next ((s.advance dt).portBytes p f.bytes).endEvent := State.event_eq s dt _ running
    _ = .next ((s.requested dt p).takeFrame p f).endEvent := by
      rw [bytes, State.frameArrives_idle f (by simp [noReply]) (by simp [empty]), State.modPort_modPort]
      rfl

end Sys2Proof.Machine
end

section
/-! PROOF. What keeps the fault record and the fault count (R189, R190): every owner's answer but that of FAULT_CLEAR,
by way of the shared operations the owners use. -/

namespace Sys2Proof.Machine

/-- The fault record and the fault count are as they were. -/
structure FaultFrame (s t : State) : Prop where
  faultRecord : t.faultRecord = s.faultRecord
  faultCount : t.faultCount = s.faultCount

namespace FaultFrame

variable {s t u : State}

theorem refl : FaultFrame s s := ⟨rfl, rfl⟩

theorem ite {c : Prop} [Decidable c] (h : FaultFrame s t) (k : FaultFrame s u) :
    FaultFrame s (if c then t else u) := by
  split
  · exact h
  · exact k

/-- What changes in assembly, the store and notices alone keeps the fault record (R189). -/
theorem assembly (h : FaultFrame s t) (k : AssemblyFrame t u) : FaultFrame s u :=
  ⟨k.faultRecord.trans h.faultRecord, k.faultCount.trans h.faultCount⟩

theorem foldl {α : Type} {f : State → α → State} (step : ∀ {t x}, FaultFrame s t → FaultFrame s (f t x))
    (l : List α) : ∀ {t : State}, FaultFrame s t → FaultFrame s (l.foldl f t) := by
  induction l with
  | nil => exact id
  | cons x l ih => exact fun h => ih (step h)

/-! ## The changes of one part -/

theorem modStation {i : StationId} {f : Station → Station} (h : FaultFrame s t) : FaultFrame s (t.modStation i f) :=
  ⟨h.faultRecord, h.faultCount⟩

theorem modTracker {i : StationId} {f : Tracker → Tracker} (h : FaultFrame s t) : FaultFrame s (t.modTracker i f) :=
  h.modStation

theorem count {i : StationId} {f : StationCounters → StationCounters} (h : FaultFrame s t) :
    FaultFrame s (t.count i f) := h.modStation

theorem modLink {l : LinkId} {f : Link → Link} (h : FaultFrame s t) : FaultFrame s (t.modLink l f) :=
  ⟨h.faultRecord, h.faultCount⟩

theorem modPort {p : PortId} {f : Port → Port} (h : FaultFrame s t) : FaultFrame s (t.modPort p f) :=
  ⟨(State.modPort_faultRecord t p f).trans h.faultRecord, (State.modPort_faultCount t p f).trans h.faultCount⟩

theorem modTimebase {f : Timebase → Timebase} (h : FaultFrame s t) : FaultFrame s (t.modTimebase f) :=
  ⟨h.faultRecord, h.faultCount⟩

theorem setReservation {i : StationId} {x : Option Reservation} (h : FaultFrame s t) :
    FaultFrame s (t.setReservation i x) := ⟨h.faultRecord, h.faultCount⟩

theorem invalidateReservation {i : StationId} (h : FaultFrame s t) : FaultFrame s (t.invalidateReservation i) :=
  ⟨(State.invalidateReservation_faultRecord t i).trans h.faultRecord,
    (State.invalidateReservation_faultCount t i).trans h.faultCount⟩

theorem raise {k : NoticeKind} (h : FaultFrame s t) : FaultFrame s (t.raise k) := ⟨h.faultRecord, h.faultCount⟩

theorem raiseIf {b : Bool} {k : NoticeKind} (h : FaultFrame s t) : FaultFrame s (t.raiseIf b k) :=
  h.assembly (t.raiseIf_frame b k)

theorem putClock {i : StationId} {c : Clock} (h : FaultFrame s t) : FaultFrame s (t.putClock i c) :=
  h.modStation.raiseIf

theorem reply {p : PortId} {kind : Byte} {tag : BitVec 16} {a : Answer} (h : FaultFrame s a.1) :
    FaultFrame s (State.reply p kind tag a) := h.modPort

theorem endEvent (h : FaultFrame s t) : FaultFrame s t.endEvent := ⟨h.faultRecord, h.faultCount⟩

/-! ## Tracking and links -/

theorem countAbandoned {i : StationId} {k : Nat} {notify : Bool} (h : FaultFrame s t) :
    FaultFrame s (t.countAbandoned i k notify) := h.count.raiseIf

theorem lowerAttempts {i : StationId} (h : FaultFrame s t) : FaultFrame s (t.lowerAttempts i) :=
  h.modTracker.countAbandoned

theorem clearTracking {i : StationId} (h : FaultFrame s t) : FaultFrame s (t.clearTracking i) := by
  unfold State.clearTracking
  exact (h.assembly (t.freeSlots_frame _)).countAbandoned.modTracker

theorem endBackfill {l : LinkId} {e : Ending} (h : FaultFrame s t) : FaultFrame s (t.endBackfill l e) := by
  unfold State.endBackfill
  split
  · exact h
  · exact h.modLink.modTracker.countAbandoned

theorem abandonProbe {l : LinkId} (h : FaultFrame s t) : FaultFrame s (t.abandonProbe l) := by
  unfold State.abandonProbe
  split
  · exact h.modLink.raiseIf
  · exact h

theorem resetLink {l : LinkId} (h : FaultFrame s t) : FaultFrame s (t.resetLink l) := by
  unfold State.resetLink State.loseSlots
  exact (h.assembly (t.leaveWaiting_frame l)).modLink.endBackfill.abandonProbe.modLink.modLink

theorem pushControl {l : LinkId} {e : Entry} (h : FaultFrame s t) : FaultFrame s (t.pushControl l e) :=
  .ite h.modLink h.modLink.raise

theorem downAfterReset {l : LinkId} {before : LinkState} (h : FaultFrame s t) :
    FaultFrame s (t.downAfterReset l before) :=
  .ite h (.ite h.modLink.pushControl.raise h.modLink)

theorem switchLink {l : LinkId} {on : Bool} (h : FaultFrame s t) : FaultFrame s (t.switchLink l on) :=
  .ite (.ite h.modLink h) (.ite h h.resetLink.modLink)

theorem dropBlockedHead {i : StationId} {l : LinkId} (h : FaultFrame s t) : FaultFrame s (t.dropBlockedHead i l) := by
  unfold State.dropBlockedHead
  split
  · split
    · exact .ite (h.modLink.modLink.modLink.assembly (State.leaveWaiting_frame _ l)) h
    · exact h
  · exact h

theorem disableStation {i : StationId} (h : FaultFrame s t) : FaultFrame s (t.disableStation i) := by
  have unset : FaultFrame s (((t.modStation i Station.disable).clearTracking i).unsetClock i) :=
    h.modStation.clearTracking.putClock
  have removed := (unset.assembly (State.removeExpected_frame _ (stationBit i))).invalidateReservation (i := i)
  have dropped := foldl (f := State.dropBlockedHead i) dropBlockedHead allLinks removed
  unfold State.disableStation
  exact dropped.assembly (State.evalCompletion_frame _)

theorem configure {i : StationId} {new : StationConfig} {calibrated : Bool} (h : FaultFrame s t) :
    FaultFrame s (t.configure i new calibrated) := by
  unfold State.configure
  dsimp only
  split
  · exact (ite h.modStation.putClock.invalidateReservation h.modStation.putClock).lowerAttempts.assembly
      (State.evalCompletion_frame _)
  · exact ite h.modStation.putClock.invalidateReservation h.modStation.putClock

/-! ## Selection -/

theorem setSelection {x : Option RefId} (h : FaultFrame s t) : FaultFrame s (t.setSelection x) :=
  .ite h h.modTimebase.raise

theorem enterHoldover (h : FaultFrame s t) : FaultFrame s t.enterHoldover :=
  .ite (.ite h (foldl abandonProbe allLinks h.modTimebase.raise)) h

theorem checkSelection (h : FaultFrame s t) : FaultFrame s t.checkSelection :=
  .ite (.ite h.setSelection (.ite h.setSelection h)) h

/-! ## The shape of an answer -/

theorem ok {fields : List Byte} (h : FaultFrame s t) : FaultFrame s (t.ok fields).1 := h

theorem refuse {r : Result} (h : FaultFrame s t) : FaultFrame s (t.refuse r).1 := h

theorem onStation {b : Byte} {f : StationId → Answer} (h : ∀ i, FaultFrame s (f i).1) :
    FaultFrame s (s.onStation b f).1 := by
  unfold State.onStation
  split
  · exact h _
  · exact refl.refuse

theorem onLink {b : Byte} {f : LinkId → Answer} (h : ∀ l, FaultFrame s (f l).1) :
    FaultFrame s (s.onLink b f).1 := by
  unfold State.onLink
  split
  · exact h _
  · exact refl.refuse

theorem onClear {c : Option Byte} {f : Bool → Answer} (h : ∀ b, FaultFrame s (f b).1) :
    FaultFrame s (s.onClear c f).1 := by
  unfold State.onClear
  split
  · exact h _
  · exact refl.refuse

theorem onGrid {f : Grid → Answer} (h : ∀ g, FaultFrame s (f g).1) : FaultFrame s (s.onGrid f).1 := by
  unfold State.onGrid
  split
  · exact h _
  · exact refl.refuse

theorem onEpoch {n : BitVec 64} {f : Epoch → Answer} (h : ∀ e, FaultFrame s (f e).1) :
    FaultFrame s (s.onEpoch n f).1 := by
  unfold State.onEpoch
  split
  · exact h _
  · exact refl.refuse

/-! ## The owners' answers -/

theorem answerPartInfo (clear : Option Byte) : FaultFrame s (s.answerPartInfo clear).1 :=
  onClear fun _ => ok (.ite ⟨rfl, rfl⟩ refl)

theorem answerGridSet (e o : Byte) (reserved : BitVec 7) (l : Option (BitVec 16)) :
    FaultFrame s (s.answerGridSet e o reserved l).1 := by
  unfold State.answerGridSet
  split
  · exact refl.refuse
  · split
    · exact refl.refuse
    · exact refl.modTimebase.ok

theorem answerTimebaseStatus (clear : Option Byte) : FaultFrame s (s.answerTimebaseStatus clear).1 :=
  onClear fun _ => ok (.ite refl.modTimebase refl)

theorem answerRefConfig (r : RefId) (switch : Byte) (reserved : BitVec 7) (depth : Option (BitVec 32)) :
    FaultFrame s (s.answerRefConfig r switch reserved depth).1 := by
  unfold State.answerRefConfig
  split
  · exact refl.refuse
  · split
    · exact refl.refuse
    · split
      · exact refl.refuse
      · exact refl.modTimebase.ok

theorem answerHubConfig (switch : Byte) (reserved : BitVec 7) (limit : Option (BitVec 32)) :
    FaultFrame s (s.answerHubConfig switch reserved limit).1 := by
  unfold State.answerHubConfig
  split
  · exact refl.refuse
  · split
    · exact refl.refuse
    · exact ok (.ite refl.modTimebase.checkSelection refl.modTimebase)

theorem answerRefTarget (target switch : Byte) (reserved : BitVec 7) (value : Option (BitVec 32)) :
    FaultFrame s (s.answerRefTarget target switch reserved value).1 := by
  unfold State.answerRefTarget
  split
  · exact answerRefConfig .refA switch reserved value
  · exact answerRefConfig .refB switch reserved value
  · exact answerHubConfig switch reserved value
  · exact refl.refuse

theorem select (r : RefId) : FaultFrame s (s.select r).1 := by
  unfold State.select
  split
  · exact refl.setSelection.ok
  · exact refl.refuse

theorem answerRefSelect (selection : Byte) : FaultFrame s (s.answerRefSelect selection).1 := by
  unfold State.answerRefSelect
  split
  · exact refl.setSelection.enterHoldover.ok
  · exact select .refA
  · exact select .refB
  · exact refl.refuse

theorem answerLinkConfig (link enable : Byte) (f : LinkFields) :
    FaultFrame s (s.answerLinkConfig link enable f).1 :=
  onLink fun l => by
    split
    · exact refl.refuse
    · split
      · exact refl.refuse
      · exact refl.modLink.switchLink.ok

theorem answerLinkStatus (link : Byte) (clear : Option Byte) :
    FaultFrame s (s.answerLinkStatus link clear).1 :=
  onLink fun _ => onClear fun _ => ok (.ite refl.modLink refl)

theorem answerLinkReset (link : Byte) : FaultFrame s (s.answerLinkReset link).1 :=
  onLink fun _ => refl.resetLink.downAfterReset.ok

theorem answerStationBind (station link address rate components : Byte) :
    FaultFrame s (s.answerStationBind station link address rate components).1 :=
  onStation fun i => by
    split
    · exact refl.refuse
    · split
      · exact refl.refuse
      · exact refl.modStation.ok

theorem answerStationEnable (station : Byte) : FaultFrame s (s.answerStationEnable station).1 :=
  onStation fun i => by
    split
    · exact refl.refuse
    · split
      · exact refl.refuse
      · split
        · exact refl
        · exact refl.modStation.ok

theorem answerStationDisable (station : Byte) : FaultFrame s (s.answerStationDisable station).1 :=
  onStation fun i => by
    split
    · exact refl.disableStation.ok
    · exact refl.refuse

theorem answerStationConfig (station : Byte) (f : SettingFields) :
    FaultFrame s (s.answerStationConfig station f).1 :=
  onStation fun i => by
    dsimp only
    split
    · exact refl.refuse
    · split
      · exact refl.refuse
      · split
        · exact refl.refuse
        · exact refl.configure.ok

theorem answerStationStats (station : Byte) (clear : Option Byte) :
    FaultFrame s (s.answerStationStats station clear).1 :=
  onStation fun _ => onClear fun _ => ok (.ite refl.count refl)

theorem answerCalSet (station : Byte) (value : BitVec 32) :
    FaultFrame s (s.answerCalSet station value).1 :=
  onStation fun i => by
    split
    · exact ok (invalidateReservation refl.modStation)
    · exact refl.refuse

theorem answerCalReserve (p : PortId) (station : Byte) :
    FaultFrame s (s.answerCalReserve p station).1 :=
  onStation fun i => by
    split
    · exact refl.setReservation.ok
    · exact refl.refuse

theorem answerCalStage (p : PortId) (station : Byte) (value : BitVec 32) :
    FaultFrame s (s.answerCalStage p station value).1 :=
  onStation fun i => by
    split
    · exact refl.setReservation.ok
    · exact refl.setReservation.ok
    · exact refl.ok

theorem answerCalApply (p : PortId) (station : Byte) : FaultFrame s (s.answerCalApply p station).1 :=
  onStation fun i => by
    dsimp only
    split
    · exact ok (modStation (.ite refl.setReservation refl))
    · exact ok (.ite refl.setReservation refl)

theorem answerProbeNow (station : Byte) : FaultFrame s (s.answerProbeNow station).1 :=
  onStation fun i => by
    split
    · exact refl.refuse
    · split
      · exact refl.refuse
      · split
        · exact refl.modStation.ok
        · exact refl.refuse

theorem answerEpochList (clear : Option Byte) : FaultFrame s (s.answerEpochList clear).1 :=
  onGrid fun _ => onClear fun _ => ok (.ite (refl.assembly (s.modAssembler_frame _)) refl)

theorem answerContribFetch (n : BitVec 64) (station : Byte) (position : BitVec 16) :
    FaultFrame s (s.answerContribFetch n station position).1 :=
  onGrid fun _ => onStation fun _ => onEpoch fun _ => by
    split
    · exact refl.refuse
    · split
      · exact refl.ok
      · exact refl.refuse

theorem answerEpochRelease (p : PortId) (n : BitVec 64) : FaultFrame s (s.answerEpochRelease p n).1 :=
  onGrid fun _ => onEpoch fun e => by
    have released : FaultFrame s (s.modEpoch e.number fun x => { x with released := x.released.add p }) :=
      refl.assembly (s.modAssembler_frame _)
    dsimp only
    split
    · exact refl.refuse
    · split
      · exact refl.refuse
      · split
        · exact (released.assembly (State.freeEpoch_frame _ _)).ok
        · exact released.ok

theorem unsubscribe (p : PortId) : FaultFrame s (s.unsubscribe p).1 :=
  ((refl.modPort.assembly (State.modAssembler_frame _ _)).assembly (State.freeReleased_frame _)).ok

theorem answerSubscribe (p : PortId) (switch : Byte) : FaultFrame s (s.answerSubscribe p switch).1 := by
  unfold State.answerSubscribe
  split
  · exact refl.refuse
  · split
    · exact refl.refuse
    · split
      · exact refl.modPort.ok
      · exact unsubscribe p

theorem answerNoticeMask (p : PortId) (m : KindSwitches) : FaultFrame s (s.answerNoticeMask p m).1 := by
  unfold State.answerNoticeMask
  split
  · exact refl.refuse
  · exact refl.modPort.ok

theorem answerNoticePoll (p : PortId) : FaultFrame s (s.answerNoticePoll p).1 := refl.modPort.ok

/-- Of the owners' answers that of FAULT_CLEAR alone touches the fault record or the fault count (R189, R190). -/
theorem answer (s : State) (p : PortId) {r : Request} (h : r ≠ .faultClear) : FaultFrame s (s.answer p r).1 := by
  cases r with
  | faultClear => exact absurd rfl h
  | partReset | faultRead => exact refl
  | partInfo c => exact answerPartInfo c
  | gridSet e o reserved l => exact answerGridSet e o reserved l
  | gridGet => exact onGrid fun _ => refl.ok
  | timebaseStatus c => exact answerTimebaseStatus c
  | refConfig target switch reserved v => exact answerRefTarget target switch reserved v
  | refSelect x => exact answerRefSelect x
  | linkConfig l en f => exact answerLinkConfig l en f
  | linkStatus l c => exact answerLinkStatus l c
  | linkReset l => exact answerLinkReset l
  | stationBind i l a rate c => exact answerStationBind i l a rate c
  | stationEnable i => exact answerStationEnable i
  | stationDisable i => exact answerStationDisable i
  | stationConfig i f => exact answerStationConfig i f
  | stationStatus i => exact onStation fun _ => refl.ok
  | stationStats i c => exact answerStationStats i c
  | calSet i v => exact answerCalSet i v
  | calReserve i => exact answerCalReserve p i
  | calStage i v => exact answerCalStage p i v
  | calApply i => exact answerCalApply p i
  | probeNow i => exact answerProbeNow i
  | epochList c => exact answerEpochList c
  | epochSummary n => exact onGrid fun _ => onEpoch fun _ => refl.ok
  | contribFetch n i k => exact answerContribFetch n i k
  | epochRelease n => exact answerEpochRelease p n
  | subscribe switch => exact answerSubscribe p switch
  | noticeMask m => exact answerNoticeMask p m
  | noticePoll => exact answerNoticePoll p

end FaultFrame

end Sys2Proof.Machine
end

section
/-! PROOF. The role test (R189), the notice requests (R186, R187) and the fault requests (R190). -/

namespace Sys2Proof.Machine

/-! ## Requests taken by their rows -/

/-- The row of a request is the event in which the request arrives. -/
theorem exec_row {dt : Nat} {p : PortId} {tag : BitVec 16} {r : Request} {c : Instr}
    (h : Request.row dt p tag r = some c) (s : State) : exec c s = s.event dt (State.requestArrives p tag r) := by
  cases r with
  | refConfig target switch reserved v =>
    simp only [Request.row] at h
    split at h
    · next target1 => cases h; subst target1; rfl
    · split at h
      · next target2 => cases h; subst target2; rfl
      · split at h
        · next target3 => cases h; subst target3; rfl
        · cases h
  | _ => cases h; rfl

/-- A request's row at a port that takes it makes what the port serves the pending reply (R180 to R183). -/
theorem exec_row_taken {dt : Nat} {p : PortId} {tag : BitVec 16} {r : Request} {c : Instr} {s : State}
    (h : Request.row dt p tag r = some c) (takes : s.takesAt p) :
    exec c s = .next (((s.requested dt p).serve p r).1.answered p (requestKind r) tag
      ((s.requested dt p).serve p r).2) :=
  (exec_row h s).trans (State.event_taken dt tag r takes)

/-- The bytes of a request's frame at a port that takes it do the same as its row (R180 to R183). -/
theorem exec_requestFrame_taken {dt : Nat} {p : PortId} {tag : BitVec 16} {r : Request} {s : State} {saw : Bool}
    (takes : s.takesAt p) (hunting : (s.port p).receiver = .hunting saw) :
    exec (.frameComplete dt p (requestFrame r tag).bytes) s =
      .next (((s.requested dt p).serve p r).1.answered p (requestKind r) tag
        ((s.requested dt p).serve p r).2) := by
  have judged : (s.requested dt p).takeFrame p (requestFrame r tag) =
      State.reply p (requestKind r) tag ((s.requested dt p).serve p r) := by
    simp only [State.takeFrame, requestFrame, decodeRequest_request]
  rw [exec_frameComplete_taken dt takes hunting (requestBody_length_le r), judged]
  rfl

/-! ## The role test (R189) -/

/-- The requests of a control port are the eleven kinds of R189. -/
theorem controlOnly_eq (r : Request) : Request.controlOnly r = decide (requestKind r ∈ controlKinds) := by
  cases r <;> rfl

/-- The station number a refused request carries is the first byte of its body, for the kinds that carry one. -/
theorem stationCarried_eq (r : Request) :
    Request.stationCarried r = if requestKind r ∈ stationKinds then (requestBody r).head? else none := by
  cases r <;> rfl

/-- A request of R189 at an observe port is refused (R189). -/
theorem State.serve_refused {s : State} {p : PortId} {r : Request} (kind : requestKind r ∈ controlKinds)
    (role : (s.port p).role = .observe) : s.serve p r = s.notPermitted p r :=
  if_pos ⟨by simp [controlOnly_eq, kind], role⟩

/-- Any other request, and every request at a control port, is its owner's (R182, R189). -/
theorem State.serve_owned {s : State} {p : PortId} {r : Request}
    (h : requestKind r ∉ controlKinds ∨ (s.port p).role = .control) : s.serve p r = s.answer p r :=
  State.serve_allowed (h.imp_left fun kind => by simp [controlOnly_eq, kind])

/-- A frame that no request decodes is refused without a fault (R182, R189). -/
theorem FaultFrame.takeFrame_refused {s : State} {p : PortId} {f : Frame}
    (h : ∀ r, decodeRequest f.kind f.body ≠ .request r) : FaultFrame s (s.takeFrame p f) := by
  unfold State.takeFrame
  split
  · exact refl.refuse.reply
  · exact refl.refuse.reply
  · next r decoded => exact absurd decoded (h r)

/-- Settles O12: a request of R189 at an observe port is refused by row and by frame alike, every other answer is its
owner's and keeps the fault record, and so does a frame refused before the role test. -/
theorem observeRequestIsRefused : Obligations.ObserveRequestIsRefused := by
  refine ⟨?refused, ?owned, ?undecoded⟩
  case refused =>
    intro dt p tag r c s saw kind takes role hunting taken
    have served : (s.requested dt p).serve p r = (s.requested dt p).notPermitted p r :=
      State.serve_refused kind (by simpa using role)
    have answered : exec c s = .next (((s.requested dt p).notPermitted p r).1.answered p (requestKind r) tag [5]) := by
      rcases taken with row | rfl
      · rw [exec_row_taken row takes, served]; rfl
      · rw [exec_requestFrame_taken takes hunting, served]; rfl
    rw [answered, State.notPermitted, stationCarried_eq, State.requested_faultCount]
    rfl
  case owned =>
    intro dt p tag r c s row takes allowed
    have owned : (s.requested dt p).serve p r = (s.requested dt p).answer p r :=
      State.serve_owned (by simpa using allowed)
    refine ⟨by rw [exec_row_taken row takes, owned], fun notClear => ?_⟩
    have kept := FaultFrame.answer (s.requested dt p) p notClear
    exact ⟨by simpa using kept.faultRecord, by simpa using kept.faultCount⟩
  case undecoded =>
    intro dt p f s saw takes hunting limit undecoded
    have kept : FaultFrame (s.requested dt p) ((s.requested dt p).takeFrame p f).endEvent :=
      (FaultFrame.takeFrame_refused undecoded).endEvent
    exact ⟨_, exec_frameComplete_taken dt takes hunting limit, by simpa using kept.faultRecord,
      by simpa using kept.faultCount⟩

/-! ## NOTICE_MASK (R186) -/

@[simp] theorem switchOf_boolByte (b : Bool) : switchOf (boolByte b) = some b := by
  cases b <;> rfl

theorem switchOf_of_ne {b : Byte} (off : b ≠ 0) (on : b ≠ 1) : switchOf b = none := by
  rw [switchOf, if_neg off, if_neg on]

/-- Eight switches are the notice set with kind k at bit k. -/
theorem maskOf_switches (e st g l r so f pr : Bool) :
    maskOf { epoch := boolByte e, station := boolByte st, gap := boolByte g, link := boolByte l,
             reference := boolByte r, store := boolByte so, fault := boolByte f, probe := boolByte pr } =
      some (BitVec.ofNat 8 (e.toNat + 2 * st.toNat + 4 * g.toNat + 8 * l.toNat + 16 * r.toNat + 32 * so.toNat +
        64 * f.toNat + 128 * pr.toNat)) := by
  simp only [maskOf, switchOf_boolByte, Option.bind_eq_bind, Option.bind_some, Option.pure_def, Option.some.injEq]
  decide +revert

/-- A switch byte that is neither ON nor OFF leaves no mask. -/
theorem maskOf_bad {m : KindSwitches}
    (h : ∃ b ∈ [m.epoch, m.station, m.gap, m.link, m.reference, m.store, m.fault, m.probe], b ≠ 0 ∧ b ≠ 1) :
    maskOf m = none := by
  obtain ⟨b, hb, off, on⟩ := h
  have bad := switchOf_of_ne off on
  simp only [List.mem_cons, List.not_mem_nil, or_false] at hb
  rcases hb with rfl | rfl | rfl | rfl | rfl | rfl | rfl | rfl <;> simp [maskOf, bad]

/-- Either role allows NOTICE_MASK. -/
theorem exec_noticeMask {s : State} {p : PortId} (dt : Nat) (tag : BitVec 16) (m : KindSwitches) (h : s.takesAt p) :
    exec (.noticeMask dt p tag m) s = .next (((s.requested dt p).answerNoticeMask p m).1.answered p 0x1B tag
      ((s.requested dt p).answerNoticeMask p m).2) := by
  have allowed : (s.requested dt p).serve p (.noticeMask m) = (s.requested dt p).answerNoticeMask p m :=
    State.serve_allowed (.inl rfl)
  rw [← allowed]
  exact exec_row_taken rfl h

/-- Settles O13: the answer follows the mask that the switches give, if they give one. -/
theorem noticeMaskReplacesTheMask : Obligations.NoticeMaskReplacesTheMask := by
  refine ⟨?replaced, ?badSwitch, ?allOff⟩
  case replaced =>
    intro dt p tag e st g l r so f pr s takes
    rw [exec_noticeMask dt tag _ takes]
    simp [State.answerNoticeMask, maskOf_switches, State.ok, Result.code]
  case badSwitch =>
    intro dt p tag m s takes bad
    rw [exec_noticeMask dt tag m takes]
    simp [State.answerNoticeMask, maskOf_bad bad, State.refuse, Result.code]
  case allOff =>
    intro x k mask empty
    simp [Port.raise, mask, empty]

/-! ## NOTICE_POLL (R187) -/

/-- A free line without a reply sends the whole set as a NOTICE, which leaves it empty (R184). -/
theorem Port.choose_notice {x : Port} (now : Nat) (free : x.line = .free) (noReply : x.reply = none)
    (raised : x.notices ≠ 0) : x.choose now = { x with line := .notice x.notices now, notices := 0 } := by
  simp only [Port.choose, free, noReply, Option.isSome_none, Bool.false_eq_true, if_false]
  exact if_pos raised

/-- A free line without a reply and with an empty set sends nothing (R184). -/
theorem Port.choose_nothing {x : Port} (now : Nat) (free : x.line = .free) (noReply : x.reply = none)
    (empty : x.notices = 0) : x.choose now = x := by
  simp [Port.choose, free, noReply, empty]

/-- Settles O14: the poll's answer, the choice of a free line before and after it, and a kind raised after it. -/
theorem noticePollEmptiesTheSet : Obligations.NoticePollEmptiesTheSet := by
  refine ⟨?poll, ?line, ?raised⟩
  case poll =>
    intro dt p tag s takes
    have served : (s.requested dt p).serve p .noticePoll = (s.requested dt p).answerNoticePoll p :=
      State.serve_allowed (.inl rfl)
    rw [exec_row_taken (r := .noticePoll) rfl takes, served]
    simp [State.answerNoticePoll, State.ok, Result.code, requestKind]
  case line =>
    intro x now free noReply
    exact ⟨Port.choose_notice now free noReply, Port.choose_nothing now free noReply⟩
  case raised =>
    intro x k empty
    simp [Port.raise, empty]

/-! ## FAULT_READ and FAULT_CLEAR (R190) -/

theorem State.faultReport_of_none {s : State} (h : s.faultRecord = none) :
    s.faultReport = [0, 0, 0, 0, 0, BitVec.ofNat 8 s.faultCount] := by
  simp [State.faultReport, h, optional, be]

/-- A fault record's fields: presence, port, kind, and the station if the request named one (R190, chapter 11). -/
theorem State.faultReport_of_some {s : State} {x : FaultRecord} (h : s.faultRecord = some x) :
    s.faultReport = [1, if x.port = .mp0 then 0 else 1, x.kind, if x.station.isSome then 1 else 0, x.station.getD 0,
      BitVec.ofNat 8 s.faultCount] := by
  obtain ⟨port, kind, station⟩ := x
  cases port <;> cases station <;> simp [State.faultReport, h, FaultRecord.fields, optional, PortId.code, be]

/-- A report taken with the request is that of the state before it: time and the port's receiver are not in it. -/
theorem State.requested_faultReport (s : State) (dt : Nat) (p : PortId) :
    (s.requested dt p).faultReport = s.faultReport := by
  simp [State.faultReport]

/-- Settles O15: both answers carry the report of the state before, and FAULT_CLEAR then empties the record. -/
theorem faultReadAndFaultClear : Obligations.FaultReadAndFaultClear := by
  intro dt p tag s takes record body
  have report : (0 : Byte) :: s.faultReport = body := by
    cases fault : s.faultRecord with
    | none => simp [body, record, fault, State.faultReport_of_none fault]
    | some x => simp [body, record, fault, State.faultReport_of_some fault]
  have read : (s.requested dt p).serve p .faultRead = (s.requested dt p).answerFaultRead :=
    State.serve_allowed (.inl rfl)
  have clear : (s.requested dt p).serve p .faultClear = (s.requested dt p).answerFaultClear :=
    State.serve_allowed (.inl rfl)
  rw [exec_row_taken (r := .faultRead) rfl takes, exec_row_taken (r := .faultClear) rfl takes, read, clear,
    State.answerFaultRead, State.answerFaultClear, State.requested_faultReport, ← report]
  exact ⟨rfl, rfl⟩

end Sys2Proof.Machine
end

section
/-! PROOF. What every operation keeps: the invariants of the blocks as one relation between the states before and after,
the changes of one part that keep it, and its passage through frames. -/

namespace Sys2Proof.Machine

/-! ## What only the port machinery touches -/

/-- What of a port no owner of a request touches: role, receiver, input buffer, reply and line. -/
structure Port.SameLine (x y : Port) : Prop where
  role : y.role = x.role
  receiver : y.receiver = x.receiver
  buffer : y.buffer = x.buffer
  reply : y.reply = x.reply
  line : y.line = x.line

namespace Port.SameLine

theorem refl (x : Port) : Port.SameLine x x := ⟨rfl, rfl, rfl, rfl, rfl⟩

theorem trans {x y z : Port} (h : Port.SameLine x y) (k : Port.SameLine y z) : Port.SameLine x z :=
  ⟨k.role.trans h.role, k.receiver.trans h.receiver, k.buffer.trans h.buffer, k.reply.trans h.reply,
    k.line.trans h.line⟩

theorem sound {x y : Port} (h : Port.SameLine x y) (sound : x.sound) : y.sound := by
  obtain ⟨size, idle, sends⟩ := sound
  exact ⟨by rw [h.buffer]; exact size, by rw [h.buffer, h.reply]; exact idle, by rw [h.line, h.reply]; exact sends⟩

end Port.SameLine

/-! ## The parts that the station table and the clocks depend on -/

/-- Enable, binding and settings are as they were. -/
structure Station.SameTable (x y : Station) : Prop where
  binding : y.binding = x.binding
  enabled : y.enabled = x.enabled
  config : y.config = x.config

theorem Station.SameTable.refl (x : Station) : Station.SameTable x x := ⟨rfl, rfl, rfl⟩

theorem Station.SameTable.period {x y : Station} (h : Station.SameTable x y) : y.period = x.period := by
  simp only [Station.period, h.binding]

theorem Station.SameTable.configured {x y : Station} (h : Station.SameTable x y) (sound : x.configured) :
    y.configured := by
  obtain ⟨on, off⟩ := sound
  refine ⟨fun e => ?_, fun e => ?_⟩
  · rw [h.binding, h.config, h.period]; exact on (by rw [← h.enabled, e])
  · rw [h.config]; exact off (by rw [← h.enabled, e])

/-- A table of which no station differs in enable, binding or settings is as sound as before. -/
theorem State.table_of_same {s t : State} (h : ∀ j, Station.SameTable (s.station j) (t.station j))
    (sound : s.tableSound) : t.tableSound := by
  obtain ⟨configured, unique⟩ := sound
  refine ⟨fun j => (h j).configured (configured j), fun i j oni onj pair => unique i j ?_ ?_ ?_⟩
  · rw [← (h i).enabled, oni]
  · rw [← (h j).enabled, onj]
  · simpa only [sharePair, (h i).binding, (h j).binding] using pair

/-- Reservations that are as they were are as sound as before while no station is disabled. -/
theorem State.reservations_of_same {s t : State} (enabled : ∀ j, (t.station j).enabled = (s.station j).enabled)
    (same : t.reservations = s.reservations) (sound : s.reservationsSound) : t.reservationsSound := by
  intro b x entry
  obtain ⟨bank, on, staged⟩ := sound b x (by simpa only [same] using entry)
  exact ⟨bank, by rw [enabled, on], staged⟩

/-! ## The relation -/

/-- Every invariant but that of tracking is kept, each by itself; the ports' lines are as they were. -/
structure RestKeeps (s t : State) : Prop where
  timebase : s.timebase.sound → t.timebase.sound
  port : ∀ p, Port.SameLine (s.port p) (t.port p)
  faultCount : s.faultCount ≤ 255 → t.faultCount ≤ 255
  links : s.linksSound → t.linksSound
  waiting : s.waitingSound → t.waitingSound
  table : s.tableSound → s.reservationsSound → t.tableSound ∧ t.reservationsSound
  clocks : s.clocksSound → t.clocksSound
  pool : s.poolSound → t.poolSound
  slots : s.slotsSound → t.slotsSound

/-- Every invariant is kept, each by itself; the ports' lines are as they were. -/
structure Keeps (s t : State) : Prop extends RestKeeps s t where
  tracking : s.trackingSound → t.trackingSound

theorem RestKeeps.refl (s : State) : RestKeeps s s :=
  ⟨id, fun _ => .refl _, id, id, id, fun h k => ⟨h, k⟩, id, id, id⟩

theorem RestKeeps.trans {s t u : State} (h : RestKeeps s t) (k : RestKeeps t u) : RestKeeps s u where
  timebase := k.timebase ∘ h.timebase
  port p := (h.port p).trans (k.port p)
  faultCount := k.faultCount ∘ h.faultCount
  links := k.links ∘ h.links
  waiting := k.waiting ∘ h.waiting
  table a b := k.table (h.table a b).1 (h.table a b).2
  clocks := k.clocks ∘ h.clocks
  pool := k.pool ∘ h.pool
  slots := k.slots ∘ h.slots

theorem Keeps.refl (s : State) : Keeps s s := ⟨.refl s, id⟩

theorem Keeps.trans {s t u : State} (h : Keeps s t) (k : Keeps t u) : Keeps s u :=
  ⟨h.toRestKeeps.trans k.toRestKeeps, k.tracking ∘ h.tracking⟩

theorem Keeps.ite {s t u : State} {c : Prop} [Decidable c] (h : Keeps s t) (k : Keeps s u) :
    Keeps s (if c then t else u) := by
  split
  · exact h
  · exact k

theorem Keeps.foldl {α : Type} {f : State → α → State} (h : ∀ s x, Keeps s (f s x)) :
    ∀ (l : List α) (s : State), Keeps s (l.foldl f s)
  | [], s => .refl s
  | x :: xs, s => (h s x).trans (Keeps.foldl h xs (f s x))

/-! ## What assembly and tracking frames keep -/

/-- The waiting list, the pool and the slots: what an assembly frame leaves open. -/
structure StoreKeeps (s t : State) : Prop where
  waiting : t.store.waiting = s.store.waiting
  pool : s.poolSound → t.poolSound
  slots : s.slotsSound → t.slotsSound

theorem StoreKeeps.refl (s : State) : StoreKeeps s s := ⟨rfl, id, id⟩

theorem StoreKeeps.trans {s t u : State} (h : StoreKeeps s t) (k : StoreKeeps t u) : StoreKeeps s u :=
  ⟨k.waiting.trans h.waiting, k.pool ∘ h.pool, k.slots ∘ h.slots⟩

theorem StoreKeeps.ite {s t u : State} {c : Prop} [Decidable c] (h : StoreKeeps s t) (k : StoreKeeps s u) :
    StoreKeeps s (if c then t else u) := by
  split
  · exact h
  · exact k

theorem StoreKeeps.foldl {α : Type} {f : State → α → State} (h : ∀ s x, StoreKeeps s (f s x)) :
    ∀ (l : List α) (s : State), StoreKeeps s (l.foldl f s)
  | [], s => .refl s
  | x :: xs, s => (h s x).trans (StoreKeeps.foldl h xs (f s x))

/-- A change that is in neither assembler nor store. -/
theorem StoreKeeps.of_eq {s t : State} (assembler : t.assembler = s.assembler) (store : t.store = s.store) :
    StoreKeeps s t := by
  refine ⟨by rw [store], fun h => ?_, fun h => ?_⟩
  · simpa only [State.poolSound, assembler, store] using h
  · simpa only [State.slotsSound, store] using h

theorem TrackingFrame.sameTable {i : StationId} {s t : State} (h : TrackingFrame i s t) (j : StationId) :
    Station.SameTable (s.station j) (t.station j) := by
  by_cases e : j = i
  · obtain ⟨c, k, x, own⟩ := h.own
    rw [e, own]
    exact ⟨rfl, rfl, rfl⟩
  · rw [h.others j e]
    exact .refl _

theorem TrackingFrame.clock {i : StationId} {s t : State} (h : TrackingFrame i s t) (j : StationId) :
    (t.station j).clock = (s.station j).clock := by
  by_cases e : j = i
  · obtain ⟨c, k, x, own⟩ := h.own
    rw [e, own]
  · rw [h.others j e]

/-- A tracking frame keeps every invariant but tracking, when what it leaves open in the store is kept. -/
theorem TrackingFrame.keeps {i : StationId} {s t : State} (h : TrackingFrame i s t) (k : StoreKeeps s t) :
    RestKeeps s t where
  timebase := by rw [h.timebase]; exact id
  port p := by
    obtain ⟨n, k, e⟩ := h.port p
    rw [e]
    exact ⟨rfl, rfl, rfl, rfl, rfl⟩
  faultCount := by rw [h.faultCount]; exact id
  links sound := by simpa only [State.linksSound, State.link, h.links] using sound
  waiting sound := by simpa only [State.waitingSound, State.link, h.links, k.waiting] using sound
  table a b := ⟨State.table_of_same h.sameTable a,
    State.reservations_of_same (fun j => (h.sameTable j).enabled) h.reservations b⟩
  clocks sound j := by
    rw [h.clock, (h.sameTable j).config]
    exact sound j
  pool := k.pool
  slots := k.slots

/-- An assembly frame keeps every invariant, when what it leaves open in the store is kept. -/
theorem AssemblyFrame.keeps {s t : State} (h : AssemblyFrame s t) (k : StoreKeeps s t) : Keeps s t :=
  ⟨(h.tracking 0).keeps k, fun sound j => by
    have := sound j
    simpa only [State.station, h.stations] using this⟩

/-! ## The changes of one part -/

/-- A change of station i that keeps its place in the table, and its clock sound. -/
theorem RestKeeps.modStation {s : State} {i : StationId} {f : Station → Station}
    (same : Station.SameTable (s.station i) (f (s.station i)))
    (clock : (s.station i).clock.sound (s.station i).config.depth →
      (f (s.station i)).clock.sound (s.station i).config.depth) : RestKeeps s (s.modStation i f) := by
  have sameAll (j : StationId) : Station.SameTable (s.station j) ((s.modStation i f).station j) := by
    rw [State.station_modStation]
    split
    · next e => subst e; exact same
    · exact .refl _
  refine ⟨id, fun p => ?_, id, fun h => ?_, fun h => ?_, fun a b => ⟨State.table_of_same sameAll a,
    State.reservations_of_same (fun j => (sameAll j).enabled) rfl b⟩, fun h j => ?_, id, id⟩
  · rw [State.modStation_port]; exact .refl _
  · simpa only [State.linksSound, State.modStation_link] using h
  · simpa only [State.waitingSound, State.modStation_link, State.modStation_store] using h
  · rw [(sameAll j).config, State.station_modStation]
    split
    · next e => subst e; exact clock (h i)
    · exact h j

/-- Tracking after a change of station i. -/
theorem State.trackingSound_modStation {s : State} {i : StationId} {f : Station → Station}
    (tracker : (s.station i).tracker.sound → (f (s.station i)).tracker.sound) (h : s.trackingSound) :
    (s.modStation i f).trackingSound := by
  intro j
  rw [State.station_modStation]
  split
  · exact tracker (h i)
  · exact h j

theorem Keeps.modStation {s : State} {i : StationId} {f : Station → Station}
    (same : Station.SameTable (s.station i) (f (s.station i)))
    (clock : (s.station i).clock.sound (s.station i).config.depth →
      (f (s.station i)).clock.sound (s.station i).config.depth)
    (tracker : (s.station i).tracker.sound → (f (s.station i)).tracker.sound) : Keeps s (s.modStation i f) :=
  ⟨.modStation same clock, State.trackingSound_modStation tracker⟩

theorem Keeps.count (s : State) (i : StationId) (f : StationCounters → StationCounters) : Keeps s (s.count i f) :=
  .modStation ⟨rfl, rfl, rfl⟩ id id

theorem RestKeeps.modTracker (s : State) (i : StationId) (f : Tracker → Tracker) : RestKeeps s (s.modTracker i f) :=
  .modStation ⟨rfl, rfl, rfl⟩ id

theorem Keeps.modTracker {s : State} {i : StationId} {f : Tracker → Tracker}
    (h : (s.station i).tracker.sound → (f (s.station i).tracker).sound) : Keeps s (s.modTracker i f) :=
  .modStation ⟨rfl, rfl, rfl⟩ id h

/-- A change of link l that keeps it sound and its head blocked or not as it was. -/
theorem Keeps.modLink {s : State} {l : LinkId} {f : Link → Link}
    (sound : (s.link l).sound → (f (s.link l)).sound) (blocked : (f (s.link l)).blocked = (s.link l).blocked) :
    Keeps s (s.modLink l f) := by
  refine ⟨⟨id, fun p => ?_, id, fun h m => ?_, fun h => ?_, fun a b => ⟨?_, ?_⟩, fun h => ?_, id, id⟩, fun h => ?_⟩
  · rw [State.modLink_port]; exact .refl _
  · rw [State.link_modLink]
    split
    · exact sound (h l)
    · exact h m
  · refine ⟨h.1, fun m => (h.2 m).trans ?_⟩
    rw [State.link_modLink]
    split
    · next e => rw [← e, blocked]
    · rfl
  · simpa only [State.tableSound, State.modLink_station] using a
  · simpa only [State.reservationsSound, State.modLink_station, State.modLink_reservations] using b
  · simpa only [State.clocksSound, State.modLink_station] using h
  · simpa only [State.trackingSound, State.modLink_station] using h

theorem Keeps.modPort {s : State} {p : PortId} {f : Port → Port}
    (h : Port.SameLine (s.port p) (f (s.port p))) : Keeps s (s.modPort p f) := by
  refine ⟨⟨by simp, fun q => ?_, by simp, fun k => ?_, fun k => ?_, fun a b => ⟨?_, ?_⟩, fun k => ?_, fun k => ?_,
    fun k => ?_⟩, fun k => ?_⟩
  · by_cases e : p = q
    · subst e; rw [State.modPort_self]; exact h
    · rw [State.modPort_ne s f e]; exact .refl _
  · simpa only [State.linksSound, State.modPort_link] using k
  · simpa only [State.waitingSound, State.modPort_link, State.modPort_store] using k
  · simpa only [State.tableSound, State.modPort_station] using a
  · simpa only [State.reservationsSound, State.modPort_station, State.modPort_reservations] using b
  · simpa only [State.clocksSound, State.modPort_station] using k
  · simpa only [State.poolSound, State.modPort_store, State.modPort_assembler] using k
  · simpa only [State.slotsSound, State.modPort_store] using k
  · simpa only [State.trackingSound, State.modPort_station] using k

theorem Keeps.modTimebase {s : State} {f : Timebase → Timebase}
    (h : s.timebase.sound → (f s.timebase).sound) : Keeps s (s.modTimebase f) := by
  refine ⟨⟨h, fun q => ?_, id, id, id, fun a b => ⟨a, b⟩, id, id, id⟩, id⟩
  rw [State.modTimebase_port]; exact .refl _

theorem Keeps.raise (s : State) (k : NoticeKind) : Keeps s (s.raise k) :=
  (s.raise_frame k).keeps (.of_eq rfl rfl)

theorem Keeps.raiseIf (s : State) (b : Bool) (k : NoticeKind) : Keeps s (s.raiseIf b k) :=
  (s.raiseIf_frame b k).keeps (.of_eq (by cases b <;> rfl) (by cases b <;> rfl))

end Sys2Proof.Machine
end

section
/-! PROOF. The record slots (R167 to R171): taking the lowest FREE slot, returning slots and references, and that the
slots in use stay distinct and in range. -/

namespace Sys2Proof.Machine

/-! ## The lowest FREE slot -/

theorem le_lowestFree (l : List Slot) : ∀ k, k ≤ lowestFree k l := by
  induction l with
  | nil => exact fun k => le_refl k
  | cons x xs ih =>
    intro k
    simp only [lowestFree]
    split
    · exact (Nat.le_succ k).trans (ih (k + 1))
    · exact le_refl k

/-- The slots up to the lowest FREE one are all in use, so there are at least as many. -/
theorem lowestFree_le (l : List Slot) : ∀ k, lowestFree k l ≤ k + l.length := by
  induction l with
  | nil => exact fun k => le_refl k
  | cons x xs ih =>
    intro k
    simp only [lowestFree, List.length_cons]
    split
    · have := ih (k + 1); omega
    · omega

/-- Every number below the lowest FREE one is in use. -/
theorem exists_of_lt_lowestFree (l : List Slot) :
    ∀ k j, k ≤ j → j < lowestFree k l → ∃ x ∈ l, x.number = j := by
  induction l with
  | nil => intro k j from_ upTo; exact absurd upTo (Nat.not_lt.mpr from_)
  | cons x xs ih =>
    intro k j from_ upTo
    simp only [lowestFree] at upTo
    split at upTo
    · next here =>
      by_cases e : j = k
      · exact ⟨x, by simp, by rw [here, e]⟩
      · obtain ⟨y, mem, number⟩ := ih (k + 1) j (by omega) upTo
        exact ⟨y, by simp [mem], number⟩
    · omega

/-- The lowest FREE number is not in use. -/
theorem lowestFree_free {l : List Slot} (sorted : l.Pairwise fun x y => x.number < y.number) :
    ∀ k, (∀ x ∈ l, k ≤ x.number) → ∀ x ∈ l, x.number ≠ lowestFree k l := by
  induction l with
  | nil => simp
  | cons y ys ih =>
    intro k above x mem
    obtain ⟨first, rest⟩ := List.pairwise_cons.mp sorted
    have aboveY := above y (by simp)
    simp only [lowestFree]
    split
    · next here =>
      have next := ih rest (k + 1) fun z hz => by have := first z hz; omega
      rcases List.mem_cons.mp mem with rfl | mem
      · have := le_lowestFree ys (k + 1); omega
      · exact next x mem
    · rcases List.mem_cons.mp mem with rfl | mem
      · assumption
      · have := first x mem; omega

theorem mem_insertSlot {x y : Slot} {l : List Slot} : y ∈ insertSlot x l ↔ y = x ∨ y ∈ l := by
  induction l with
  | nil => simp [insertSlot]
  | cons z zs ih =>
    simp only [insertSlot]
    split
    · simp
    · simp only [List.mem_cons, ih]; tauto

theorem insertSlot_length (x : Slot) (l : List Slot) : (insertSlot x l).length = l.length + 1 := by
  induction l with
  | nil => rfl
  | cons z zs ih =>
    simp only [insertSlot]
    split <;> simp [ih]

theorem insertSlot_pairwise {x : Slot} {l : List Slot} (sorted : l.Pairwise fun a b => a.number < b.number)
    (free : ∀ y ∈ l, y.number ≠ x.number) : (insertSlot x l).Pairwise fun a b => a.number < b.number := by
  induction l with
  | nil => simp [insertSlot]
  | cons z zs ih =>
    obtain ⟨first, rest⟩ := List.pairwise_cons.mp sorted
    simp only [insertSlot]
    split
    · next below =>
      refine List.pairwise_cons.mpr ⟨fun y mem => ?_, sorted⟩
      rcases List.mem_cons.mp mem with rfl | mem
      · exact below
      · exact below.trans (first y mem)
    · next above =>
      have ne := free z (by simp)
      refine List.pairwise_cons.mpr ⟨fun y mem => ?_, ih rest fun y mem => free y (by simp [mem])⟩
      rcases mem_insertSlot.mp mem with rfl | mem
      · omega
      · exact first y mem

/-! ## Slots in use -/

/-- The slots are sound when their numbers rise and stay below the number of slots. -/
theorem State.slotsSound_iff (s : State) :
    s.slotsSound ↔ (s.store.slots.map Slot.number).Pairwise (· < ·) ∧
      ∀ k ∈ s.store.slots.map Slot.number, k < slotCount := by
  simp [State.slotsSound, List.pairwise_map]

/-- Slots of which some may have left, and whose contents may differ, are as sound as before. -/
theorem State.slotsSound_of_sublist {s t : State}
    (h : (t.store.slots.map Slot.number).Sublist (s.store.slots.map Slot.number)) (sound : s.slotsSound) :
    t.slotsSound := by
  rw [State.slotsSound_iff] at sound ⊢
  exact ⟨sound.1.sublist h, fun k mem => sound.2 k (h.subset mem)⟩

theorem dropReference_numbers (k : Nat) (l : List Slot) :
    ((dropReference k l).map Slot.number).Sublist (l.map Slot.number) := by
  induction l with
  | nil => exact List.Sublist.refl _
  | cons x xs ih =>
    simp only [dropReference]
    split
    · split
      · exact List.sublist_cons_self _ _
      · exact List.Sublist.refl _
    · exact ih.cons_cons _

theorem dropReferences_numbers (cs : List Contribution) :
    ∀ l : List Slot, ((cs.foldl (fun l c => dropReference c.slot l) l).map Slot.number).Sublist
      (l.map Slot.number) := by
  induction cs with
  | nil => exact fun l => List.Sublist.refl _
  | cons c cs ih => exact fun l => (ih _).trans (dropReference_numbers c.slot l)

/-! ## The store's operations -/

theorem State.freeSlot_storeKeeps (s : State) (k : Nat) : StoreKeeps s (s.freeSlot k) :=
  ⟨rfl, id, State.slotsSound_of_sublist (List.filter_sublist.map _)⟩

theorem State.freeSlots_storeKeeps (s : State) (ks : List Nat) : StoreKeeps s (s.freeSlots ks) :=
  .foldl State.freeSlot_storeKeeps ks s

/-- A change of a slot's contents. -/
theorem State.modSlot_storeKeeps (s : State) (k : Nat) {f : Slot → Slot} (number : ∀ x, (f x).number = x.number) :
    StoreKeeps s (s.modSlot k f) := by
  have same : (s.modSlot k f).store.slots.map Slot.number = s.store.slots.map Slot.number := by
    simp only [State.modSlot, State.modStore, List.map_map]
    refine List.map_congr_left fun x _ => ?_
    simp only [Function.comp]
    split
    · exact number x
    · rfl
  exact ⟨rfl, id, State.slotsSound_of_sublist (by rw [same])⟩

theorem State.takeSlot_fst (s : State) (r : Record) : (s.takeSlot r).1 = lowestFree 0 s.store.slots := rfl

/-- The state in which a record has taken the lowest FREE slot (R168). -/
theorem State.takeSlot_snd (s : State) (r : Record) :
    (s.takeSlot r).2 = s.modStore fun t => { t with
      slots := insertSlot { number := lowestFree 0 s.store.slots, record := r, timing := none, refs := 0 } t.slots } :=
  rfl

theorem State.lowestFree_free {s : State} (sound : s.slotsSound) :
    ∀ y ∈ s.store.slots, y.number ≠ lowestFree 0 s.store.slots :=
  Machine.lowestFree_free sound.1 0 fun _ _ => Nat.zero_le _

theorem State.lowestFree_lt {s : State} (room : s.store.slots.length < slotCount) :
    lowestFree 0 s.store.slots < slotCount := by
  have := lowestFree_le s.store.slots 0; omega

/-- A slot that is FREE can be taken (R168). -/
theorem State.takeSlot_storeKeeps {s : State} (r : Record) (room : s.slotsFree ≠ 0) :
    StoreKeeps s (s.takeSlot r).2 := by
  refine ⟨rfl, id, fun sound => ⟨insertSlot_pairwise sound.1 (State.lowestFree_free sound), fun x mem => ?_⟩⟩
  rcases mem_insertSlot.mp mem with rfl | mem
  · refine State.lowestFree_lt ?_
    simp only [State.slotsFree, State.slotsInUse] at room
    omega
  · exact sound.2 x mem

end Sys2Proof.Machine
end

section
/-! PROOF. The epoch table (R144, R157 to R163, R171 to R175): an epoch found in a rising table, what freeing, forcing
free and closing make of the state, and that they keep the table, the pool and the slots. -/

namespace Sys2Proof.Machine

/-! ## Epochs of a rising table -/

/-- In a rising table an epoch is told by its number: what comes before it is below, what comes after it above. -/
theorem epochs_split {before after : List Epoch} {e : Epoch}
    (sorted : (before ++ e :: after).Pairwise fun x y => x.number < y.number) :
    (∀ x ∈ before, x.number < e.number) ∧ ∀ x ∈ after, e.number < x.number := by
  obtain ⟨_, tail, cross⟩ := List.pairwise_append.mp sorted
  exact ⟨fun x mem => cross x mem e (by simp), (List.pairwise_cons.mp tail).1⟩

/-- The epochs of other numbers are those before and after. -/
theorem filter_number_ne {before after : List Epoch} {e : Epoch}
    (sorted : (before ++ e :: after).Pairwise fun x y => x.number < y.number) :
    ((before ++ e :: after).filter fun x => decide (x.number ≠ e.number)) = before ++ after := by
  obtain ⟨below, above⟩ := epochs_split sorted
  have first : (before.filter fun x => decide (x.number ≠ e.number)) = before :=
    List.filter_eq_self.mpr fun x mem => by simpa using (below x mem).ne
  have last : (after.filter fun x => decide (x.number ≠ e.number)) = after :=
    List.filter_eq_self.mpr fun x mem => by simpa using (above x mem).ne'
  rw [List.filter_append, List.filter_cons_of_neg (by simp), first, last]

/-- A change of the epoch numbered as e changes that one alone. -/
theorem map_number_eq {before after : List Epoch} {e : Epoch} (f : Epoch → Epoch)
    (sorted : (before ++ e :: after).Pairwise fun x y => x.number < y.number) :
    ((before ++ e :: after).map fun x => if x.number = e.number then f x else x) = before ++ f e :: after := by
  obtain ⟨below, above⟩ := epochs_split sorted
  have first : (before.map fun x => if x.number = e.number then f x else x) = before :=
    (List.map_congr_left fun x mem => if_neg (below x mem).ne).trans (List.map_id _)
  have last : (after.map fun x => if x.number = e.number then f x else x) = after :=
    (List.map_congr_left fun x mem => if_neg (above x mem).ne').trans (List.map_id _)
  simp [first, last]

theorem epoch_unique {table : List Epoch} (sorted : table.Pairwise fun x y => x.number < y.number) {x y : Epoch}
    (hx : x ∈ table) (hy : y ∈ table) (same : x.number = y.number) : x = y := by
  obtain ⟨before, after, rfl⟩ := List.append_of_mem hx
  obtain ⟨below, above⟩ := epochs_split sorted
  rcases List.mem_append.mp hy with mem | mem
  · have := below y mem; omega
  · rcases List.mem_cons.mp mem with rfl | mem
    · rfl
    · have := above y mem; omega

theorem State.epoch?_of_mem {s : State} (sound : s.assembler.sound) {e : Epoch} (mem : e ∈ s.assembler.table) :
    s.epoch? e.number = some e := by
  unfold State.epoch?
  cases found : s.assembler.table.find? fun x => decide (x.number = e.number) with
  | none =>
    have := List.find?_eq_none.mp found e mem
    simp at this
  | some x =>
    have number : x.number = e.number := by simpa using List.find?_some found
    rw [epoch_unique sound.2 (List.mem_of_find?_eq_some found) mem number]

theorem State.epoch?_some {s : State} {n : Nat} {e : Epoch} (found : s.epoch? n = some e) :
    e ∈ s.assembler.table ∧ e.number = n :=
  ⟨List.mem_of_find?_eq_some found, by simpa using List.find?_some found⟩

theorem State.epoch?_none {s : State} {n : Nat} : s.epoch? n = none ↔ ∀ e ∈ s.assembler.table, e.number ≠ n := by
  simp [State.epoch?, List.find?_eq_none]

/-! ## The count of contributions -/

theorem contributionCount_append (before after : List Epoch) :
    ((before ++ after).map fun e => e.contributions.length).sum =
      (before.map fun e => e.contributions.length).sum + (after.map fun e => e.contributions.length).sum := by
  simp

/-- Epochs that leave a table take their contributions with them. -/
theorem contributionCount_filter (keep : Epoch → Bool) (table : List Epoch) :
    ((table.filter keep).map fun e => e.contributions.length).sum +
      ((table.filter fun e => !keep e).map fun e => e.contributions.length).sum =
        (table.map fun e => e.contributions.length).sum := by
  induction table with
  | nil => rfl
  | cons e es ih =>
    cases kept : keep e <;> simp [kept] <;> omega

/-! ## A table changed -/

/-- Epochs of which some may have left, with the rest as they were in number and in count of contributions. -/
theorem Assembler.sound_of_sublist {a b : Assembler}
    (h : (b.table.map Epoch.number).Sublist (a.table.map Epoch.number)) (sound : a.sound) : b.sound := by
  obtain ⟨size, sorted⟩ := sound
  refine ⟨?_, ?_⟩
  · have := h.length_le
    simp only [List.length_map] at this
    omega
  · have := (List.pairwise_map.mpr sorted).sublist h
    exact List.pairwise_map.mp this

/-- A change of the epochs that moves neither a number nor a count of contributions keeps the pool. -/
theorem State.poolSound_of_map {s t : State} {f : Epoch → Epoch} (table : t.assembler.table = s.assembler.table.map f)
    (number : ∀ e, (f e).number = e.number) (count : ∀ e, (f e).contributions.length = e.contributions.length)
    (free : t.store.poolFree = s.store.poolFree) (sound : s.poolSound) : t.poolSound := by
  obtain ⟨tableSound, sum⟩ := sound
  refine ⟨Assembler.sound_of_sublist ?_ tableSound, ?_⟩
  · rw [table, List.map_map, List.map_congr_left (f := Epoch.number ∘ f) (g := Epoch.number) fun e _ => number e]
  · have same : t.assembler.contributionCount = s.assembler.contributionCount := by
      simp only [Assembler.contributionCount, table, List.map_map]
      exact congrArg List.sum (List.map_congr_left fun e _ => count e)
    rw [free, same, sum]

theorem State.modAssembler_storeKeeps {s : State} {g : Assembler → Assembler} {f : Epoch → Epoch}
    (table : (g s.assembler).table = s.assembler.table.map f) (number : ∀ e, (f e).number = e.number)
    (count : ∀ e, (f e).contributions.length = e.contributions.length) : StoreKeeps s (s.modAssembler g) :=
  ⟨rfl, State.poolSound_of_map table number count rfl, id⟩

/-- A change of the assembler's counters and mark alone. -/
theorem State.modAssembler_counts {s : State} {g : Assembler → Assembler}
    (table : (g s.assembler).table = s.assembler.table) : StoreKeeps s (s.modAssembler g) :=
  State.modAssembler_storeKeeps (f := id) (by simp [table]) (fun _ => rfl) fun _ => rfl

/-- A change of the store's counters, and of what else the invariants do not speak of. -/
theorem State.modStore_storeKeeps {s : State} {f : Store → Store} (waiting : (f s.store).waiting = s.store.waiting)
    (free : (f s.store).poolFree = s.store.poolFree) (slots : (f s.store).slots = s.store.slots) :
    StoreKeeps s (s.modStore f) := by
  refine ⟨waiting, fun h => ⟨h.1, ?_⟩, fun h => ?_⟩
  · have := h.2
    simpa only [State.modStore, free] using this
  · simpa only [State.slotsSound, State.modStore, slots] using h

theorem State.modEpoch_storeKeeps (s : State) (n : Nat) {f : Epoch → Epoch} (number : ∀ e, (f e).number = e.number)
    (count : ∀ e, (f e).contributions.length = e.contributions.length) : StoreKeeps s (s.modEpoch n f) :=
  State.modAssembler_storeKeeps (f := fun e => if e.number = n then f e else e) rfl
    (fun e => by split <;> simp [number]) fun e => by split <;> simp [count]

theorem State.removeExpected_storeKeeps (s : State) (out : StationSet) : StoreKeeps s (s.removeExpected out) :=
  State.modAssembler_storeKeeps rfl (fun e => by split <;> rfl) fun e => by split <;> rfl

theorem State.raise_storeKeeps (s : State) (k : NoticeKind) : StoreKeeps s (s.raise k) := .of_eq rfl rfl

theorem State.raiseIf_storeKeeps (s : State) (b : Bool) (k : NoticeKind) : StoreKeeps s (s.raiseIf b k) := by
  cases b
  · exact .refl s
  · exact s.raise_storeKeeps k

/-! ## Freeing (R161, R171, R172, R175) -/

/-- The state without an epoch of its table (R161). -/
def State.without (s : State) (e : Epoch) : State :=
  { s with
    assembler := { s.assembler with
      table := s.assembler.table.filter fun x => decide (x.number ≠ e.number)
      freedMark := raiseMark s.assembler.freedMark e.number
      freed := bump s.assembler.freed }
    store := { s.store with
      poolFree := s.store.poolFree + e.contributions.length
      slots := e.contributions.foldl (fun l c => dropReference c.slot l) s.store.slots } }

theorem State.freeEpoch_of_some {s : State} {n : Nat} {e : Epoch} (found : s.epoch? n = some e) :
    s.freeEpoch n = s.without e := by
  simp only [State.freeEpoch, found, State.without, (State.epoch?_some found).2]

theorem State.freeEpoch_of_none {s : State} {n : Nat} (absent : s.epoch? n = none) : s.freeEpoch n = s := by
  simp only [State.freeEpoch, absent]

theorem State.freeEpoch_table (s : State) (n : Nat) :
    (s.freeEpoch n).assembler.table = s.assembler.table.filter fun x => decide (x.number ≠ n) := by
  cases found : s.epoch? n with
  | none =>
    rw [State.freeEpoch_of_none found]
    exact (List.filter_eq_self.mpr fun e mem => by simpa using State.epoch?_none.mp found e mem).symm
  | some e =>
    rw [State.freeEpoch_of_some found, ← (State.epoch?_some found).2]
    rfl

/-- Freeing an epoch keeps table, pool and slots (R161, R171, R172). -/
theorem State.freeEpoch_storeKeeps (s : State) (n : Nat) : StoreKeeps s (s.freeEpoch n) := by
  cases found : s.epoch? n with
  | none => rw [State.freeEpoch_of_none found]; exact .refl s
  | some e =>
    rw [State.freeEpoch_of_some found]
    refine ⟨rfl, fun ⟨tableSound, sum⟩ => ⟨?_, ?_⟩,
      State.slotsSound_of_sublist (dropReferences_numbers _ _)⟩
    · exact Assembler.sound_of_sublist (List.filter_sublist.map _) tableSound
    · obtain ⟨before, after, split⟩ := List.append_of_mem (State.epoch?_some found).1
      have sorted := tableSound.2
      rw [split] at sorted
      have counted : s.assembler.contributionCount = (before.map fun e => e.contributions.length).sum +
          (e.contributions.length + (after.map fun e => e.contributions.length).sum) := by
        simp [Assembler.contributionCount, split]
      have left : (s.without e).assembler.contributionCount = (before.map fun e => e.contributions.length).sum +
          (after.map fun e => e.contributions.length).sum := by
        simp only [Assembler.contributionCount, State.without, split, filter_number_ne sorted, contributionCount_append]
      have free : (s.without e).store.poolFree = s.store.poolFree + e.contributions.length := rfl
      omega

/-- The forced-free counts of the ports when an epoch is forced free (R175). -/
def State.countForced (s : State) (e : Epoch) : State :=
  { s with
    mp0 := s.mp0.countForced (e.needed.mp0 && !e.released.mp0)
    mp1 := s.mp1.countForced (e.needed.mp1 && !e.released.mp1) }

theorem State.forceFree_of_some {s : State} {n : Nat} {e : Epoch} (found : s.epoch? n = some e) :
    s.forceFree n =
      (((s.countForced e).without e).modStore fun t => { t with forcedFrees := bump t.forcedFrees }).raise .store := by
  have found' : (s.countForced e).epoch? n = some e := found
  rw [← State.freeEpoch_of_some found']
  simp only [State.forceFree, found, State.countForced]

theorem State.forceFree_of_none {s : State} {n : Nat} (absent : s.epoch? n = none) : s.forceFree n = s := by
  simp only [State.forceFree, absent]

theorem State.forceFree_storeKeeps (s : State) (n : Nat) : StoreKeeps s (s.forceFree n) := by
  cases found : s.epoch? n with
  | none => rw [State.forceFree_of_none found]; exact .refl s
  | some e =>
    have found' : (s.countForced e).epoch? n = some e := found
    rw [State.forceFree_of_some found, ← State.freeEpoch_of_some found']
    exact (((StoreKeeps.of_eq rfl rfl : StoreKeeps s (s.countForced e)).trans (State.freeEpoch_storeKeeps _ n)).trans
      (State.modStore_storeKeeps rfl rfl rfl)).trans (State.raise_storeKeeps _ _)

theorem State.forceFree_table (s : State) (n : Nat) :
    (s.forceFree n).assembler.table = s.assembler.table.filter fun x => decide (x.number ≠ n) := by
  cases found : s.epoch? n with
  | none =>
    rw [State.forceFree_of_none found]
    exact (List.filter_eq_self.mpr fun e mem => by simpa using State.epoch?_none.mp found e mem).symm
  | some e =>
    rw [State.forceFree_of_some found, ← (State.epoch?_some found).2]
    rfl

theorem State.forceForSlots_storeKeeps : ∀ (fuel : Nat) (s : State), StoreKeeps s (s.forceForSlots fuel)
  | 0, s => .refl s
  | fuel + 1, s => by
    unfold State.forceForSlots
    split
    · split
      · exact (s.forceFree_storeKeeps _).trans (State.forceForSlots_storeKeeps fuel _)
      · exact .refl s
    · exact .refl s

theorem State.slotPolicy_storeKeeps (s : State) : StoreKeeps s s.slotPolicy := s.forceForSlots_storeKeeps _

theorem State.freeReleased_storeKeeps (s : State) : StoreKeeps s s.freeReleased :=
  .foldl State.freeEpoch_storeKeeps _ s

/-! ## Closing (R157 to R159) -/

theorem Assembler.countClose_table (a : Assembler) (cause : EpochState) : (a.countClose cause).table = a.table := by
  cases cause <;> rfl

/-- The state in which an epoch has been closed with a cause and counted, before it may be freed (R159). -/
def State.closed (s : State) (cause : EpochState) (n : Nat) : State :=
  ((s.modEpoch n fun x => { x with state := cause }).modAssembler fun a => a.countClose cause).raise .epoch

theorem State.closed_storeKeeps (s : State) (cause : EpochState) (n : Nat) : StoreKeeps s (s.closed cause n) := by
  have changed : StoreKeeps s (s.modEpoch n fun x => { x with state := cause }) :=
    s.modEpoch_storeKeeps n (fun _ => rfl) fun _ => rfl
  exact (changed.trans (State.modAssembler_counts (Assembler.countClose_table _ _))).trans (State.raise_storeKeeps _ _)

/-- The state in which epoch e has been closed, and freed at once when nothing is needed of it (R159). -/
def State.shut (s : State) (cause : EpochState) (e : Epoch) : State :=
  if e.fullyReleased then (s.closed cause e.number).freeEpoch e.number else s.closed cause e.number

theorem State.shut_storeKeeps (s : State) (cause : EpochState) (e : Epoch) : StoreKeeps s (s.shut cause e) :=
  .ite ((s.closed_storeKeeps cause _).trans (State.freeEpoch_storeKeeps _ _)) (s.closed_storeKeeps cause _)

/-- The closing of a FORMING epoch, with the policy for slots when links wait (R159, R173). -/
theorem State.closeEpoch_forming {s : State} {cause : EpochState} {n : Nat} {e : Epoch} (found : s.epoch? n = some e)
    (forming : e.isClosed = false) :
    s.closeEpoch cause n = if s.store.waiting = [] then s.shut cause e else (s.shut cause e).slotPolicy := by
  obtain rfl := (State.epoch?_some found).2
  rw [← (s.shut_storeKeeps cause e).waiting]
  simp only [State.closeEpoch, found, forming, Bool.false_eq_true, if_false]
  rfl

theorem State.closeEpoch_of_none {s : State} {cause : EpochState} {n : Nat} (absent : s.epoch? n = none) :
    s.closeEpoch cause n = s := by
  simp only [State.closeEpoch, absent]

theorem State.closeEpoch_of_closed {s : State} {cause : EpochState} {n : Nat} {e : Epoch} (found : s.epoch? n = some e)
    (closed : e.isClosed = true) : s.closeEpoch cause n = s := by
  simp only [State.closeEpoch, found, closed, if_true]

theorem State.closeEpoch_storeKeeps (cause : EpochState) (s : State) (n : Nat) :
    StoreKeeps s (s.closeEpoch cause n) := by
  cases found : s.epoch? n with
  | none => rw [State.closeEpoch_of_none found]; exact .refl s
  | some e =>
    cases closed : e.isClosed with
    | true => rw [State.closeEpoch_of_closed found closed]; exact .refl s
    | false =>
      rw [State.closeEpoch_forming found closed]
      exact .ite (s.shut_storeKeeps cause e) ((s.shut_storeKeeps cause e).trans (State.slotPolicy_storeKeeps _))

theorem State.evalCompletion_storeKeeps (s : State) : StoreKeeps s s.evalCompletion := by
  unfold State.evalCompletion
  split
  · exact .refl s
  · exact .foldl (State.closeEpoch_storeKeeps _) _ s

theorem State.closeDeadlines_storeKeeps (s : State) : StoreKeeps s s.closeDeadlines := by
  unfold State.closeDeadlines
  split
  · exact .refl s
  · split
    · exact .refl s
    · exact .foldl (State.closeEpoch_storeKeeps _) _ s

/-! ## What these keep of all invariants -/

theorem Keeps.freeSlot (s : State) (k : Nat) : Keeps s (s.freeSlot k) := (s.freeSlot_frame k).keeps (s.freeSlot_storeKeeps k)

theorem Keeps.freeSlots (s : State) (ks : List Nat) : Keeps s (s.freeSlots ks) :=
  (s.freeSlots_frame ks).keeps (s.freeSlots_storeKeeps ks)

theorem Keeps.slotPolicy (s : State) : Keeps s s.slotPolicy := s.slotPolicy_frame.keeps s.slotPolicy_storeKeeps

theorem Keeps.evalCompletion (s : State) : Keeps s s.evalCompletion :=
  s.evalCompletion_frame.keeps s.evalCompletion_storeKeeps

theorem Keeps.closeDeadlines (s : State) : Keeps s s.closeDeadlines :=
  s.closeDeadlines_frame.keeps s.closeDeadlines_storeKeeps

theorem Keeps.removeExpected (s : State) (out : StationSet) : Keeps s (s.removeExpected out) :=
  (s.removeExpected_frame out).keeps (s.removeExpected_storeKeeps out)

theorem Keeps.freeEpoch (s : State) (n : Nat) : Keeps s (s.freeEpoch n) :=
  (s.freeEpoch_frame n).keeps (s.freeEpoch_storeKeeps n)

theorem Keeps.freeReleased (s : State) : Keeps s s.freeReleased := s.freeReleased_frame.keeps s.freeReleased_storeKeeps

end Sys2Proof.Machine
end

section
/-! PROOF. Placements (R148 to R152, R172, R174): a plan speaks of the table that its evictions and creations make, and a
plan that the pool can supply is carried out without a loss of entries. -/

namespace Sys2Proof.Machine

/-! ## Numbers of a table -/

/-- The epoch numbers of the table. -/
def State.numbers (s : State) : List Nat := s.assembler.table.map Epoch.number

theorem Assembler.sound_iff (s : State) :
    s.assembler.sound ↔ s.numbers.length ≤ tableSize ∧ s.numbers.Pairwise (· < ·) := by
  simp [Assembler.sound, State.numbers, List.pairwise_map]

/-- Two rising lists of the same numbers are the same. -/
theorem rising_ext {a b : List Nat} (ha : a.Pairwise (· < ·)) (hb : b.Pairwise (· < ·)) (same : ∀ n, n ∈ a ↔ n ∈ b) :
    a = b :=
  List.Perm.eq_of_pairwise (fun _ _ _ _ h k => absurd h (Nat.lt_asymm k)) ha hb
    ((List.perm_ext_iff_of_nodup (ha.imp fun h => h.ne) (hb.imp fun h => h.ne)).mpr same)

theorem mem_insertEpoch {e x : Epoch} {l : List Epoch} : x ∈ insertEpoch e l ↔ x = e ∨ x ∈ l := by
  induction l with
  | nil => simp [insertEpoch]
  | cons y ys ih =>
    simp only [insertEpoch]
    split
    · simp
    · simp only [List.mem_cons, ih]; tauto

theorem insertEpoch_pairwise {e : Epoch} {l : List Epoch} (sorted : l.Pairwise fun x y => x.number < y.number)
    (absent : ∀ x ∈ l, x.number ≠ e.number) : (insertEpoch e l).Pairwise fun x y => x.number < y.number := by
  induction l with
  | nil => simp [insertEpoch]
  | cons y ys ih =>
    obtain ⟨first, rest⟩ := List.pairwise_cons.mp sorted
    simp only [insertEpoch]
    split
    · next below =>
      refine List.pairwise_cons.mpr ⟨fun x mem => ?_, sorted⟩
      rcases List.mem_cons.mp mem with rfl | mem
      · exact below
      · exact below.trans (first x mem)
    · next above =>
      have ne := absent y (by simp)
      refine List.pairwise_cons.mpr ⟨fun x mem => ?_, ih rest fun x mem => absent x (by simp [mem])⟩
      rcases mem_insertEpoch.mp mem with rfl | mem
      · omega
      · exact first x mem

theorem insertEpoch_counts (e : Epoch) (l : List Epoch) :
    ((insertEpoch e l).map fun x => x.contributions.length).sum =
      e.contributions.length + (l.map fun x => x.contributions.length).sum := by
  induction l with
  | nil => rfl
  | cons y ys ih =>
    simp only [insertEpoch]
    split
    · rfl
    · simp only [List.map_cons, List.sum_cons, ih]; omega

/-! ## The plan and the table it speaks of -/

/-- A plan made on a table of the numbers given: its table is what evictions leave and creations add, rising and within
its size, and each entry has its epoch there. -/
structure Plan.Fits (numbers : List Nat) (p : Plan) : Prop where
  rising : p.table.Pairwise (· < ·)
  size : p.table.length ≤ tableSize
  mem_table : ∀ n, n ∈ p.table ↔ (n ∈ numbers ∧ n ∉ p.evictions) ∨ n ∈ p.creations
  distinct : p.creations.Nodup
  created : ∀ n ∈ p.creations, n ∈ numbers → n ∈ p.evictions
  entered : ∀ n ∈ p.creations, n ∈ p.entries
  present : ∀ n ∈ p.entries, n ∈ p.table

namespace Plan.Fits

variable {numbers : List Nat} {p : Plan} {n : Nat}

theorem refuse (h : p.Fits numbers) : p.refuse.Fits numbers := ⟨h.1, h.2, h.3, h.4, h.5, h.6, h.7⟩

theorem enter (h : p.Fits numbers) (mem : n ∈ p.table) : (p.enter n).Fits numbers where
  rising := h.rising
  size := h.size
  mem_table := h.mem_table
  distinct := h.distinct
  created := h.created
  entered m created := by simp [Plan.enter, h.entered m created]
  present m entry := by
    rcases List.mem_append.mp entry with entry | entry
    · exact h.present m entry
    · rw [List.mem_singleton.mp entry]; exact mem

/-- An absent number is no creation, and of the table's own only as one evicted. -/
theorem absent (h : p.Fits numbers) (out : n ∉ p.table) : n ∉ p.creations ∧ (n ∈ numbers → n ∈ p.evictions) := by
  rw [h.mem_table n] at out
  tauto

theorem mem_open {table : List Nat} {m : Nat} (out : n ∉ table) :
    (m ∈ (table.filter fun k => decide (k < n)) ++ n :: table.filter fun k => decide (n < k)) ↔ m ∈ table ∨ m = n := by
  simp only [List.mem_append, List.mem_cons, List.mem_filter, decide_eq_true_eq]
  constructor
  · tauto
  · rintro (mem | rfl)
    · have ne : m ≠ n := fun e => out (e ▸ mem)
      rcases Nat.lt_or_gt_of_ne ne with below | above
      · exact .inl ⟨mem, below⟩
      · exact .inr (.inr ⟨mem, above⟩)
    · exact .inr (.inl rfl)

theorem open_rising {table : List Nat} (rising : table.Pairwise (· < ·)) :
    ((table.filter fun k => decide (k < n)) ++ n :: table.filter fun k => decide (n < k)).Pairwise (· < ·) := by
  refine List.pairwise_append.mpr ⟨rising.filter _, List.pairwise_cons.mpr ⟨?_, rising.filter _⟩, ?_⟩
  · intro k mem
    simpa using (List.mem_filter.mp mem).2
  · intro k below m above
    have kn : k < n := by simpa using (List.mem_filter.mp below).2
    rcases List.mem_cons.mp above with rfl | above
    · exact kn
    · exact kn.trans (by simpa using (List.mem_filter.mp above).2)

theorem open_length (table : List Nat) :
    ((table.filter fun k => decide (k < n)) ++ n :: table.filter fun k => decide (n < k)).length ≤ table.length + 1 := by
  have parts : ∀ l : List Nat, (l.filter fun k => decide (k < n)).length +
      (l.filter fun k => decide (n < k)).length ≤ l.length := by
    intro l
    induction l with
    | nil => simp
    | cons k l ih => simp only [List.filter_cons]; split <;> split <;> simp_all <;> omega
  have := parts table
  simp only [List.length_append, List.length_cons]
  omega

/-- A number with room in the table is created there (R149). -/
theorem create (h : p.Fits numbers) (out : n ∉ p.table) (room : p.table.length < tableSize) :
    Plan.Fits numbers { p with
      table := (p.table.filter fun m => decide (m < n)) ++ n :: p.table.filter fun m => decide (n < m)
      creations := p.creations ++ [n]
      entries := p.entries ++ [n] } where
  rising := open_rising h.rising
  size := (open_length p.table).trans room
  mem_table m := by rw [mem_open out, h.mem_table m]; simp only [List.mem_append, List.mem_singleton]; tauto
  distinct := by
    simp only [List.nodup_append, h.distinct, List.nodup_singleton, List.mem_singleton, true_and]
    rintro a mem b rfl e
    exact (h.absent out).1 (e ▸ mem)
  created m created old := by
    rcases List.mem_append.mp created with created | created
    · exact h.created m created old
    · rw [List.mem_singleton.mp created] at old ⊢; exact (h.absent out).2 old
  entered m created := by
    rcases List.mem_append.mp created with created | created
    · exact List.mem_append_left _ (h.entered m created)
    · exact List.mem_append_right _ created
  present m entry := by
    rw [mem_open out]
    rcases List.mem_append.mp entry with entry | entry
    · exact .inl (h.present m entry)
    · exact .inr (List.mem_singleton.mp entry)

/-- A number above a full table is created there when its lowest, which takes no part, gives way (R150). -/
theorem evict (h : p.Fits numbers) {oldest : Nat} {rest : List Nat} (table : p.table = oldest :: rest)
    (above : ∀ m ∈ p.table, m < n) (free : oldest ∉ p.entries) (mark : Option Nat) :
    Plan.Fits numbers { p with
      table := rest ++ [n]
      mark := mark
      creations := p.creations ++ [n]
      evictions := p.evictions ++ [oldest]
      entries := p.entries ++ [n] } := by
  have out : n ∉ p.table := fun mem => (above n mem).false
  obtain ⟨notCreated, old⟩ := h.absent out
  have rising := h.rising
  have size := h.size
  rw [table] at rising size
  obtain ⟨lowest, restRising⟩ := List.pairwise_cons.mp rising
  have oldestCreated : oldest ∉ p.creations := fun mem => free (h.entered oldest mem)
  refine ⟨?_, ?_, fun m => ?_, ?_, fun m created isOld => ?_, fun m created => ?_, fun m entry => ?_⟩
  · refine List.pairwise_append.mpr ⟨restRising, List.pairwise_singleton _ _, fun a mem b single => ?_⟩
    rw [List.mem_singleton.mp single]
    exact above a (by simp [table, mem])
  · simpa using size
  · have ofTable := h.mem_table m
    rw [table, List.mem_cons] at ofTable
    have oldestRest : oldest ∉ rest := fun mem => (lowest oldest mem).false
    have ne : oldest ≠ n := fun e => out (by simp [table, e])
    simp only [List.mem_append, List.mem_singleton]
    by_cases e : m = oldest
    · subst e; tauto
    · tauto
  · simp only [List.nodup_append, h.distinct, List.nodup_singleton, List.mem_singleton, true_and]
    rintro a mem b rfl e
    exact notCreated (e ▸ mem)
  · rcases List.mem_append.mp created with created | created
    · exact List.mem_append_left _ (h.created m created isOld)
    · rw [List.mem_singleton.mp created] at isOld ⊢
      exact List.mem_append_left _ (old isOld)
  · rcases List.mem_append.mp created with created | created
    · exact List.mem_append_left _ (h.entered m created)
    · exact List.mem_append_right _ created
  · rcases List.mem_append.mp entry with entry | entry
    · have inTable := h.present m entry
      rw [table, List.mem_cons] at inTable
      rcases inTable with isOldest | inRest
      · exact absurd (isOldest ▸ entry) free
      · exact List.mem_append_left _ inRest
    · exact List.mem_append_right _ entry

/-- The judgement of one epoch keeps the plan in agreement with its table (R149, R150). -/
theorem judge (h : p.Fits numbers) (g : Grid) (stamp : Stamp) (n : Nat) : (p.judge g stamp n).Fits numbers := by
  unfold Plan.judge
  split
  · next present => exact h.enter (by simpa using present)
  · next absent =>
    have out : n ∉ p.table := by simpa using absent
    split
    · exact h.refuse
    · split
      · next room => exact h.create out room
      · split
        · next oldest rest table =>
          split
          · exact h.refuse
          · next above =>
            split
            · exact h.refuse
            · next free => exact h.evict table (by simpa using above) (by simpa using free) _
        · exact h.refuse

theorem judges (h : p.Fits numbers) (g : Grid) (stamp : Stamp) (run : List Nat) :
    (run.foldl (Plan.judge g stamp) p).Fits numbers := by
  induction run generalizing p with
  | nil => exact h
  | cons n run ih => exact ih (h.judge g stamp n)

end Plan.Fits

/-- A plan fits the table it was made on (R149). -/
theorem State.plan_fits {s : State} (sound : s.assembler.sound) (g : Grid) (run : List Nat) :
    (s.plan g run).Fits s.numbers := by
  obtain ⟨size, rising⟩ := (Assembler.sound_iff s).mp sound
  refine Plan.Fits.judges ⟨rising, size, fun n => ?_, List.nodup_nil, ?_, ?_, ?_⟩ g s.stamp run
  all_goals simp [State.numbers]

/-! ## The table that a plan makes -/

theorem State.evict_storeKeeps (s : State) (n : Nat) : StoreKeeps s (s.evict n) :=
  (s.forceFree_storeKeeps n).trans (State.modAssembler_counts rfl)

theorem State.evict_table (s : State) (n : Nat) :
    (s.evict n).assembler.table = s.assembler.table.filter fun x => decide (x.number ≠ n) := s.forceFree_table n

theorem State.evicts_table (ns : List Nat) (s : State) :
    (ns.foldl State.evict s).assembler.table = s.assembler.table.filter fun e => !ns.contains e.number := by
  induction ns generalizing s with
  | nil => simp
  | cons n ns ih =>
    rw [List.foldl_cons, ih, State.evict_table, List.filter_filter]
    refine List.filter_congr fun e _ => ?_
    simp [Bool.and_comm, Bool.decide_or, decide_not]

theorem State.numbers_filter (s : State) (keep : Nat → Bool) :
    (s.assembler.table.filter fun e => keep e.number).map Epoch.number = s.numbers.filter keep := by
  simp [State.numbers, List.filter_map, Function.comp_def]

/-- The numbers that evictions leave. -/
theorem State.evicts_numbers (ns : List Nat) (s : State) :
    (ns.foldl State.evict s).numbers = s.numbers.filter fun n => !ns.contains n := by
  rw [State.numbers, State.evicts_table, s.numbers_filter fun n => !ns.contains n]

theorem State.mem_createEpoch_numbers {s : State} {n m : Nat} :
    m ∈ (s.createEpoch n).numbers ↔ m = n ∨ m ∈ s.numbers := by
  simp only [State.numbers, State.createEpoch, State.modAssembler, List.mem_map, mem_insertEpoch]
  constructor
  · rintro ⟨e, rfl | mem, rfl⟩
    · exact .inl rfl
    · exact .inr ⟨e, mem, rfl⟩
  · rintro (rfl | ⟨e, mem, rfl⟩)
    · exact ⟨_, .inl rfl, rfl⟩
    · exact ⟨e, .inr mem, rfl⟩

theorem State.createEpoch_rising {s : State} {n : Nat} (rising : s.numbers.Pairwise (· < ·)) (absent : n ∉ s.numbers) :
    (s.createEpoch n).numbers.Pairwise (· < ·) := by
  refine List.pairwise_map.mpr (insertEpoch_pairwise (List.pairwise_map.mp rising) fun x mem e => absent ?_)
  exact List.mem_map.mpr ⟨x, mem, e⟩

theorem State.mem_creates_numbers (ns : List Nat) (s : State) {m : Nat} :
    m ∈ (ns.foldl State.createEpoch s).numbers ↔ m ∈ ns ∨ m ∈ s.numbers := by
  induction ns generalizing s with
  | nil => simp
  | cons n ns ih => rw [List.foldl_cons, ih, State.mem_createEpoch_numbers, List.mem_cons]; tauto

theorem State.creates_rising (ns : List Nat) {s : State} (rising : s.numbers.Pairwise (· < ·)) (distinct : ns.Nodup)
    (absent : ∀ n ∈ ns, n ∉ s.numbers) : (ns.foldl State.createEpoch s).numbers.Pairwise (· < ·) := by
  induction ns generalizing s with
  | nil => exact rising
  | cons n ns ih =>
    obtain ⟨first, rest⟩ := List.nodup_cons.mp distinct
    refine ih (State.createEpoch_rising rising (absent n (by simp))) rest fun m mem => ?_
    rw [State.mem_createEpoch_numbers]
    rintro (rfl | old)
    · exact first mem
    · exact absent m (by simp [mem]) old

theorem State.createEpoch_count (s : State) (n : Nat) :
    (s.createEpoch n).assembler.contributionCount = s.assembler.contributionCount := by
  simp [Assembler.contributionCount, State.createEpoch, State.modAssembler, insertEpoch_counts]

theorem State.creates_count (ns : List Nat) (s : State) :
    (ns.foldl State.createEpoch s).assembler.contributionCount = s.assembler.contributionCount := by
  induction ns generalizing s with
  | nil => rfl
  | cons n ns ih => rw [List.foldl_cons, ih, State.createEpoch_count]

theorem State.creates_store (ns : List Nat) (s : State) : (ns.foldl State.createEpoch s).store = s.store := by
  induction ns generalizing s with
  | nil => rfl
  | cons n ns ih => rw [List.foldl_cons, ih]; rfl

/-- The state in which a plan's epochs have been evicted and created (R152, steps 1 and 2). -/
def State.prepared (s : State) (p : Plan) : State := p.creations.foldl State.createEpoch (p.evictions.foldl State.evict s)

/-- The evictions and creations of a plan make the table it speaks of. -/
theorem State.prepared_numbers {s : State} {p : Plan} (sound : s.assembler.sound) (fits : p.Fits s.numbers) :
    (s.prepared p).numbers = p.table := by
  obtain ⟨_, rising⟩ := (Assembler.sound_iff s).mp sound
  refine rising_ext (State.creates_rising _ ?_ fits.distinct fun n created => ?_) fits.rising fun n => ?_
  · rw [State.evicts_numbers]; exact rising.filter _
  · have := fits.created n created
    simp only [State.evicts_numbers, List.mem_filter]
    simpa using this
  · rw [State.prepared, State.mem_creates_numbers, State.evicts_numbers, fits.mem_table]
    simp only [List.mem_filter, List.contains_eq_mem, Bool.not_eq_true', decide_eq_false_iff_not]
    tauto

theorem State.evicts_storeKeeps (ns : List Nat) (s : State) : StoreKeeps s (ns.foldl State.evict s) :=
  .foldl State.evict_storeKeeps ns s

/-- A plan's evictions return the entries of the epochs evicted, and its creations take none (R151). -/
theorem State.prepared_pool {s : State} {p : Plan} (sound : s.poolSound) (fits : p.Fits s.numbers) :
    (s.prepared p).poolSound ∧ (s.prepared p).store.poolFree = s.available p := by
  have left : (p.evictions.foldl State.evict s).poolSound := (s.evicts_storeKeeps p.evictions).pool sound
  have free : (s.prepared p).store.poolFree = (p.evictions.foldl State.evict s).store.poolFree := by
    rw [State.prepared, State.creates_store]
  have count : (s.prepared p).assembler.contributionCount =
      (p.evictions.foldl State.evict s).assembler.contributionCount := State.creates_count _ _
  refine ⟨⟨(Assembler.sound_iff _).mpr ?_, by rw [free, count, left.2]⟩, ?_⟩
  · rw [State.prepared_numbers sound.1 fits]
    exact ⟨fits.size, fits.rising⟩
  · have parts := contributionCount_filter (fun e => p.evictions.contains e.number) s.assembler.table
    have before := sound.2
    have after := left.2
    simp only [Assembler.contributionCount] at before after
    rw [State.evicts_table] at after
    rw [free, State.available]
    omega

/-! ## Entries (R153, R160, R172) -/

theorem insertContribution_length (es : Int) (c : Contribution) (l : List Contribution) :
    ∀ ahead, (insertContribution es c ahead l).length = l.length + 1 := by
  induction l with
  | nil => exact fun ahead => rfl
  | cons x xs ih =>
    intro ahead
    simp only [insertContribution]
    split
    · simp [ih]
    · simp

/-- The state in which a record's contribution has been entered into epoch e, and has taken a pool entry (R153). -/
def State.withEntry (g : Grid) (period slot : Nat) (r : Record) (t : Timing) (s : State) (e : Epoch) : State :=
  let cut := makeContribution g e.number period slot r t e.isClosed
  (s.modEpoch e.number fun x =>
    { x with contributions := insertContribution (g.epochStart e.number) cut none x.contributions }).modStore
      fun y => { y with poolFree := y.poolFree - 1 }

/-- The state in which epoch n has taken a contribution late (R160). -/
def State.amended (s : State) (n : Nat) (i : StationId) : State :=
  ((s.modEpoch n fun x => { x with amended := true, late := min (x.late + 1) lateMax }).count i fun y =>
    { y with lateContributions := bump y.lateContributions }).raise .epoch

theorem State.enter_of_some {g : Grid} {period slot : Nat} {r : Record} {t : Timing} {s : State} {n : Nat} {e : Epoch}
    (found : s.epoch? n = some e) :
    s.enter g period slot r t n =
      if e.isClosed then (s.withEntry g period slot r t e).amended e.number r.station
      else s.withEntry g period slot r t e := by
  obtain rfl := (State.epoch?_some found).2
  simp only [State.enter, found, State.withEntry, State.amended]

theorem State.amended_storeKeeps (s : State) (n : Nat) (i : StationId) : StoreKeeps s (s.amended n i) := by
  have late : StoreKeeps s (s.modEpoch n fun x => { x with amended := true, late := min (x.late + 1) lateMax }) :=
    State.modEpoch_storeKeeps _ _ (fun _ => rfl) fun _ => rfl
  exact late.trans (.of_eq rfl rfl)

theorem State.enter_of_none {g : Grid} {period slot : Nat} {r : Record} {t : Timing} {s : State} {n : Nat}
    (absent : s.epoch? n = none) : s.enter g period slot r t n = s := by
  simp only [State.enter, absent]

theorem State.modEpoch_numbers (s : State) (n : Nat) {f : Epoch → Epoch} (number : ∀ e, (f e).number = e.number) :
    (s.modEpoch n f).numbers = s.numbers := by
  simp only [State.numbers, State.modEpoch, State.modAssembler, List.map_map]
  refine List.map_congr_left fun e _ => ?_
  simp only [Function.comp]
  split <;> simp [number]

theorem State.enter_numbers (g : Grid) (period slot : Nat) (r : Record) (t : Timing) (s : State) (n : Nat) :
    (s.enter g period slot r t n).numbers = s.numbers := by
  cases found : s.epoch? n with
  | none => rw [State.enter_of_none found]
  | some e =>
    have entered : (s.withEntry g period slot r t e).numbers = s.numbers := State.modEpoch_numbers s _ fun _ => rfl
    rw [State.enter_of_some found]
    split
    · have late : ((s.withEntry g period slot r t e).amended e.number r.station).numbers =
          (s.withEntry g period slot r t e).numbers :=
        State.modEpoch_numbers _ e.number (f := fun x => { x with amended := true, late := min (x.late + 1) lateMax })
          fun _ => rfl
      exact late.trans entered
    · exact entered

theorem State.withEntry_pool {g : Grid} {period slot : Nat} {r : Record} {t : Timing} {s : State} {e : Epoch}
    (mem : e ∈ s.assembler.table) (free : 1 ≤ s.store.poolFree) (sound : s.poolSound) :
    (s.withEntry g period slot r t e).poolSound := by
  obtain ⟨tableSound, sum⟩ := sound
  refine ⟨(Assembler.sound_iff _).mpr ?_, ?_⟩
  · have same : (s.withEntry g period slot r t e).numbers = s.numbers := State.modEpoch_numbers s _ fun _ => rfl
    rw [same]
    exact (Assembler.sound_iff s).mp tableSound
  · obtain ⟨before, after, split⟩ := List.append_of_mem mem
    have sorted := tableSound.2
    rw [split] at sorted
    have taken : (s.withEntry g period slot r t e).store.poolFree = s.store.poolFree - 1 := rfl
    have one : (s.withEntry g period slot r t e).assembler.contributionCount =
        s.assembler.contributionCount + 1 := by
      simp only [Assembler.contributionCount, State.withEntry, State.modEpoch, State.modStore, State.modAssembler, split,
        map_number_eq _ sorted, List.map_append, List.map_cons, List.sum_append, List.sum_cons, insertContribution_length]
      omega
    omega

/-- What an entry leaves: it takes one pool entry when the epoch is there (R172). -/
theorem State.enter_pool {g : Grid} {period slot : Nat} {r : Record} {t : Timing} {s : State} {n : Nat}
    (present : n ∈ s.numbers) (free : 1 ≤ s.store.poolFree) (sound : s.poolSound) :
    (s.enter g period slot r t n).poolSound ∧
      (s.enter g period slot r t n).store.poolFree = s.store.poolFree - 1 := by
  obtain ⟨e, mem, rfl⟩ := List.mem_map.mp present
  have entered := State.withEntry_pool (g := g) (period := period) (slot := slot) (r := r) (t := t) mem free sound
  rw [State.enter_of_some (State.epoch?_of_mem sound.1 mem)]
  split
  · exact ⟨(State.amended_storeKeeps _ _ _).pool entered, rfl⟩
  · exact ⟨entered, rfl⟩

theorem State.enters_pool {g : Grid} {period slot : Nat} {r : Record} {t : Timing} (ns : List Nat) {s : State}
    (present : ∀ n ∈ ns, n ∈ s.numbers) (free : ns.length ≤ s.store.poolFree) (sound : s.poolSound) :
    (ns.foldl (State.enter g period slot r t) s).poolSound := by
  induction ns generalizing s with
  | nil => exact sound
  | cons n ns ih =>
    rw [List.length_cons] at free
    obtain ⟨entered, left⟩ := State.enter_pool (g := g) (period := period) (slot := slot) (r := r) (t := t)
      (present n (by simp)) (by omega) sound
    refine ih (fun m mem => ?_) (by omega) entered
    rw [State.enter_numbers]
    exact present m (by simp [mem])

/-- Neither slots nor waiting list differ. -/
structure SameSlots (s t : State) : Prop where
  slots : t.store.slots = s.store.slots
  waiting : t.store.waiting = s.store.waiting

theorem State.enter_sameSlots (g : Grid) (period slot : Nat) (r : Record) (t : Timing) (s : State) (n : Nat) :
    SameSlots s (s.enter g period slot r t n) := by
  cases found : s.epoch? n with
  | none => rw [State.enter_of_none found]; exact ⟨rfl, rfl⟩
  | some e =>
    rw [State.enter_of_some found]
    split <;> exact ⟨rfl, rfl⟩

theorem State.enters_sameSlots (g : Grid) (period slot : Nat) (r : Record) (t : Timing) (ns : List Nat) (s : State) :
    SameSlots s (ns.foldl (State.enter g period slot r t) s) := by
  induction ns generalizing s with
  | nil => exact ⟨rfl, rfl⟩
  | cons n ns ih =>
    have first := s.enter_sameSlots g period slot r t n
    have rest := ih (s.enter g period slot r t n)
    exact ⟨rest.slots.trans first.slots, rest.waiting.trans first.waiting⟩

/-! ## A placement -/

/-- A plan that the pool can supply, carried out (R152). -/
theorem State.carryOut_storeKeeps {g : Grid} {period slot : Nat} {r : Record} {t : Timing} {p : Plan} {s : State}
    (fits : s.assembler.sound → p.Fits s.numbers) (supplied : s.poolShortage p = false) :
    StoreKeeps s (s.carryOut g period slot r t p) := by
  have evicted := s.evicts_storeKeeps p.evictions
  have entered : StoreKeeps s (p.entries.foldl (State.enter g period slot r t) (s.prepared p)) := by
    have same := (s.prepared p).enters_sameSlots g period slot r t p.entries
    have store : (s.prepared p).store = (p.evictions.foldl State.evict s).store := State.creates_store _ _
    refine ⟨by rw [same.waiting, store, evicted.waiting], fun sound => ?_, fun sound => ?_⟩
    · have f := fits sound.1
      obtain ⟨pool, free⟩ := State.prepared_pool sound f
      refine State.enters_pool _ (fun n mem => ?_) ?_ pool
      · rw [State.prepared_numbers sound.1 f]; exact f.present n mem
      · rw [free]; simpa [State.poolShortage] using supplied
    · have := evicted.slots sound
      simpa only [State.slotsSound, same.slots, store] using this
  have counted : StoreKeeps s ((p.entries.foldl (State.enter g period slot r t) (s.prepared p)).count r.station
      fun y => { y with tooLate := bumpBy y.tooLate p.tooLate }) := entered.trans (.of_eq rfl rfl)
  unfold State.carryOut
  exact .ite (counted.trans (State.freeSlot_storeKeeps _ _))
    (counted.trans (State.modSlot_storeKeeps _ slot (f := fun x => { x with refs := p.entries.length }) fun _ => rfl))

theorem State.dropExhausted_storeKeeps (s : State) (slot : Nat) (i : StationId) :
    StoreKeeps s (s.dropExhausted slot i) := by
  have counted : StoreKeeps s (s.count i fun y => { y with poolExhausted := bump y.poolExhausted }) := .of_eq rfl rfl
  exact ((counted.trans (State.modStore_storeKeeps rfl rfl rfl)).trans (State.freeSlot_storeKeeps _ _)).trans
    (State.raise_storeKeeps _ _)

theorem State.forceForPool_storeKeeps (p : Plan) :
    ∀ (fuel : Nat) (s : State), StoreKeeps s (s.forceForPool p fuel)
  | 0, s => .refl s
  | fuel + 1, s => by
    unfold State.forceForPool
    split
    · split
      · exact (s.forceFree_storeKeeps _).trans (State.forceForPool_storeKeeps p fuel _)
      · exact .refl s
    · exact .refl s

/-- The plan that is settled on is one made on the state as the policy left it, and supplied there (R151, R174). -/
theorem State.settlePlan_spec (g : Grid) (run : List Nat) :
    ∀ (fuel : Nat) (s : State), StoreKeeps s (s.settlePlan g run fuel).2 ∧
      ∀ p, (s.settlePlan g run fuel).1 = some p →
        p = (s.settlePlan g run fuel).2.plan g run ∧ (s.settlePlan g run fuel).2.poolShortage p = false
  | 0, s => ⟨.refl s, fun p h => by simp [State.settlePlan] at h⟩
  | fuel + 1, s => by
    unfold State.settlePlan
    dsimp only
    split
    · split
      · obtain ⟨keeps, spec⟩ := State.settlePlan_spec g run fuel (s.forceForPool (s.plan g run) s.assembler.table.length)
        exact ⟨(State.forceForPool_storeKeeps _ _ s).trans keeps, spec⟩
      · exact ⟨.refl s, fun p h => by simp at h⟩
    · next supplied =>
      refine ⟨.refl s, fun p h => ?_⟩
      obtain rfl := Option.some.inj h
      exact ⟨rfl, by simpa using supplied⟩

theorem State.placeRecord_storeKeeps (g : Grid) (period slot : Nat) (r : Record) (t : Timing) (s : State) :
    StoreKeeps s (s.placeRecord g period slot r t) := by
  have refused (f : StationCounters → StationCounters) : StoreKeeps s ((s.count r.station f).freeSlot slot) :=
    (StoreKeeps.of_eq rfl rfl : StoreKeeps s (s.count r.station f)).trans (State.freeSlot_storeKeeps _ _)
  unfold State.placeRecord
  dsimp only
  split
  · exact refused _
  · split
    · exact refused _
    · obtain ⟨keeps, spec⟩ := State.settlePlan_spec g
        (List.range' (g.epochAt t.start).toNat
          (g.epochAt (t.start + duration period t.rho (r.n - 1)) - g.epochAt t.start + 1).toNat)
        (s.assembler.table.length + 1) s
      split
      · next p u settled =>
        rw [settled] at keeps spec
        obtain ⟨made, supplied⟩ := spec p rfl
        exact keeps.trans (State.carryOut_storeKeeps (fun sound => made ▸ State.plan_fits sound g _) supplied)
      · next u settled =>
        rw [settled] at keeps
        exact keeps.trans (State.dropExhausted_storeKeeps _ _ _)

theorem State.place_storeKeeps (g : Grid) (period slot : Nat) (r : Record) (t : Timing) (s : State) :
    StoreKeeps s (s.place g period slot r t) :=
  (s.placeRecord_storeKeeps g period slot r t).trans (State.evalCompletion_storeKeeps _)

end Sys2Proof.Machine
end

section
/-! PROOF. Sequence tracking (R66 to R86): what each operation makes of a station's tracking, in terms of tracking alone,
and that tracking stays sound. -/

namespace Sys2Proof.Machine

/-! ## Serial arithmetic (R1) -/

@[simp] theorem stepsAfter_self (q : Seq) : stepsAfter q q = 0 := by simp [stepsAfter]

theorem stepsAfter_eq_zero {q a : Seq} : stepsAfter q a = 0 ↔ a = q := by
  simp only [stepsAfter]
  constructor <;> intro h <;> bv_omega

/-- Steps counted from a point that lies no later. -/
theorem stepsAfter_from {q h a : Seq} (later : stepsAfter q h ≤ stepsAfter q a) :
    stepsAfter h a = stepsAfter q a - stepsAfter q h := by
  simp only [stepsAfter] at later ⊢
  bv_omega

theorem stepsAfter_succ {q a : Seq} (later : 1 ≤ stepsAfter q a) : stepsAfter (q + 1) a = stepsAfter q a - 1 := by
  simp only [stepsAfter] at later ⊢
  bv_omega

@[simp] theorem stepsAfter_next (q : Seq) : stepsAfter q (q + 1) = 1 := by
  simp only [stepsAfter]
  bv_omega

/-! ## Holds -/

/-- A hold as it may stand while it drains: in serial order from q, which may be its lowest seq. -/
def drainable (q : Seq) (hold : List Held) : Prop :=
  (∀ h ∈ hold, stepsAfter q h.seq ≤ 8) ∧ hold.Pairwise fun a b => stepsAfter q a.seq < stepsAfter q b.seq

theorem holdSound.drainable {q : Seq} {hold : List Held} (h : holdSound q hold) : drainable q hold :=
  ⟨fun x mem => (h.1 x mem).2, h.2⟩

/-- A hold stands in serial order from any point that lies before all of it. -/
theorem drainable_from {q p : Seq} {hold : List Held} (h : drainable q hold)
    (before : ∀ x ∈ hold, stepsAfter q p ≤ stepsAfter q x.seq) : drainable p hold := by
  refine ⟨fun x mem => ?_, h.2.imp_of_mem fun {a b} ma mb lt => ?_⟩
  · have := h.1 x mem
    rw [stepsAfter_from (before x mem)]; omega
  · have := before a ma
    rw [stepsAfter_from (before a ma), stepsAfter_from (before b mb)]; omega

/-- q goes one step on when the hold's lowest record is at q, or none is. -/
theorem drainable_succ {q : Seq} {hold : List Held} (h : drainable q hold) (after : ∀ x ∈ hold, 1 ≤ stepsAfter q x.seq) :
    drainable (q + 1) hold :=
  drainable_from h fun x mem => by rw [stepsAfter_next]; exact after x mem

theorem drainable_tail {q : Seq} {x : Held} {rest : List Held} (h : drainable q (x :: rest)) (front : x.seq = q) :
    drainable (q + 1) rest := by
  obtain ⟨first, sorted⟩ := List.pairwise_cons.mp h.2
  refine drainable_succ ⟨fun y mem => h.1 y (by simp [mem]), sorted⟩ fun y mem => ?_
  have := first y mem
  rw [front, stepsAfter_self] at this
  omega

/-- A hold whose lowest record is not at q is a sound one. -/
theorem drainable.sound {q : Seq} {x : Held} {rest : List Held} (h : drainable q (x :: rest)) (past : x.seq ≠ q) :
    holdSound q (x :: rest) := by
  have one : 1 ≤ stepsAfter q x.seq := Nat.one_le_iff_ne_zero.mpr fun zero => past (stepsAfter_eq_zero.mp zero)
  refine ⟨fun y mem => ⟨?_, h.1 y mem⟩, h.2⟩
  rcases List.mem_cons.mp mem with rfl | mem
  · exact one
  · exact one.trans ((List.pairwise_cons.mp h.2).1 y mem).le

theorem mem_insertHeld {q : Seq} {x y : Held} {hold : List Held} : y ∈ insertHeld q x hold ↔ y = x ∨ y ∈ hold := by
  induction hold with
  | nil => simp [insertHeld]
  | cons z zs ih =>
    simp only [insertHeld]
    split
    · simp
    · simp only [List.mem_cons, ih]; tauto

/-- Two seqs as far from q are the same (R1). -/
theorem stepsAfter_inj {q a b : Seq} (same : stepsAfter q a = stepsAfter q b) : a = b := by
  simp only [stepsAfter] at same
  bv_omega

theorem insertHeld_sorted {q : Seq} {x : Held} {hold : List Held}
    (sorted : hold.Pairwise fun a b => stepsAfter q a.seq < stepsAfter q b.seq) (fresh : ∀ y ∈ hold, y.seq ≠ x.seq) :
    (insertHeld q x hold).Pairwise fun a b => stepsAfter q a.seq < stepsAfter q b.seq := by
  induction hold with
  | nil => simp [insertHeld]
  | cons y ys ih =>
    obtain ⟨first, rest⟩ := List.pairwise_cons.mp sorted
    have ne : stepsAfter q y.seq ≠ stepsAfter q x.seq := fun e => fresh y (by simp) (stepsAfter_inj e)
    simp only [insertHeld]
    split
    · next below =>
      refine List.pairwise_cons.mpr ⟨fun z mem => ?_, sorted⟩
      rcases List.mem_cons.mp mem with rfl | mem
      · exact below
      · exact below.trans (first z mem)
    · next above =>
      refine List.pairwise_cons.mpr ⟨fun z mem => ?_, ih rest fun z mem => fresh z (by simp [mem])⟩
      rcases mem_insertHeld.mp mem with rfl | mem
      · omega
      · exact first z mem

/-- A record not held yet keeps the hold sound at its serial position (R70). -/
theorem insertHeld_sound {q : Seq} {x : Held} {hold : List Held} (h : holdSound q hold) (after : 1 ≤ stepsAfter q x.seq)
    (near : stepsAfter q x.seq ≤ 8) (fresh : ∀ y ∈ hold, y.seq ≠ x.seq) : holdSound q (insertHeld q x hold) := by
  refine ⟨fun y mem => ?_, insertHeld_sorted h.2 fresh⟩
  rcases mem_insertHeld.mp mem with rfl | mem
  · exact ⟨after, near⟩
  · exact h.1 y mem

/-! ## Changes of a station's tracking -/

/-- Tracking without covered-until, which the timing of a record moves (R139). -/
def Tracker.bare (t : Tracker) : Tracker := { t with covered := none }

theorem Tracker.bare_sound {t : Tracker} : t.bare.sound ↔ t.sound := Iff.rfl

/-- No more gaps than before are as sound as before. -/
theorem Tracker.sound_of_gaps {t : Tracker} {gaps : List Gap} (sound : t.sound) (fewer : gaps.length ≤ t.gaps.length) :
    ({ t with gaps := gaps } : Tracker).sound := by
  obtain ⟨size, rest⟩ := sound
  refine ⟨fewer.trans size, ?_⟩
  revert rest
  cases t.q with
  | none =>
    rintro ⟨noHold, noGap⟩
    rw [noGap] at fewer
    exact ⟨noHold, List.length_eq_zero_iff.mp (Nat.le_zero.mp fewer)⟩
  | some q => exact id

theorem Tracker.initial_sound : Tracker.initial.sound := ⟨Nat.zero_le _, rfl, rfl⟩

/-! ## The counters that tracking keeps -/

/-- The counters of the tracker are as they were. -/
structure StationCounters.SameTracking (c d : StationCounters) : Prop where
  inSequence : d.inSequence = c.inSequence
  held : d.held = c.held
  fills : d.fills = c.fills
  duplicates : d.duplicates = c.duplicates
  gapsDeclared : d.gapsDeclared = c.gapsDeclared
  gapsFilled : d.gapsFilled = c.gapsFilled
  gapsAbandoned : d.gapsAbandoned = c.gapsAbandoned

theorem StationCounters.SameTracking.refl (c : StationCounters) : c.SameTracking c := ⟨rfl, rfl, rfl, rfl, rfl, rfl, rfl⟩

theorem StationCounters.SameTracking.trans {c d e : StationCounters} (h : c.SameTracking d) (k : d.SameTracking e) :
    c.SameTracking e :=
  ⟨k.1.trans h.1, k.2.trans h.2, k.3.trans h.3, k.4.trans h.4, k.5.trans h.5, k.6.trans h.6, k.7.trans h.7⟩

/-! ## Placement and timing change no more of a station than counters, expectation and covered-until -/

/-- As a tracking frame, but of station i the counters alone may differ, and not those of the tracker. -/
structure PlacingFrame (i : StationId) (s t : State) : Prop extends TrackingFrame i s t where
  counted : ∃ c, t.station i = { s.station i with counters := c } ∧ (s.station i).counters.SameTracking c

theorem PlacingFrame.trans {i : StationId} {s t u : State} (h : PlacingFrame i s t) (k : PlacingFrame i t u) :
    PlacingFrame i s u := by
  obtain ⟨c, own, same⟩ := h.counted
  obtain ⟨d, own', same'⟩ := k.counted
  rw [own] at own' same'
  exact ⟨h.toTrackingFrame.trans k.toTrackingFrame, d, own', same.trans same'⟩

theorem AssemblyFrame.placing {s t : State} (h : AssemblyFrame s t) (i : StationId) : PlacingFrame i s t :=
  ⟨h.tracking i, (s.station i).counters, by simp [State.station, h.stations], .refl _⟩

theorem PlacingFrame.refl (i : StationId) (s : State) : PlacingFrame i s s := (AssemblyFrame.refl s).placing i

theorem PlacingFrame.foldl {α : Type} {i : StationId} {f : State → α → State} (h : ∀ s x, PlacingFrame i s (f s x)) :
    ∀ (l : List α) (s : State), PlacingFrame i s (l.foldl f s)
  | [], s => .refl i s
  | x :: xs, s => (h s x).trans (PlacingFrame.foldl h xs (f s x))

theorem State.count_placing (s : State) (i : StationId) {f : StationCounters → StationCounters}
    (h : (s.station i).counters.SameTracking (f (s.station i).counters)) : PlacingFrame i s (s.count i f) :=
  ⟨s.count_tracking i f, f (s.station i).counters, State.count_self s i f, h⟩

/-- Every station's tracking is as it was. -/
theorem PlacingFrame.tracker {i : StationId} {s t : State} (h : PlacingFrame i s t) (j : StationId) :
    (t.station j).tracker = (s.station j).tracker := by
  by_cases e : j = i
  · obtain ⟨c, own, _⟩ := h.counted
    rw [e, own]
  · rw [h.others j e]

theorem PlacingFrame.expectation {i : StationId} {s t : State} (h : PlacingFrame i s t) (j : StationId) :
    (t.station j).expectation = (s.station j).expectation := by
  by_cases e : j = i
  · obtain ⟨c, own, _⟩ := h.counted
    rw [e, own]
  · rw [h.others j e]

theorem State.modEpoch_frame (s : State) (n : Nat) (f : Epoch → Epoch) : AssemblyFrame s (s.modEpoch n f) :=
  s.modAssembler_frame _

theorem State.withEntry_frame (g : Grid) (period slot : Nat) (r : Record) (t : Timing) (s : State) (e : Epoch) :
    AssemblyFrame s (s.withEntry g period slot r t e) := by
  unfold State.withEntry
  exact (State.modEpoch_frame _ _ _).trans (State.modStore_frame _ _)

theorem State.amended_placing (s : State) (n : Nat) (i : StationId) : PlacingFrame i s (s.amended n i) := by
  unfold State.amended
  exact (((s.modEpoch_frame n _).placing i).trans
    (State.count_placing _ i ⟨rfl, rfl, rfl, rfl, rfl, rfl, rfl⟩)).trans ((State.raise_frame _ _).placing i)

theorem State.enter_placing (g : Grid) (period slot : Nat) (r : Record) (t : Timing) (s : State) (n : Nat) :
    PlacingFrame r.station s (s.enter g period slot r t n) := by
  cases found : s.epoch? n with
  | none => rw [State.enter_of_none found]; exact .refl _ s
  | some e =>
    have entered := (s.withEntry_frame g period slot r t e).placing r.station
    rw [State.enter_of_some found]
    split
    · exact entered.trans (State.amended_placing _ _ _)
    · exact entered

theorem State.prepared_frame (s : State) (p : Plan) : AssemblyFrame s (s.prepared p) :=
  (AssemblyFrame.foldl State.evict_frame p.evictions s).trans (AssemblyFrame.foldl State.createEpoch_frame p.creations _)

theorem State.carryOut_placing (g : Grid) (period slot : Nat) (r : Record) (t : Timing) (p : Plan) (s : State) :
    PlacingFrame r.station s (s.carryOut g period slot r t p) := by
  have entered := ((s.prepared_frame p).placing r.station).trans
    (PlacingFrame.foldl (State.enter_placing g period slot r t) p.entries _)
  have counted := entered.trans (State.count_placing _ r.station (f := fun y =>
    { y with tooLate := bumpBy y.tooLate p.tooLate }) ⟨rfl, rfl, rfl, rfl, rfl, rfl, rfl⟩)
  unfold State.carryOut
  dsimp only
  split
  · exact counted.trans ((State.freeSlot_frame _ _).placing _)
  · exact counted.trans ((State.modSlot_frame _ _ _).placing _)

theorem State.dropExhausted_placing (s : State) (slot : Nat) (i : StationId) :
    PlacingFrame i s (s.dropExhausted slot i) := by
  have counted : PlacingFrame i s (s.count i fun y => { y with poolExhausted := bump y.poolExhausted }) :=
    s.count_placing i ⟨rfl, rfl, rfl, rfl, rfl, rfl, rfl⟩
  exact counted.trans
    ((((State.modStore_frame _ _).trans (State.freeSlot_frame _ _)).trans (State.raise_frame _ _)).placing i)

theorem State.placeRecord_placing (g : Grid) (period slot : Nat) (r : Record) (t : Timing) (s : State) :
    PlacingFrame r.station s (s.placeRecord g period slot r t) := by
  unfold State.placeRecord
  dsimp only
  split
  · exact (s.count_placing r.station (f := fun y => { y with outOfRange := bump y.outOfRange })
      ⟨rfl, rfl, rfl, rfl, rfl, rfl, rfl⟩).trans ((State.freeSlot_frame _ _).placing _)
  · split
    · exact (s.count_placing r.station (f := fun y => { y with future := bump y.future })
        ⟨rfl, rfl, rfl, rfl, rfl, rfl, rfl⟩).trans ((State.freeSlot_frame _ _).placing _)
    · have settled := State.settlePlan_frame g
        (List.range' (g.epochAt t.start).toNat
          (g.epochAt (t.start + duration period t.rho (r.n - 1)) - g.epochAt t.start + 1).toNat)
        (s.assembler.table.length + 1) s
      split
      · next p u plan =>
        rw [plan] at settled
        exact (settled.placing _).trans (State.carryOut_placing _ _ _ _ _ _ _)
      · next u plan =>
        rw [plan] at settled
        exact (settled.placing _).trans (State.dropExhausted_placing _ _ _)

/-- A placement changes of the stations but counters that are not the tracker's. -/
theorem State.place_placing (g : Grid) (period slot : Nat) (r : Record) (t : Timing) (s : State) :
    PlacingFrame r.station s (s.place g period slot r t) :=
  (s.placeRecord_placing g period slot r t).trans ((State.evalCompletion_frame _).placing _)

theorem PlacingFrame.keeps {i : StationId} {s t : State} (h : PlacingFrame i s t) (k : StoreKeeps s t) : Keeps s t :=
  ⟨h.toTrackingFrame.keeps k, fun sound j => by rw [h.tracker]; exact sound j⟩

theorem Keeps.place (g : Grid) (period slot : Nat) (r : Record) (t : Timing) (s : State) :
    Keeps s (s.place g period slot r t) :=
  (s.place_placing g period slot r t).keeps (s.place_storeKeeps g period slot r t)

/-! ## The correction unit (R127 to R140) -/

theorem Station.afterTiming_bare (x : Station) (stream : Stream) (r : Record) (c : Case) (stop : Int) :
    (x.afterTiming stream r c stop).tracker.bare = x.tracker.bare := by
  cases stream <;> rfl

theorem Keeps.afterTiming (s : State) (i : StationId) (stream : Stream) (r : Record) (c : Case) (stop : Int) :
    Keeps s (s.modStation i fun y => y.afterTiming stream r c stop) := by
  cases stream
  · exact .modStation ⟨rfl, rfl, rfl⟩ id fun sound => sound
  · exact .modStation (Station.SameTable.refl _) id id

/-- The state in which the record of a slot has been timed (R131 to R139). -/
def State.timedAt (s : State) (stream : Stream) (i : StationId) (slot : Nat) (r : Record) (c : Case) (t : Timing)
    (stop : Int) : State :=
  (s.modStation i fun y => y.afterTiming stream r c stop).modSlot slot fun y => { y with timing := some t }

/-- A record that times nothing, or has no grid, is counted and its slot freed (R129, R140). -/
def State.countFreed (s : State) (i : StationId) (slot : Nat) (f : StationCounters → StationCounters) : State :=
  (s.count i f).freeSlot slot

section Correct

variable {s : State} {stream : Stream} {i : StationId} {slot : Nat} {x : Slot}

theorem State.correct_of_none (found : s.slot? slot = none) : s.correct stream i slot = s := by
  simp only [State.correct, found]

theorem State.correct_untimed (found : s.slot? slot = some x) (h : (s.station i).time stream x.record = .untimed) :
    s.correct stream i slot = s.countFreed i slot fun y => { y with untimed := bump y.untimed } := by
  simp only [State.correct, found, h, State.countFreed]

theorem State.correct_beyondSpan (found : s.slot? slot = some x)
    (h : (s.station i).time stream x.record = .beyondSpan) :
    s.correct stream i slot = s.countFreed i slot fun y => { y with beyondSpan := bump y.beyondSpan } := by
  simp only [State.correct, found, h, State.countFreed]

theorem State.correct_noGrid {c : Case} {t : Timing} {stop : Int} (found : s.slot? slot = some x)
    (h : (s.station i).time stream x.record = .timed c t stop) (grid : s.timebase.grid = none) :
    s.correct stream i slot = (s.timedAt stream i slot x.record c t stop).countFreed i slot fun y =>
      { y with noGrid := bump y.noGrid } := by
  have kept : (s.timedAt stream i slot x.record c t stop).timebase.grid = none := grid
  simp only [State.correct, found, h, State.countFreed]
  unfold State.timedAt at kept ⊢
  simp only [kept]

theorem State.correct_placed {c : Case} {t : Timing} {stop : Int} {g : Grid} (found : s.slot? slot = some x)
    (h : (s.station i).time stream x.record = .timed c t stop) (grid : s.timebase.grid = some g) :
    s.correct stream i slot = (s.timedAt stream i slot x.record c t stop).place g
      ((s.timedAt stream i slot x.record c t stop).station i).period slot x.record t := by
  have kept : (s.timedAt stream i slot x.record c t stop).timebase.grid = some g := grid
  simp only [State.correct, found, h]
  unfold State.timedAt at kept ⊢
  simp only [kept]

/-- A relation that a count with a freed slot, the timing of a record and its placement meet, `correct` meets. -/
theorem State.correct_induction {R : State → State → Prop} (refl : R s s)
    (trans : ∀ {a b c}, R a b → R b c → R a c) (freed : ∀ a f, R a (State.countFreed a i slot f))
    (timed : ∀ r c t stop, R s (s.timedAt stream i slot r c t stop))
    (placed : ∀ (a : State) g period r t, R a (a.place g period slot r t)) : R s (s.correct stream i slot) := by
  cases found : s.slot? slot with
  | none => rw [State.correct_of_none found]; exact refl
  | some x =>
    cases h : (s.station i).time stream x.record with
    | untimed => rw [State.correct_untimed found h]; exact freed _ _
    | beyondSpan => rw [State.correct_beyondSpan found h]; exact freed _ _
    | timed c t stop =>
      cases grid : s.timebase.grid with
      | none => rw [State.correct_noGrid found h grid]; exact trans (timed _ _ _ _) (freed _ _)
      | some g => rw [State.correct_placed found h grid]; exact trans (timed _ _ _ _) (placed _ _ _ _ _)

end Correct

theorem Keeps.countFreed (s : State) (i : StationId) (slot : Nat) (f : StationCounters → StationCounters) :
    Keeps s (s.countFreed i slot f) :=
  (Keeps.count s i f).trans (.freeSlot _ slot)

theorem Keeps.timedAt (s : State) (stream : Stream) (i : StationId) (slot : Nat) (r : Record) (c : Case) (t : Timing)
    (stop : Int) : Keeps s (s.timedAt stream i slot r c t stop) := by
  unfold State.timedAt
  exact (Keeps.afterTiming s i stream r c stop).trans
    ((State.modSlot_frame _ slot _).keeps (State.modSlot_storeKeeps _ slot fun _ => rfl))

theorem Keeps.correct (stream : Stream) (i : StationId) (slot : Nat) (s : State) : Keeps s (s.correct stream i slot) :=
  State.correct_induction (.refl s) Keeps.trans (Keeps.countFreed · i slot) (Keeps.timedAt s stream i slot)
    fun a g period r t => Keeps.place g period slot r t a

/-- Every station's tracking, without covered-until. -/
def State.bare (s : State) (j : StationId) : Tracker := (s.station j).tracker.bare

theorem State.trackingSound_iff (s : State) : s.trackingSound ↔ ∀ j, (s.bare j).sound := Iff.rfl

theorem PlacingFrame.bare {i : StationId} {s t : State} (h : PlacingFrame i s t) : t.bare = s.bare :=
  funext fun j => by rw [State.bare, State.bare, h.tracker j]

theorem AssemblyFrame.bare {s t : State} (h : AssemblyFrame s t) : t.bare = s.bare := (h.placing 0).bare

theorem State.bare_modStation {s : State} {i : StationId} {f : Station → Station} {t : Tracker}
    (h : (f (s.station i)).tracker.bare = t) : (s.modStation i f).bare = Function.update s.bare i t := by
  funext j
  rw [State.bare, State.station_modStation]
  split
  · next e => subst e; rw [Function.update_self, h]
  · next e => rw [Function.update_of_ne (Ne.symm e)]; rfl

theorem State.bare_modStation_same {s : State} {i : StationId} {f : Station → Station}
    (h : (f (s.station i)).tracker.bare = (s.station i).tracker.bare) : (s.modStation i f).bare = s.bare := by
  rw [State.bare_modStation h]
  exact Function.update_eq_self i s.bare

@[simp] theorem State.bare_count (s : State) (i : StationId) (f : StationCounters → StationCounters) :
    (s.count i f).bare = s.bare :=
  State.bare_modStation_same rfl

@[simp] theorem State.bare_raiseIf (s : State) (b : Bool) (k : NoticeKind) : (s.raiseIf b k).bare = s.bare :=
  (s.raiseIf_frame b k).bare

@[simp] theorem State.bare_freeSlot (s : State) (k : Nat) : (s.freeSlot k).bare = s.bare := (s.freeSlot_frame k).bare

/-- The timing of a record moves of no station's tracking but covered-until. -/
@[simp] theorem State.bare_correct (stream : Stream) (i : StationId) (slot : Nat) (s : State) :
    (s.correct stream i slot).bare = s.bare := by
  refine State.correct_induction (R := fun s t => t.bare = s.bare) rfl (fun h k => k.trans h) (fun a f => ?_)
    (fun r c t stop => ?_) fun a g period r t => (a.place_placing g period slot r t).bare
  · simp only [State.countFreed, State.bare_freeSlot, State.bare_count]
  · rw [State.timedAt, (State.modSlot_frame _ slot _).bare]
    exact State.bare_modStation_same (Station.afterTiming_bare _ _ _ _ _)

end Sys2Proof.Machine
end

section
/-! PROOF. Sequence tracking (R66 to R86): what each operation makes of a station's tracking, as functions of tracking
alone, and that tracking stays sound. -/

namespace Sys2Proof.Machine

/-! ## The operations on tracking alone -/

/-- q and the hold after a drain: q passes the held records that follow it without a break (R69, step 4). -/
def drainTo : Seq → List Held → Seq × List Held
  | q, [] => (q, [])
  | q, h :: rest => if h.seq = q then drainTo (q + 1) rest else (q, h :: rest)

/-- Tracking after a drain of its hold (R69, step 4). -/
def Tracker.drained (t : Tracker) : Tracker :=
  match t.q with
  | some q => { t with q := some (drainTo q t.hold).1, hold := (drainTo q t.hold).2 }
  | none => t

/-- Tracking with the timer of an empty hold stopped (R69, R73). -/
def Tracker.rested (t : Tracker) : Tracker := if t.hold = [] then { t with holdDue := none } else t

/-- Tracking with its gap list aged (R76). -/
def Tracker.aged (t : Tracker) : Tracker :=
  match t.q with
  | some q => { t with gaps := t.gaps.filter fun g => !g.aged q }
  | none => t

/-- Tracking with a gap declared, the oldest of four giving way (R76). -/
def Tracker.declared (t : Tracker) (first last : Seq) : Tracker :=
  { t with gaps := (if gapLimit ≤ t.gaps.length then t.gaps.drop 1 else t.gaps) ++
      [{ first := first, last := last, attempts := 0, request := none, damaged := false }] }

/-- Tracking with q moved, and what follows every move of q (R69, R73). -/
def Tracker.movedTo (t : Tracker) (q : Seq) : Tracker := ({ t with q := some q } : Tracker).drained.rested.aged

/-- Tracking after one declare-and-advance from q to h (R73). -/
def Tracker.advanced (t : Tracker) (q h : Seq) : Tracker := (t.declared q (h - 1)).movedTo h

/-- Tracking after declare-and-advance as often as `a` is 9 or more steps after q (R74). -/
def Tracker.advancedTo (a : Seq) : Nat → Tracker → Tracker
  | 0, t => t
  | fuel + 1, t =>
    match t.q with
    | some q =>
      if 9 ≤ stepsAfter q a ∧ stepsAfter q a ≤ 32767 then Tracker.advancedTo a fuel (t.advanced q (t.lowest a)) else t
    | none => t

/-! ## The operations of the model make these -/

section Effects

variable (s : State) (i : StationId)

theorem State.bare_modTracker {s : State} {i : StationId} {f : Tracker → Tracker} (h : ∀ t, (f t).bare = f t.bare) :
    (s.modTracker i f).bare = Function.update s.bare i (f (s.bare i)) :=
  State.bare_modStation (h _)

@[simp] theorem State.bare_putQ (q : Option Seq) :
    (s.modTracker i fun t => { t with q := q }).bare = Function.update s.bare i { s.bare i with q := q } :=
  State.bare_modTracker fun _ => rfl

@[simp] theorem State.bare_takeHeld (q : Option Seq) (hold : List Held) :
    (s.modTracker i fun t => { t with q := q, hold := hold }).bare =
      Function.update s.bare i { s.bare i with q := q, hold := hold } :=
  State.bare_modTracker fun _ => rfl

@[simp] theorem State.bare_putGaps (gaps : List Gap) :
    (s.modTracker i fun t => { t with gaps := gaps }).bare =
      Function.update s.bare i { s.bare i with gaps := gaps } :=
  State.bare_modTracker fun _ => rfl

@[simp] theorem State.bare_addGaps (gaps : List Gap) :
    (s.modTracker i fun t => { t with gaps := t.gaps ++ gaps }).bare =
      Function.update s.bare i { s.bare i with gaps := (s.bare i).gaps ++ gaps } :=
  State.bare_modTracker fun _ => rfl

@[simp] theorem State.bare_countAbandoned (k : Nat) (notify : Bool) :
    (s.countAbandoned i k notify).bare = s.bare := by
  simp only [State.countAbandoned, State.bare_raiseIf, State.bare_count]

@[simp] theorem State.bare_abandonWhere (out : Gap → Bool) :
    (s.abandonWhere i out).bare =
      Function.update s.bare i { s.bare i with gaps := (s.bare i).gaps.filter fun g => !out g } := by
  rw [State.abandonWhere, State.bare_countAbandoned]
  exact State.bare_modTracker fun _ => rfl

@[simp] theorem State.bare_ageGaps : (s.ageGaps i).bare = Function.update s.bare i (s.bare i).aged := by
  cases h : (s.station i).tracker.q with
  | none =>
    have bare : (s.bare i).q = none := h
    simp only [State.ageGaps, h, Tracker.aged, bare, Function.update_eq_self]
  | some q =>
    have bare : (s.bare i).q = some q := h
    simp only [State.ageGaps, h, Tracker.aged, bare, State.bare_abandonWhere]

@[simp] theorem State.bare_restHold : (s.restHold i).bare = Function.update s.bare i (s.bare i).rested :=
  State.bare_modTracker (f := Tracker.rested) fun t => by
    by_cases empty : t.hold = [] <;> simp [Tracker.rested, Tracker.bare, empty]

theorem State.bare_drain (fuel : Nat) : ∀ s : State, (s.bare i).hold.length ≤ fuel →
    (s.drain i fuel).bare = Function.update s.bare i (s.bare i).drained := by
  induction fuel with
  | zero =>
    intro s enough
    have empty : (s.bare i).hold = [] := List.length_eq_zero_iff.mp (Nat.le_zero.mp enough)
    have same : (s.bare i).drained = s.bare i := by
      unfold Tracker.drained
      split
      · next q hq => rw [empty, drainTo, ← hq, ← empty]
      · rfl
    rw [State.drain, same, Function.update_eq_self]
  | succ fuel ih =>
    intro s enough
    unfold State.drain
    split
    · next q h rest hq hh =>
      have bq : (s.bare i).q = some q := hq
      have bh : (s.bare i).hold = h :: rest := hh
      split
      · next front =>
        rw [ih]
        · rw [State.bare_correct, State.bare_takeHeld]
          simp [Tracker.drained, bq, bh, drainTo, front]
        · rw [State.bare_correct, State.bare_takeHeld]
          simpa [bh] using enough
      · next past =>
        have same : (s.bare i).drained = s.bare i := by
          simp only [Tracker.drained, bq, bh, drainTo, past, if_false]
          rw [← bq, ← bh]
        rw [same, Function.update_eq_self]
    · next none_or_empty =>
      have same : (s.bare i).drained = s.bare i := by
        cases hq : (s.bare i).q with
        | none => simp only [Tracker.drained, hq]
        | some q =>
          cases hh : (s.bare i).hold with
          | nil =>
            simp only [Tracker.drained, hq, hh, drainTo]
            rw [← hq, ← hh]
          | cons h rest => exact (none_or_empty q h rest hq hh).elim
      rw [same, Function.update_eq_self]

@[simp] theorem State.bare_drainHold : (s.drainHold i).bare = Function.update s.bare i (s.bare i).drained :=
  s.bare_drain i _ le_rfl

@[simp] theorem State.bare_createGap (first last : Seq) :
    (s.createGap i first last).bare = Function.update s.bare i ((s.bare i).declared first last) := by
  unfold State.createGap Tracker.declared
  dsimp only
  rw [State.bare_count, State.bare_addGaps]
  split
  · next full =>
    have bareFull : gapLimit ≤ (s.bare i).gaps.length := full
    rw [State.bare_countAbandoned, State.bare_putGaps, if_pos bareFull]
    simp only [Function.update_self, Function.update_idem]
    rfl
  · next room =>
    have bareRoom : ¬ gapLimit ≤ (s.bare i).gaps.length := room
    rw [if_neg bareRoom]

/-- What follows every move of q: the drain, the timer of an empty hold, and the aged gaps (R69, R73). -/
theorem State.bare_settle :
    (((s.drainHold i).restHold i).ageGaps i).bare = Function.update s.bare i (s.bare i).drained.rested.aged := by
  simp only [State.bare_ageGaps, State.bare_restHold, State.bare_drainHold, Function.update_self, Function.update_idem]

theorem State.bare_inSequence (slot : Nat) (a : Seq) :
    (s.inSequence i slot a).bare = Function.update s.bare i ((s.bare i).movedTo (a + 1)) := by
  unfold State.inSequence
  dsimp only
  rw [State.bare_settle, State.bare_putQ, State.bare_correct, State.bare_count]
  simp only [Function.update_self, Function.update_idem, Tracker.movedTo]

theorem State.bare_declareAdvance (q h : Seq) :
    (s.declareAdvance i q h).bare = Function.update s.bare i ((s.bare i).advanced q h) := by
  unfold State.declareAdvance
  dsimp only
  rw [State.bare_settle, State.bare_putQ, State.bare_createGap]
  simp only [Function.update_self, Function.update_idem, Tracker.movedTo, Tracker.advanced]

theorem State.bare_advanceTo (a : Seq) (fuel : Nat) : ∀ s : State,
    (State.advanceTo i a fuel s).bare = Function.update s.bare i (Tracker.advancedTo a fuel (s.bare i)) := by
  induction fuel with
  | zero =>
    intro s
    rw [State.advanceTo, Tracker.advancedTo, Function.update_eq_self]
  | succ fuel ih =>
    intro s
    cases h : (s.station i).tracker.q with
    | none =>
      have bare : (s.bare i).q = none := h
      simp only [State.advanceTo, h, Tracker.advancedTo, bare, Function.update_eq_self]
    | some q =>
      have bare : (s.bare i).q = some q := h
      simp only [State.advanceTo, h, Tracker.advancedTo, bare]
      split
      · rw [ih, State.bare_declareAdvance]
        simp only [Function.update_self, Function.update_idem]
        rfl
      · rw [Function.update_eq_self]

@[simp] theorem State.bare_startHold :
    (s.startHold i).bare = Function.update s.bare i
      { s.bare i with holdDue := some (s.partTime + (s.station i).config.holdTime * 1000) } :=
  State.bare_modStation rfl

@[simp] theorem State.bare_dropDuplicate (slot : Nat) : (s.dropDuplicate i slot).bare = s.bare := by
  simp only [State.dropDuplicate, State.bare_freeSlot, State.bare_count]

end Effects

/-! ## They keep tracking sound -/

theorem drainTo_sound {q : Seq} {hold : List Held} (h : drainable q hold) :
    holdSound (drainTo q hold).1 (drainTo q hold).2 := by
  induction hold generalizing q with
  | nil => exact ⟨by simp [drainTo], by simp [drainTo]⟩
  | cons x rest ih =>
    simp only [drainTo]
    split
    · next front => exact ih (drainable_tail h front)
    · next past => exact h.sound past

theorem drainTo_length (q : Seq) (hold : List Held) : (drainTo q hold).2.length ≤ hold.length := by
  induction hold generalizing q with
  | nil => simp [drainTo]
  | cons x rest ih =>
    simp only [drainTo]
    split
    · exact (ih _).trans (Nat.le_succ _)
    · rfl

/-- A drain stops no later than one step after the last record of the hold. -/
theorem drainTo_steps {q : Seq} {hold : List Held} {n : Nat} (h : drainable q hold) (small : n < 65536)
    (all : ∀ x ∈ hold, stepsAfter q x.seq < n) : stepsAfter q (drainTo q hold).1 ≤ n := by
  induction hold generalizing q n with
  | nil => simp [drainTo]
  | cons x rest ih =>
    simp only [drainTo]
    split
    · next front =>
      have first := all x (by simp)
      rw [front, stepsAfter_self] at first
      have after (y) (mem : y ∈ rest) : 1 ≤ stepsAfter q y.seq := by
        have := (List.pairwise_cons.mp h.2).1 y mem
        omega
      have moved := ih (n := n - 1) (drainable_tail h front) (by omega) fun y mem => by
        have := all y (by simp [mem])
        have := after y mem
        rw [stepsAfter_succ this]
        omega
      simp only [stepsAfter] at moved ⊢
      bv_omega
    · simp

@[simp] theorem Tracker.rested_gaps (t : Tracker) : t.rested.gaps = t.gaps := by
  unfold Tracker.rested
  split <;> rfl

@[simp] theorem Tracker.rested_q (t : Tracker) : t.rested.q = t.q := by
  unfold Tracker.rested
  split <;> rfl

@[simp] theorem Tracker.rested_hold (t : Tracker) : t.rested.hold = t.hold := by
  unfold Tracker.rested
  split <;> rfl

theorem Tracker.aged_of_some {t : Tracker} {q : Seq} (h : t.q = some q) :
    t.aged = { t with gaps := t.gaps.filter fun g => !g.aged q } := by simp only [Tracker.aged, h]

@[simp] theorem Tracker.movedTo_q (t : Tracker) (q : Seq) : (t.movedTo q).q = some (drainTo q t.hold).1 := by
  rw [Tracker.movedTo, Tracker.aged_of_some (q := (drainTo q t.hold).1) (by simp [Tracker.drained])]
  simp [Tracker.drained]

@[simp] theorem Tracker.movedTo_hold (t : Tracker) (q : Seq) : (t.movedTo q).hold = (drainTo q t.hold).2 := by
  rw [Tracker.movedTo, Tracker.aged_of_some (q := (drainTo q t.hold).1) (by simp [Tracker.drained])]
  simp [Tracker.drained]

@[simp] theorem Tracker.movedTo_gaps (t : Tracker) (q : Seq) :
    (t.movedTo q).gaps = t.gaps.filter fun g => !g.aged (drainTo q t.hold).1 := by
  rw [Tracker.movedTo, Tracker.aged_of_some (q := (drainTo q t.hold).1) (by simp [Tracker.drained])]
  simp [Tracker.drained]

theorem Tracker.sound_iff {t : Tracker} {q : Seq} (h : t.q = some q) :
    t.sound ↔ t.gaps.length ≤ gapLimit ∧ holdSound q t.hold := by simp only [Tracker.sound, h]

theorem Tracker.movedTo_sound {t : Tracker} {q : Seq} (gaps : t.gaps.length ≤ gapLimit) (hold : drainable q t.hold) :
    (t.movedTo q).sound := by
  refine (Tracker.sound_iff (t.movedTo_q q)).mpr ⟨?_, ?_⟩
  · rw [Tracker.movedTo_gaps]
    exact (List.length_filter_le _ _).trans gaps
  · rw [Tracker.movedTo_hold]
    exact drainTo_sound hold

theorem Tracker.declared_gaps_length {t : Tracker} (gaps : t.gaps.length ≤ gapLimit) (first last : Seq) :
    (t.declared first last).gaps.length ≤ gapLimit := by
  simp only [Tracker.declared, List.length_append, List.length_singleton]
  split
  · simp only [List.length_drop]
    simp only [gapLimit] at *
    omega
  · next room => exact Nat.succ_le_of_lt (Nat.lt_of_not_le room)

/-- q moved to the lowest held seq: the whole hold stands in serial order from there. -/
theorem drainable_front {q : Seq} {x : Held} {rest : List Held} (h : holdSound q (x :: rest)) :
    drainable x.seq (x :: rest) :=
  drainable_from h.drainable fun y mem => by
    rcases List.mem_cons.mp mem with rfl | mem
    · exact le_rfl
    · exact ((List.pairwise_cons.mp h.2).1 y mem).le

theorem Tracker.advanced_sound {t : Tracker} {q : Seq} (h : t.q = some q) (sound : t.sound) (a : Seq) :
    (t.advanced q (t.lowest a)).sound := by
  obtain ⟨gaps, hold⟩ := (Tracker.sound_iff h).mp sound
  refine Tracker.movedTo_sound (Tracker.declared_gaps_length gaps _ _) ?_
  show drainable (t.lowest a) t.hold
  unfold Tracker.lowest
  split
  · next x rest held => rw [held] at hold ⊢; exact drainable_front hold
  · next empty => rw [empty]; exact ⟨by simp, by simp⟩

/-- One declare-and-advance leaves a record ahead of q ahead, or at q, and takes a record out of the hold, or ends at
the record itself (R73, R74). -/
theorem Tracker.advanced_progress {t : Tracker} {q a : Seq} (h : t.q = some q) (sound : t.sound)
    (far : 9 ≤ stepsAfter q a) (ahead : stepsAfter q a ≤ 32767) :
    ∃ p, (t.advanced q (t.lowest a)).q = some p ∧ stepsAfter p a ≤ 32767 ∧
      (stepsAfter p a ≤ 8 ∨ (t.advanced q (t.lowest a)).hold.length < t.hold.length) := by
  obtain ⟨_, hold⟩ := (Tracker.sound_iff h).mp sound
  refine ⟨_, Tracker.movedTo_q _ _, ?_⟩
  rw [Tracker.advanced, Tracker.movedTo_hold]
  show stepsAfter (drainTo (t.lowest a) t.hold).1 a ≤ 32767 ∧
    (stepsAfter (drainTo (t.lowest a) t.hold).1 a ≤ 8 ∨ (drainTo (t.lowest a) t.hold).2.length < t.hold.length)
  unfold Tracker.lowest
  split
  · next x rest held =>
    rw [held] at hold ⊢
    have near := (hold.1 x (by simp)).2
    have toLowest := stepsAfter_from (q := q) (h := x.seq) (a := a) (by omega)
    have drained : stepsAfter x.seq (drainTo x.seq (x :: rest)).1 ≤ 9 - stepsAfter q x.seq := by
      refine drainTo_steps (drainable_front hold) (by omega) fun y mem => ?_
      have near' := (hold.1 y mem).2
      have later : stepsAfter q x.seq ≤ stepsAfter q y.seq := by
        rcases List.mem_cons.mp mem with rfl | mem
        · exact le_rfl
        · exact ((List.pairwise_cons.mp hold.2).1 y mem).le
      rw [stepsAfter_from later]
      omega
    have left := stepsAfter_from (q := x.seq) (h := (drainTo x.seq (x :: rest)).1) (a := a) (by omega)
    refine ⟨by omega, .inr ?_⟩
    rw [drainTo, if_pos rfl]
    exact Nat.lt_succ_of_le (drainTo_length _ _)
  · next empty => simp [empty, drainTo]

/-- After declare-and-advance a record ahead of q lies within 8 steps of it (R74). -/
theorem Tracker.advancedTo_near {a : Seq} {fuel : Nat} {t : Tracker} {q : Seq} (h : t.q = some q) (sound : t.sound)
    (ahead : stepsAfter q a ≤ 32767) (enough : stepsAfter q a ≤ 8 ∨ t.hold.length < fuel) :
    (Tracker.advancedTo a fuel t).sound ∧
      ∃ p, (Tracker.advancedTo a fuel t).q = some p ∧ stepsAfter p a ≤ 8 := by
  induction fuel generalizing t q with
  | zero => exact ⟨sound, q, h, by omega⟩
  | succ fuel ih =>
    simp only [Tracker.advancedTo, h]
    split
    · next far =>
      obtain ⟨p, moved, still, progress⟩ := Tracker.advanced_progress h sound far.1 far.2
      exact ih moved (Tracker.advanced_sound h sound a) still (by omega)
    · next near => exact ⟨sound, q, h, by omega⟩

/-! ## Tracking stays sound -/

theorem State.trackingSound_of_bare {s t : State} {i : StationId} {x : Tracker}
    (h : t.bare = Function.update s.bare i x) (sound : s.trackingSound) (own : x.sound) : t.trackingSound := by
  rw [State.trackingSound_iff] at sound ⊢
  intro j
  rw [h]
  by_cases e : j = i
  · rw [e, Function.update_self]; exact own
  · rw [Function.update_of_ne e]; exact sound j

theorem State.trackingSound_of_same {s t : State} (h : t.bare = s.bare) (sound : s.trackingSound) : t.trackingSound := by
  rw [State.trackingSound_iff] at sound ⊢
  rw [h]
  exact sound

end Sys2Proof.Machine
end

section
/-! PROOF. Sequence tracking (R66 to R86): every operation keeps every invariant. -/

namespace Sys2Proof.Machine

/-! ## All but tracking -/

section Rest

variable (i : StationId)

theorem RestKeeps.drain (fuel : Nat) : ∀ s : State, RestKeeps s (s.drain i fuel) := by
  induction fuel with
  | zero => exact fun s => .refl s
  | succ fuel ih =>
    intro s
    unfold State.drain
    split
    · next q h rest hq hh =>
      split
      · have moved := RestKeeps.modTracker s i fun t => { t with q := some (q + 1), hold := rest }
        exact (moved.trans (Keeps.correct .main i h.slot _).toRestKeeps).trans (ih _)
      · exact .refl s
    · exact .refl s

theorem Keeps.countAbandoned (s : State) (k : Nat) (notify : Bool) : Keeps s (s.countAbandoned i k notify) := by
  unfold State.countAbandoned
  exact (Keeps.count s i _).trans (Keeps.raiseIf _ _ _)

theorem RestKeeps.abandonWhere (s : State) (out : Gap → Bool) : RestKeeps s (s.abandonWhere i out) := by
  unfold State.abandonWhere
  exact (RestKeeps.modTracker s i _).trans (Keeps.countAbandoned i _ _ _).toRestKeeps

theorem RestKeeps.ageGaps (s : State) : RestKeeps s (s.ageGaps i) := by
  unfold State.ageGaps
  split
  · exact .abandonWhere i s _
  · exact .refl s

theorem RestKeeps.settle (s : State) : RestKeeps s (((s.drainHold i).restHold i).ageGaps i) :=
  ((RestKeeps.drain i _ s).trans (RestKeeps.modTracker _ i _)).trans (RestKeeps.ageGaps i _)

theorem RestKeeps.createGap (s : State) (first last : Seq) : RestKeeps s (s.createGap i first last) := by
  unfold State.createGap
  dsimp only
  split
  · exact (((RestKeeps.modTracker s i _).trans (Keeps.countAbandoned i _ _ _).toRestKeeps).trans
      (RestKeeps.modTracker _ i _)).trans (Keeps.count _ i _).toRestKeeps
  · exact (RestKeeps.modTracker s i _).trans (Keeps.count _ i _).toRestKeeps

theorem RestKeeps.inSequence (s : State) (slot : Nat) (a : Seq) : RestKeeps s (s.inSequence i slot a) := by
  unfold State.inSequence
  exact (((Keeps.count s i _).trans (Keeps.correct .main i slot _)).toRestKeeps.trans
    (RestKeeps.modTracker _ i _)).trans (RestKeeps.settle i _)

theorem RestKeeps.declareAdvance (s : State) (q h : Seq) : RestKeeps s (s.declareAdvance i q h) := by
  unfold State.declareAdvance
  exact ((RestKeeps.createGap i s q (h - 1)).trans (RestKeeps.modTracker _ i _)).trans (RestKeeps.settle i _)

theorem RestKeeps.advanceTo (a : Seq) (fuel : Nat) : ∀ s : State, RestKeeps s (State.advanceTo i a fuel s) := by
  induction fuel with
  | zero => exact fun s => .refl s
  | succ fuel ih =>
    intro s
    unfold State.advanceTo
    split
    · split
      · exact (RestKeeps.declareAdvance i s _ _).trans (ih _)
      · exact .refl s
    · exact .refl s

theorem Keeps.startHold (s : State) : Keeps s (s.startHold i) :=
  .modStation ⟨rfl, rfl, rfl⟩ id id

theorem Keeps.dropDuplicate (s : State) (slot : Nat) : Keeps s (s.dropDuplicate i slot) :=
  .countFreed s i slot _

theorem RestKeeps.holdRecord (s : State) (slot : Nat) (q a : Seq) : RestKeeps s (s.holdRecord i slot q a) := by
  unfold State.holdRecord
  dsimp only
  split
  · exact (Keeps.dropDuplicate i s slot).toRestKeeps
  · have held := (RestKeeps.modTracker s i fun t => { t with hold := insertHeld q { slot := slot, seq := a } t.hold }).trans
      (Keeps.count _ i fun y => { y with held := bump y.held }).toRestKeeps
    split
    · exact held.trans (Keeps.startHold i _).toRestKeeps
    · exact held

theorem RestKeeps.takeNear (s : State) (slot : Nat) (a : Seq) : RestKeeps s (s.takeNear i slot a) := by
  unfold State.takeNear
  split
  · split
    · exact .inSequence i s slot a
    · exact .holdRecord i s slot _ a
  · exact .inSequence i s slot a

end Rest

/-! ## Tracking -/

section Track

variable (i : StationId)

theorem Tracker.sound_of {t : Tracker} {q : Seq} (h : t.q = some q) (gaps : t.gaps.length ≤ gapLimit)
    (hold : holdSound q t.hold) : t.sound := (Tracker.sound_iff h).mpr ⟨gaps, hold⟩

theorem Keeps.inSequence_of {s : State} {q : Seq} (slot : Nat) (at_q : (s.bare i).q = some q)  :
    Keeps s (s.inSequence i slot q) := by
  refine ⟨.inSequence i s slot q, fun sound => State.trackingSound_of_bare (s.bare_inSequence i slot q) sound ?_⟩
  obtain ⟨gaps, hold⟩ := (Tracker.sound_iff at_q).mp (sound i)
  exact Tracker.movedTo_sound gaps (drainable_succ hold.drainable fun x mem => (hold.1 x mem).1)

/-- A record 1 to 8 steps after q is held, or is a duplicate of one held (R70). -/
theorem Keeps.holdRecord {s : State} {q a : Seq} (slot : Nat) (hq : (s.bare i).q = some q) (after : 1 ≤ stepsAfter q a)
    (near : stepsAfter q a ≤ 8) : Keeps s (s.holdRecord i slot q a) := by
  refine ⟨.holdRecord i s slot q a, fun sound => ?_⟩
  obtain ⟨gaps, hold⟩ := (Tracker.sound_iff hq).mp (sound i)
  unfold State.holdRecord
  dsimp only
  split
  · exact State.trackingSound_of_same (s.bare_dropDuplicate i slot) sound
  · next fresh =>
    have fresh (x) (mem : x ∈ (s.bare i).hold) : x.seq ≠ a := fun e => fresh (List.any_eq_true.mpr ⟨x, mem, by simp [e]⟩)
    have held : ((s.modTracker i fun t => { t with hold := insertHeld q { slot := slot, seq := a } t.hold }).count i
        fun y => { y with held := bump y.held }).trackingSound :=
      (Keeps.count _ i _).tracking (State.trackingSound_modStation (fun _ => Tracker.sound_of hq gaps
        (insertHeld_sound (x := { slot := slot, seq := a }) hold after near fresh)) sound)
    split
    · exact (Keeps.startHold i _).tracking held
    · exact held

theorem Keeps.takeNear {s : State} {q a : Seq} (slot : Nat) (hq : (s.bare i).q = some q) (near : stepsAfter q a ≤ 8) :
    Keeps s (s.takeNear i slot a) := by
  have real : (s.station i).tracker.q = some q := hq
  simp only [State.takeNear, real]
  split
  · next e => rw [e]; exact .inSequence_of i slot hq
  · next ne => exact .holdRecord i slot hq (Nat.one_le_iff_ne_zero.mpr fun zero => ne (stepsAfter_eq_zero.mp zero)) near

theorem Keeps.putGaps (s : State) {gaps : List Gap} (fewer : gaps.length ≤ (s.bare i).gaps.length) :
    Keeps s (s.modTracker i fun t => { t with gaps := gaps }) :=
  .modTracker fun sound => Tracker.sound_of_gaps sound fewer

/-- A replacement of one gap by `new`. -/
theorem replaceGap_length (test : Gap → Bool) (new gaps : List Gap) (found : ∃ g ∈ gaps, test g = true) :
    (replaceGap test new gaps).length + 1 = new.length + gaps.length := by
  induction gaps with
  | nil => simp at found
  | cons g gs ih =>
    simp only [replaceGap]
    split
    · simp; omega
    · next other =>
      have later : ∃ g ∈ gs, test g = true := by simpa [other] using found
      have := ih later
      simp only [List.length_cons]
      omega

theorem Keeps.shrinkGap {s : State} {a : Seq} {g : Gap} (found : ∃ g ∈ (s.bare i).gaps, g.holds a = true) (q : Seq)
    (hq : (s.bare i).q = some q) : Keeps s (s.shrinkGap i a g) := by
  have put (new : List Gap) (fits : new.length ≤ 1 ∨ new.length = 2 ∧ (s.bare i).gaps.length < gapLimit) :
      Keeps s (s.modTracker i fun t => { t with gaps := replaceGap (fun x => x.holds a) new t.gaps }) := by
    refine .modTracker fun sound => ?_
    obtain ⟨gaps, hold⟩ := (Tracker.sound_iff hq).mp sound
    refine Tracker.sound_of hq ?_ hold
    have size := replaceGap_length _ new _ found
    show (replaceGap (fun x => x.holds a) new (s.bare i).gaps).length ≤ gapLimit
    have gaps : (s.bare i).gaps.length ≤ gapLimit := gaps
    omega
  unfold State.shrinkGap
  dsimp only
  split
  · exact ((put [] (by simp)).trans (Keeps.count _ i _)).trans (Keeps.raiseIf _ _ _)
  · split
    · exact put _ (by simp)
    · split
      · exact put _ (by simp)
      · split
        · exact (put _ (by simp)).trans (Keeps.countAbandoned i _ _ _)
        · next room => exact put _ (.inr ⟨rfl, Nat.lt_of_not_le room⟩)

theorem Keeps.takeBehind {s : State} {q : Seq} (slot : Nat) (a : Seq) (hq : (s.bare i).q = some q) :
    Keeps s (s.takeBehind i slot a) := by
  unfold State.takeBehind
  split
  · next g found =>
    exact ((Keeps.shrinkGap i ⟨g, List.mem_of_find?_eq_some found, List.find?_some (p := fun g : Gap => g.holds a) found⟩ q hq).trans
      (Keeps.count _ i _)).trans (Keeps.correct .fill i slot _)
  · exact .dropDuplicate i s slot

/-- A record handed to the tracker (R67 to R79). -/
theorem Keeps.track (s : State) (slot : Nat) (a : Seq) : Keeps s (s.track i slot a) := by
  unfold State.track
  split
  · next first =>
    have started := RestKeeps.modTracker s i fun t => { t with q := some a }
    refine ⟨started.trans (.inSequence i _ slot a), fun sound => ?_⟩
    refine State.trackingSound_of_bare (i := i) (x := ({ s.bare i with q := some a } : Tracker).movedTo (a + 1)) ?_ sound ?_
    · rw [State.bare_inSequence, State.bare_putQ, Function.update_self, Function.update_idem]
    · have none : (s.bare i).q = none := first
      have ⟨gaps, hold, _⟩ : (s.bare i).gaps.length ≤ gapLimit ∧ (s.bare i).hold = [] ∧ (s.bare i).gaps = [] := by
        have own : (s.bare i).sound := sound i
        simpa only [Tracker.sound, none] using own
      refine Tracker.movedTo_sound gaps ?_
      show drainable (a + 1) (s.bare i).hold
      rw [hold]
      exact ⟨by simp, by simp⟩
  · next q hq =>
    have bare : (s.bare i).q = some q := hq
    split
    · next near => exact .takeNear i slot bare near
    · next far =>
      split
      · next ahead =>
        refine ⟨(RestKeeps.advanceTo i a _ s).trans (.takeNear i _ slot a), fun sound => ?_⟩
        obtain ⟨advanced, p, hp, near⟩ := Tracker.advancedTo_near (a := a)
          (fuel := (s.station i).tracker.hold.length + 1) bare (sound i) ahead (.inr (Nat.lt_succ_self _))
        have moved := State.bare_advanceTo i a ((s.station i).tracker.hold.length + 1) s
        refine (Keeps.takeNear i slot (q := p) ?_ near).tracking (State.trackingSound_of_bare moved sound advanced)
        rw [moved, Function.update_self]
        exact hp
      · exact .takeBehind i slot a bare

/-! ## Giving up, restart and backfill -/

theorem Keeps.renewHold (s : State) : Keeps s (s.renewHold i) := by
  unfold State.renewHold
  split
  · exact .modTracker id
  · exact .startHold i s

/-- One declare-and-advance of a station that waits (R71, R73, R75). -/
theorem Keeps.giveUp (s : State) : Keeps s (s.giveUp i) := by
  unfold State.giveUp
  split
  · next q h rest hq hh =>
    refine Keeps.trans ⟨.declareAdvance i s q h.seq, fun sound => ?_⟩ (.renewHold i _)
    have bare : (s.bare i).q = some q := hq
    have lowest : (s.bare i).lowest h.seq = h.seq := by
      have held : (s.bare i).hold = h :: rest := hh
      simp only [Tracker.lowest, held]
    have advanced := Tracker.advanced_sound bare (sound i) h.seq
    rw [lowest] at advanced
    exact State.trackingSound_of_bare (s.bare_declareAdvance i q h.seq) sound advanced
  · exact .refl s

theorem Keeps.abandonWhere (s : State) (out : Gap → Bool) : Keeps s (s.abandonWhere i out) := by
  unfold State.abandonWhere
  exact (Keeps.putGaps i s (List.length_filter_le _ _)).trans (Keeps.countAbandoned i _ _ _)

theorem Keeps.lowerAttempts (s : State) : Keeps s (s.lowerAttempts i) := .abandonWhere i s _

/-- The ending of a backfill request (R81). -/
theorem Keeps.endRequest (s : State) (identifier : Byte) (e : Ending) : Keeps s (s.endRequest i identifier e) := by
  unfold State.endRequest
  exact (Keeps.putGaps i s (List.length_filterMap_le _ _)).trans (Keeps.countAbandoned i _ _ _)

theorem requestOldest_length (identifier : Byte) (gaps : List Gap) :
    (requestOldest identifier gaps).length = gaps.length := by
  induction gaps with
  | nil => rfl
  | cons g gs ih =>
    simp only [requestOldest]
    split <;> simp [ih]

/-- Tracking returned to "before the first record" (R52, R86). -/
theorem Keeps.clearTracking (s : State) : Keeps s (s.clearTracking i) := by
  unfold State.clearTracking
  exact ((Keeps.freeSlots s _).trans (Keeps.countAbandoned i _ _ _)).trans (.modTracker fun _ => Tracker.initial_sound)

end Track

end Sys2Proof.Machine
end

section
/-! PROOF. Clock models (R105 to R126) and marks (R89 to R102): every operation keeps a clock sound, and every invariant. -/

namespace Sys2Proof.Machine

/-! ## Clocks -/

theorem ladderStages_step : ∀ n ≤ 64, ladderStages n ||| ladderStage (min (n + 1) 64) = ladderStages (min (n + 1) 64) := by
  decide

theorem clampInt_ge (lo hi n : Int) : lo ≤ clampInt lo hi n := le_max_left _ _

theorem clampInt_le {lo hi : Int} (h : lo ≤ hi) (n : Int) : clampInt lo hi n ≤ hi := max_le h (min_le_left _ _)

theorem clampNat_ge (lo hi n : Nat) : lo ≤ clampNat lo hi n := le_max_left _ _

theorem clampNat_le {lo hi : Nat} (h : lo ≤ hi) (n : Nat) : clampNat lo hi n ≤ hi := max_le h (min_le_left _ _)

namespace Clock

theorem initial_sound (depth : Nat) : Clock.initial.sound depth := by
  refine ⟨by decide, by decide, by decide, ?_, by decide, by decide⟩
  rintro (h | h) <;> cases h

section Sound

variable {c : Clock} {depth : Nat} (cfg : StationConfig) (now period : Nat) (km : Counter40) (tm e : Int)

/-- A clock re-anchored in ACQUIRING, its ladder at 1. -/
theorem reanchored_sound {c : Clock} (depth : Nat) (rho : -rhoLimit ≤ c.rho ∧ c.rho ≤ rhoLimit)
    (state : c.state = .acquiring) (anchor : c.anchor ≠ none) (count : c.count = 1) (stages : c.stages = ladderStage 1)
    (silence : c.silenceDue = none) : c.sound depth := by
  refine ⟨rho, by rw [count]; decide, by rw [stages, count]; decide, ?_, ?_, fun h => (h silence).elim⟩
  · rw [state]
    rintro (h | h) <;> cases h
  · simp [anchor, state]

theorem firstAnchor_sound : (c.firstAnchor cfg now km tm).sound depth :=
  reanchored_sound depth ⟨by simp [firstAnchor, rhoLimit], by simp [firstAnchor, rhoLimit]⟩ rfl (by simp [firstAnchor, anchorAt]) rfl rfl rfl

theorem reanchorEnter_sound (h : c.sound depth) : (c.reanchorEnter cfg now km tm e).sound depth :=
  reanchored_sound depth h.1 rfl (by simp [reanchorEnter, anchorAt]) rfl rfl rfl

theorem reanchorStay_sound (h : c.sound depth) (state : c.state = .acquiring) :
    (c.reanchorStay km tm e).sound depth :=
  reanchored_sound depth h.1 state (by simp [reanchorStay, anchorAt]) rfl rfl rfl

theorem beyond_sound (h : c.sound depth) : (c.beyond cfg now km tm).clock.sound depth := by
  cases state : c.state <;> simp only [beyond, state]
  · exact firstAnchor_sound cfg now km tm
  · exact reanchorStay_sound km tm 0 h state
  all_goals exact reanchorEnter_sound cfg now km tm 0 h

theorem outlier_sound (h : c.sound depth) : (c.outlier cfg now km tm e).clock.sound depth := by
  unfold outlier
  split
  · next state => exact reanchorStay_sound km tm e h state
  · split
    · exact reanchorEnter_sound cfg now km tm e h
    · exact h

/-- An accepted mark point keeps a clock sound (R112, R114, R116). -/
theorem update_sound (a : Anchor) (h : c.sound cfg.depth) (anchored : c.state ≠ .unset) :
    (c.update cfg now period a km e).sound cfg.depth := by
  obtain ⟨_, small, stages, deep, _, _⟩ := h
  refine ⟨⟨clampInt_ge _ _ _, clampInt_le (by decide) _⟩, min_le_right _ _, ?_, ?_, ?_, ?_⟩
  · show c.stages ||| ladderStage (min (c.count + 1) ladderMax) = ladderStages (min (c.count + 1) ladderMax)
    rw [stages]
    exact ladderStages_step c.count small
  · show acceptedState cfg c.state (min (c.count + 1) ladderMax) = .locked ∨
      acceptedState cfg c.state (min (c.count + 1) ladderMax) = .holdover → cfg.depth ≤ min (c.count + 1) ladderMax
    have grown (reached : cfg.depth ≤ c.count) : cfg.depth ≤ min (c.count + 1) ladderMax :=
      le_min (reached.trans (Nat.le_succ _)) (reached.trans small)
    cases state : c.state with
    | unset => exact (anchored state).elim
    | acquiring =>
      simp only [acceptedState]
      split
      · next reached => exact fun _ => reached
      · rintro (h | h) <;> cases h
    | locked => exact fun _ => grown (deep (.inl state))
    | holdover => exact fun _ => grown (deep (.inr state))
    | free => rintro (h | h) <;> cases h
  · show (some _ = none) ↔ acceptedState cfg c.state (min (c.count + 1) ladderMax) = .unset
    simp only [reduceCtorEq, false_iff]
    cases state : c.state with
    | unset => exact (anchored state).elim
    | acquiring =>
      simp only [acceptedState]
      split <;> exact nofun
    | locked => exact nofun
    | holdover => exact nofun
    | free => exact nofun
  · show (if acceptedState cfg c.state (min (c.count + 1) ladderMax) = .locked then cfg.silenceFrom now else none) ≠ none → _
    split
    · next locked => exact fun _ => locked
    · exact fun h => (h rfl).elim

/-- A mark point taken keeps a clock sound (R107). -/
theorem take_sound (h : c.sound cfg.depth) : (c.take cfg now period km tm).clock.sound cfg.depth := by
  unfold take
  split
  · exact firstAnchor_sound cfg now km tm
  · next a usable =>
    have anchored : c.state ≠ .unset := fun unset => by simp [Clock.usable, unset] at usable
    dsimp only
    split
    · exact h
    · split
      · exact beyond_sound cfg now km tm h
      · split
        · exact reanchorEnter_sound cfg now km tm 0 h
        · unfold judge
          dsimp only
          split
          · exact update_sound cfg now period km _ a h anchored
          · exact outlier_sound cfg now km tm _ h

theorem silenceOut_sound (h : c.sound depth) (state : c.state = .locked) : c.silenceOut.sound depth := by
  obtain ⟨rho, small, stages, deep, anchored, _⟩ := h
  refine ⟨rho, small, stages, fun _ => deep (.inl state), ?_, fun h => (h rfl).elim⟩
  simpa [silenceOut, state] using anchored

theorem holdoverOut_sound (h : c.sound depth) (state : c.state ≠ .unset) : c.holdoverOut.sound depth := by
  obtain ⟨rho, _, _, _, anchored, _⟩ := h
  refine ⟨rho, by simp [holdoverOut], by simp [holdoverOut, ladderStages], ?_, ?_, fun h => (h rfl).elim⟩
  · rintro (h | h) <;> cases h
  · simpa [holdoverOut, state] using anchored

theorem changeSource_sound (h : c.sound depth) : c.changeSource.sound depth := by
  obtain ⟨rho, _, _, _, anchored, silence⟩ := h
  cases state : c.state <;> simp only [changeSource, state] <;>
    refine ⟨rho, Nat.zero_le _, rfl, ?_, ?_, ?_⟩ <;> simp_all

theorem changeDepth_sound (h : c.sound depth) : (c.changeDepth cfg now).sound cfg.depth := by
  obtain ⟨rho, small, stages, _, anchored, silence⟩ := h
  have other (deep : c.state = .locked ∨ c.state = .holdover → cfg.depth ≤ c.count) : c.sound cfg.depth :=
    ⟨rho, small, stages, deep, anchored, silence⟩
  cases state : c.state <;> simp only [changeDepth, state]
  case unset => exact other (by simp [state])
  case free => exact other (by simp [state])
  case acquiring =>
    split
    · next reached => exact ⟨rho, small, stages, fun _ => reached, by simpa [state] using anchored, fun _ => rfl⟩
    · exact other (by simp [state])
  case locked =>
    split
    · exact ⟨rho, small, stages, by simp, by simpa [state] using anchored, by simp⟩
    · next reached => exact other fun _ => Nat.le_of_not_lt reached
  case holdover =>
    split
    · exact ⟨rho, small, stages, by simp, by simpa [state] using anchored, fun h => by simp_all⟩
    · next reached => exact other fun _ => Nat.le_of_not_lt reached

end Sound

end Clock

/-! ## Marks and echoes -/

theorem Keeps.putClock {s : State} {i : StationId} {c : Clock}
    (sound : (s.station i).clock.sound (s.station i).config.depth → c.sound (s.station i).config.depth) :
    Keeps s (s.putClock i c) := by
  unfold State.putClock
  exact (Keeps.modStation (f := fun x => { x with clock := c }) ⟨rfl, rfl, rfl⟩ sound id).trans (Keeps.raiseIf _ _ _)

theorem Keeps.unsetClock (s : State) (i : StationId) : Keeps s (s.unsetClock i) :=
  .putClock fun _ => Clock.initial_sound _

theorem Keeps.takeMark (s : State) (i : StationId) (km : Counter40) (tm : Int) : Keeps s (s.takeMark i km tm) := by
  unfold State.takeMark
  dsimp only
  exact (Keeps.modStation (f := fun y => y.afterMark _) ⟨rfl, rfl, rfl⟩
    (fun sound => Clock.take_sound _ _ _ _ _ sound) id).trans (Keeps.raiseIf _ _ _)

theorem Keeps.judgeMark (s : State) (i : StationId) (km : Counter40) (p sec : BitVec 32) (locked : Bool) :
    Keeps s (s.judgeMark i km p sec locked) := by
  unfold State.judgeMark
  dsimp only
  split
  · exact .count s i _
  · split
    · exact .count s i _
    · exact .takeMark s i _ _

theorem Keeps.setRtt (s : State) (i : StationId) (rtt : Int) : Keeps s (s.setRtt i rtt) :=
  .modStation ⟨rfl, rfl, rfl⟩ id id

theorem Keeps.judgeEcho (s : State) (i : StationId) (kr : Counter40) (tau : BitVec 32) (ts ta : Stamp) :
    Keeps s (s.judgeEcho i kr tau ts ta) := by
  unfold State.judgeEcho
  dsimp only
  split
  · exact .count s i _
  · split
    · exact .count s i _
    · split
      · exact (Keeps.setRtt s i _).trans (.count _ i _)
      · split
        · exact (Keeps.setRtt s i _).trans (.takeMark _ i _ _)
        · exact .setRtt s i _

theorem Keeps.invalidateExpectation (s : State) (i : StationId) : Keeps s (s.invalidateExpectation i) :=
  .modStation ⟨rfl, rfl, rfl⟩ id id

end Sys2Proof.Machine
end

section
/-! PROOF. Link ports (R25 to R46): what link loss leaves of a link, and that every operation keeps every invariant. -/

namespace Sys2Proof.Machine

/-! ## What link loss leaves of a link -/

@[simp] theorem State.countAbandoned_link (s : State) (i : StationId) (k : Nat) (notify : Bool) (m : LinkId) :
    (s.countAbandoned i k notify).link m = s.link m := by
  simp only [State.countAbandoned, State.raiseIf_link, State.count_link]

@[simp] theorem State.endRequest_link (s : State) (i : StationId) (identifier : Byte) (e : Ending) (m : LinkId) :
    (s.endRequest i identifier e).link m = s.link m := by
  simp only [State.endRequest, State.countAbandoned_link, State.modTracker_link]

@[simp] theorem State.probeEnded_link (s : State) (requested : Bool) (m : LinkId) :
    (s.probeEnded requested).link m = s.link m := s.raiseIf_link _ _ _

theorem State.endBackfill_link (s : State) (l : LinkId) (e : Ending) (m : LinkId) :
    (s.endBackfill l e).link m = if l = m then { s.link l with backfill := none } else s.link m := by
  unfold State.endBackfill
  split
  · next empty =>
    split
    · next same => rw [← same, ← empty]
    · rfl
  · simp only [State.endRequest_link, State.link_modLink]

theorem State.abandonProbe_link (s : State) (l m : LinkId) :
    (s.abandonProbe l).link m = if l = m then { s.link l with probe := none } else s.link m := by
  unfold State.abandonProbe
  split
  · simp only [State.probeEnded_link, State.link_modLink]
  · next empty =>
    split
    · next same => rw [← same, ← empty]
    · rfl

/-- A lost link has empty slots and a free line (R39, R42, R44). -/
theorem State.loseSlots_link (s : State) (l m : LinkId) :
    (s.loseSlots l).link m =
      if l = m then { s.link l with backfill := none, probe := none, outbound := none } else s.link m := by
  unfold State.loseSlots
  rw [State.link_modLink]
  split
  · simp only [State.abandonProbe_link, State.endBackfill_link, if_true]
  · next other => simp only [State.abandonProbe_link, State.endBackfill_link, if_neg other]

/-- The link after steps 1 to 6 of LINK_RESET (R45). -/
def Link.cleared (x : Link) : Link :=
  { x with burst := none, queue := [], blocked := false, backfill := none, probe := none, outbound := none,
           noActivityDue := none, carrierDue := none, counters := LinkCounters.zero, lastFailure := none }

theorem State.resetLink_link (s : State) (l m : LinkId) :
    (s.resetLink l).link m = if l = m then (s.link l).cleared else s.link m := by
  unfold State.resetLink
  dsimp only
  rw [State.link_modLink]
  split
  · simp only [State.loseSlots_link, State.modLink_self, State.leaveWaiting_link, if_true, Link.cleared]
  · next other => simp only [State.loseSlots_link, if_neg other, State.link_modLink, State.leaveWaiting_link]

/-! ## Entering and leaving the waiting list (R168, R169, R176) -/

/-- A change of link l with what the waiting list becomes. -/
theorem Keeps.modWaiting {s : State} {l : LinkId} {f : Link → Link} {g : Store → Store}
    (sound : (s.link l).sound → (f (s.link l)).sound)
    (slots : (g s.store).slots = s.store.slots) (pool : (g s.store).poolFree = s.store.poolFree)
    (waiting : s.waitingSound → (g s.store).waiting.Nodup ∧
      ∀ m, m ∈ (g s.store).waiting ↔ if l = m then (f (s.link l)).blocked = true else m ∈ s.store.waiting) :
    Keeps s ((s.modStore g).modLink l f) := by
  refine ⟨⟨id, fun p => ?_, id, fun h m => ?_, fun h => ?_, fun a b => ⟨?_, ?_⟩, fun h => ?_, fun h => ?_, fun h => ?_⟩,
    fun h => ?_⟩
  · rw [State.modLink_port, State.modStore_port]; exact .refl _
  · rw [State.link_modLink]
    split
    · exact sound (h l)
    · exact h m
  · obtain ⟨nodup, mem⟩ := waiting h
    refine ⟨nodup, fun m => (mem m).trans ?_⟩
    rw [State.link_modLink]
    split
    · rfl
    · exact h.2 m
  · simpa only [State.tableSound, State.modLink_station, State.modStore_station] using a
  · simpa only [State.reservationsSound, State.modLink_station, State.modStore_station, State.modLink_reservations,
      State.modStore_reservations] using b
  · simpa only [State.clocksSound, State.modLink_station, State.modStore_station] using h
  · exact ⟨h.1, by rw [State.modLink_store, State.modLink_assembler]; show (g s.store).poolFree + _ = _; rw [pool]; exact h.2⟩
  · have := h
    simpa only [State.slotsSound, State.modLink_store, State.modStore, slots] using this
  · simpa only [State.trackingSound, State.modLink_station, State.modStore_station] using h

/-- Link l leaves the waiting list as its head is no longer blocked. -/
theorem Keeps.unblock {s : State} {l : LinkId} {f : Link → Link} (sound : (s.link l).sound → (f (s.link l)).sound)
    (free : (f (s.link l)).blocked = false) : Keeps s ((s.leaveWaiting l).modLink l f) := by
  refine Keeps.modWaiting sound rfl rfl fun h => ⟨h.1.filter _, fun m => ?_⟩
  rw [List.mem_filter]
  split
  · next same => subst same; simp [free]
  · next other => simp [Ne.symm other]

/-- Link l enters the waiting list as its DATA head is blocked. -/
theorem Keeps.block {s : State} {l : LinkId} {g : Store → Store} (open_ : (s.link l).blocked = false)
    (data : ∃ r rest, (s.link l).queue = .data r :: rest)
    (slots : (g s.store).slots = s.store.slots) (pool : (g s.store).poolFree = s.store.poolFree)
    (waiting : (g s.store).waiting = s.store.waiting ++ [l]) :
    Keeps s ((s.modStore g).modLink l fun x => { x with blocked := true }) := by
  refine Keeps.modWaiting (fun ⟨size, _, rest⟩ => ⟨size, fun _ => data, rest⟩) slots pool fun h => ?_
  have absent : l ∉ s.store.waiting := fun mem => by simp [(h.2 l).mp mem] at open_
  rw [waiting]
  refine ⟨List.nodup_append.mpr ⟨h.1, List.nodup_singleton l, fun a mem b eq => ?_⟩, fun m => ?_⟩
  · rw [List.mem_singleton.mp eq]
    rintro rfl
    exact absent mem
  · split
    · next same => subst same; simp
    · next other => simp [Ne.symm other]

/-! ## Operations on any link -/

section Any

variable (s : State) (l : LinkId)

theorem Keeps.countLink (f : LinkCounters → LinkCounters) : Keeps s (s.countLink l f) := .modLink id rfl

theorem Keeps.probeEnded (requested : Bool) : Keeps s (s.probeEnded requested) := .raiseIf s _ _

theorem Keeps.dropProbe : Keeps s (s.modLink l fun y => { y with probe := none }) :=
  .modLink (fun ⟨size, head, off, rest⟩ =>
    ⟨size, head, fun e => have ⟨queue, burst, backfill, _, outbound, due⟩ := off e
      ⟨queue, burst, backfill, rfl, outbound, due⟩, rest⟩) rfl

theorem Keeps.dropBackfill : Keeps s (s.modLink l fun y => { y with backfill := none }) :=
  .modLink (fun ⟨size, head, off, rest⟩ =>
    ⟨size, head, fun e => have ⟨queue, burst, _, probe, outbound, due⟩ := off e
      ⟨queue, burst, rfl, probe, outbound, due⟩, rest⟩) rfl

theorem Keeps.dropFrame : Keeps s (s.modLink l fun y => { y with outbound := none }) :=
  .modLink (fun ⟨size, head, off, rest⟩ =>
    ⟨size, head, fun e => have ⟨queue, burst, backfill, probe, _, due⟩ := off e
      ⟨queue, burst, backfill, probe, rfl, due⟩, rest⟩) rfl

theorem Keeps.stopCarrier : Keeps s (s.modLink l fun y => { y with carrierDue := none }) :=
  .modLink (fun ⟨size, head, off, rest⟩ =>
    ⟨size, head, fun e => have ⟨queue, burst, backfill, probe, outbound, due, _⟩ := off e
      ⟨queue, burst, backfill, probe, outbound, due, rfl⟩, rest⟩) rfl

theorem Keeps.popHead (open_ : (s.link l).blocked = false) : Keeps s (s.popHead l) :=
  .modLink (fun ⟨size, _, off, rest⟩ =>
    ⟨(by simp only [List.length_tail]; omega), fun h => (by simp [open_] at h),
      fun e => have ⟨queue, others⟩ := off e
        ⟨by show (s.link l).queue.tail = []; rw [queue]; rfl, others⟩, rest⟩) rfl

theorem Keeps.abandonProbe : Keeps s (s.abandonProbe l) := by
  unfold State.abandonProbe
  split
  · exact (Keeps.dropProbe s l).trans (Keeps.probeEnded _ _)
  · exact .refl s

theorem Keeps.abandonProbes : Keeps s s.abandonProbes := .foldl Keeps.abandonProbe _ s

theorem Keeps.endBackfill (e : Ending) : Keeps s (s.endBackfill l e) := by
  unfold State.endBackfill
  split
  · exact .refl s
  · exact (Keeps.dropBackfill s l).trans (Keeps.endRequest _ _ _ _)

theorem Keeps.loseSlots : Keeps s (s.loseSlots l) := by
  unfold State.loseSlots
  exact ((Keeps.endBackfill s l _).trans (Keeps.abandonProbe _ l)).trans (Keeps.dropFrame _ l)

/-- The request in flight damaged: its slot keeps its request, and the gaps keep their ranges (R38). -/
theorem Keeps.damageRequest (cause : DamageCause) : Keeps s (s.damageRequest l cause) := by
  unfold State.damageRequest
  split
  · exact .refl s
  · next b under_way =>
    split
    · exact .refl s
    · refine Keeps.trans (.modLink (fun ⟨size, head, off, rest⟩ => ⟨size, head, fun e => ?_, rest⟩) rfl)
        (.modTracker fun sound => Tracker.sound_of_gaps sound (List.length_map _).le)
      have ⟨_, _, empty, _⟩ := off e
      simp [under_way] at empty

/-- Steps 1 to 6 of LINK_RESET (R45). -/
theorem Keeps.resetLink : Keeps s (s.resetLink l) := by
  unfold State.resetLink
  dsimp only
  have cleared : Keeps s ((s.leaveWaiting l).modLink l fun x => { x with burst := none, queue := [], blocked := false }) :=
    .unblock (fun ⟨_, _, off, rest⟩ => ⟨Nat.zero_le _, nofun, fun e => have ⟨_, _, others⟩ := off e
      ⟨rfl, rfl, others⟩, rest⟩) rfl
  refine (cleared.trans (Keeps.loseSlots _ l)).trans (.modLink (fun ⟨size, head, off, rest⟩ =>
    ⟨size, head, fun e => have ⟨queue, burst, backfill, probe, outbound, _⟩ := off e
      ⟨queue, burst, backfill, probe, outbound, rfl, rfl⟩, rest⟩) rfl)

theorem Keeps.disableLink : Keeps s (s.disableLink l) := by
  unfold State.disableLink
  refine (Keeps.resetLink s l).trans (.modLink (fun ⟨size, head, _, rest⟩ => ⟨size, head, fun _ => ?_, rest⟩) rfl)
  simp only [State.resetLink_link, if_true, Link.cleared]
  exact ⟨trivial, trivial, trivial, trivial, trivial, trivial, trivial⟩

end Any

/-! ## Operations on an enabled link -/

/-- Every invariant is kept when link l is enabled, and it stays enabled. -/
def KeepsOn (l : LinkId) (s t : State) : Prop :=
  (s.link l).state ≠ .off → Keeps s t ∧ (t.link l).state ≠ .off

namespace KeepsOn

variable {l : LinkId} {s t u : State}

theorem refl (s : State) : KeepsOn l s s := fun on => ⟨.refl s, on⟩

theorem trans (h : KeepsOn l s t) (k : KeepsOn l t u) : KeepsOn l s u := fun on =>
  have ⟨kept, still⟩ := h on
  have ⟨kept', still'⟩ := k still
  ⟨kept.trans kept', still'⟩

theorem of_keeps (h : Keeps s t) (same : (t.link l).state = (s.link l).state) : KeepsOn l s t :=
  fun on => ⟨h, by rw [same]; exact on⟩

theorem modLink {f : Link → Link} (on : (s.link l).state ≠ .off → (f (s.link l)).state ≠ .off)
    (sound : (f (s.link l)).state ≠ .off → (s.link l).sound → (f (s.link l)).sound)
    (blocked : (f (s.link l)).blocked = (s.link l).blocked) : KeepsOn l s (s.modLink l f) := fun enabled =>
  ⟨.modLink (sound (on enabled)) blocked, by rw [State.modLink_self]; exact on enabled⟩

theorem raise (s : State) (k : NoticeKind) : KeepsOn l s (s.raise k) := of_keeps (.raise s k) (by rw [State.raise_link])

theorem countLink (s : State) (f : LinkCounters → LinkCounters) : KeepsOn l s (s.countLink l f) :=
  of_keeps (.countLink s l f) (by rw [State.countLink, State.modLink_self])

/-- An entry placed at the tail of a queue with room. -/
theorem append (e : Entry) (room : (s.link l).queue.length < queueSize) :
    KeepsOn l s (s.modLink l fun x => { x with queue := x.queue ++ [e] }) :=
  modLink id (fun on ⟨_, head, _, rest⟩ => ⟨by simpa using room, fun b => by
    obtain ⟨r, tail, front⟩ := head b
    exact ⟨r, tail ++ [e], by simp [front]⟩, fun off => absurd off on, rest⟩) rfl

theorem pushControl (s : State) (e : Entry) : KeepsOn l s (s.pushControl l e) := by
  unfold State.pushControl
  split
  · next room => exact append e room
  · exact (countLink s _).trans (raise _ _)

theorem pushMasked (s : State) (passes : Bool) (e : Entry) : KeepsOn l s (s.pushMasked l passes e) := by
  unfold State.pushMasked
  split
  · exact pushControl s e
  · exact refl s

theorem damageRequest (s : State) (cause : DamageCause) : KeepsOn l s (s.damageRequest l cause) := by
  refine of_keeps (.damageRequest s l cause) ?_
  unfold State.damageRequest
  split
  · rfl
  · split
    · rfl
    · rw [State.modTracker_link, State.modLink_self]

theorem failBurst (s : State) (b : Burst) (cause : FailCause) : KeepsOn l s (s.failBurst l b cause) := by
  unfold State.failBurst
  dsimp only
  refine KeepsOn.trans (modLink id (fun on ⟨size, head, _, rest⟩ => ⟨size, head, fun off => absurd off on, rest⟩) rfl)
    ((pushMasked _ _ _).trans (damageRequest _ _))

/-- A valid burst as activity (R27). -/
theorem linkActive (s : State) : KeepsOn l s (s.linkActive l) := by
  unfold State.linkActive
  dsimp only
  have active : KeepsOn l s (s.modLink l fun x =>
      { x with burst := none, state := .up, noActivityDue := some (s.partTime + x.noActivity * 1000)
               counters := { x.counters with goodBursts := bump x.counters.goodBursts } }) :=
    modLink (fun _ => nofun) (fun on ⟨size, head, _, rest⟩ => ⟨size, head, fun off => absurd off on, rest⟩) rfl
  split
  · exact active
  · exact active.trans ((pushMasked _ _ _).trans (raise _ _))

theorem foldl {α : Type} {f : State → α → State} (h : ∀ s x, KeepsOn l s (f s x)) :
    ∀ (xs : List α) (s : State), KeepsOn l s (xs.foldl f s)
  | [], s => refl s
  | x :: xs, s => (h s x).trans (foldl h xs (f s x))

theorem countDamaged (i : StationId) (s : State) (e : Checked) : KeepsOn l s (State.countDamaged l i s e) := by
  unfold State.countDamaged
  split
  · exact refl s
  · exact refl s
  · dsimp only
    split
    · split
      · exact (countLink s _).trans (damageRequest _ _)
      · exact countLink s _
    · exact countLink s _

/-- One entry of an accepted burst takes one place in the queue at most. -/
theorem acceptEntry (i : StationId) (ta : Stamp) (e : Checked) (room : (s.link l).queue.length < queueSize) :
    KeepsOn l s (State.acceptEntry l i ta s e) ∧
      ((State.acceptEntry l i ta s e).link l).queue.length ≤ (s.link l).queue.length + 1 := by
  unfold State.acceptEntry
  dsimp only
  split
  · exact ⟨append _ room, by simp⟩
  · exact ⟨append _ room, by simp⟩
  · split
    · split
      · refine ⟨?_, by simp⟩
        have emptied : KeepsOn l s (s.modLink l fun y => { y with probe := none }) :=
          of_keeps (.dropProbe s l) (by rw [State.modLink_self])
        exact (emptied.trans (append _ (by simpa using room))).trans
          (of_keeps (.probeEnded _ _) (by rw [State.probeEnded_link]))
      · exact ⟨countLink s _, by simp [State.countLink]⟩
    · exact ⟨countLink s _, by simp [State.countLink]⟩

theorem acceptEntries (i : StationId) (ta : Stamp) : ∀ (es : List Checked) (s : State),
    es.length ≤ queueSize - (s.link l).queue.length → KeepsOn l s (es.foldl (State.acceptEntry l i ta) s)
  | [], s, _ => refl s
  | e :: es, s, room => by
    simp only [List.length_cons] at room
    obtain ⟨kept, longer⟩ := acceptEntry (l := l) (s := s) i ta e (by omega)
    exact kept.trans (acceptEntries i ta es _ (by omega))

/-- A matched burst (R34, R35). -/
theorem queueBurst (s : State) (i : StationId) (ta : Stamp) (b : RawBurst) : KeepsOn l s (s.queueBurst l i ta b) := by
  unfold State.queueBurst
  dsimp only
  generalize b.entries.map (checkEntry i (s.station i).period (s.station i).components) = es
  have damaged : KeepsOn l s (es.foldl (State.countDamaged l i) s) := foldl (countDamaged i) es s
  refine damaged.trans ?_
  generalize es.foldl (State.countDamaged l i) s = t
  have overrun : KeepsOn l t (((t.countLink l fun c => { c with queueOverruns := bump c.queueOverruns }).raise
      .link).damageRequest l .overrun) := ((countLink _ _).trans (raise _ _)).trans (damageRequest _ _)
  cases b.restart
  · simp only [Bool.false_eq_true, if_false]
    split
    · next fits => exact acceptEntries i ta _ _ (by omega)
    · exact overrun
  · simp only [if_true]
    split
    · next fits =>
      refine KeepsOn.trans (append _ (by omega)) (acceptEntries i ta _ _ ?_)
      simp only [State.modLink_self, List.length_append, List.length_singleton]
      omega
    · exact overrun

theorem judgeBurst (s : State) (b : Burst) : KeepsOn l s (s.judgeBurst l b) := by
  unfold State.judgeBurst
  split
  · exact failBurst s b _
  · dsimp only
    split
    · exact (linkActive s).trans (queueBurst _ _ _ _)
    · exact (linkActive s).trans (countLink _ _)

theorem cutBurst (s : State) : KeepsOn l s (s.cutBurst l) := by
  unfold State.cutBurst
  split
  · exact failBurst s _ _
  · exact refl s

theorem setBurst (s : State) (b : Link → Option Burst) :
    KeepsOn l s (s.modLink l fun y => { y with burst := b y }) :=
  modLink id (fun on ⟨size, head, _, rest⟩ => ⟨size, head, fun off => absurd off on, rest⟩) rfl

theorem linkByte (s : State) (x : Byte) : KeepsOn l s (State.linkByte l s x) := by
  unfold State.linkByte State.openBurst State.closeBurst State.contentByte
  dsimp only
  split
  · exact (cutBurst s).trans (setBurst _ _)
  · split
    · split
      · exact judgeBurst s _
      · exact refl s
    · split
      · split
        · exact failBurst s _ _
        · exact setBurst s _
      · exact refl s

end KeepsOn

section Lines

variable (s : State) (l : LinkId)

theorem KeepsOn.linkBytes (bytes : List Byte) : KeepsOn l s (s.linkBytes l bytes) := by
  unfold State.linkBytes
  split
  · exact .refl s
  · exact .foldl KeepsOn.linkByte bytes s

theorem Keeps.linkBytes (bytes : List Byte) : Keeps s (s.linkBytes l bytes) := by
  by_cases off : (s.link l).state = .off
  · rw [State.linkBytes, if_pos off]; exact .refl s
  · exact (KeepsOn.linkBytes s l bytes off).1

theorem LinkState.on_of_sends {x : LinkState} (h : x.sends = true) : x ≠ .off := by
  rintro rfl
  simp [LinkState.sends] at h

theorem Keeps.carrierFalls (bytes : List Byte) : Keeps s (s.carrierFalls l bytes) := by
  unfold State.carrierFalls
  split
  · exact .refl s
  · next on =>
    have cut := (KeepsOn.linkBytes s l bytes).trans (KeepsOn.cutBurst _)
    have started (t : State) : KeepsOn l t (t.modLink l (Link.startCarrier t.partTime)) := by
      have state : ((t.link l).startCarrier t.partTime).state = (t.link l).state := by
        unfold Link.startCarrier; split <;> rfl
      refine .modLink (by rw [state]; exact id) (fun enabled ⟨size, head, off, rest⟩ => ?_) ?_
      · unfold Link.startCarrier at enabled ⊢
        split
        · next sends => exact ⟨size, head, fun e => absurd e (LinkState.on_of_sends sends), rest⟩
        · exact ⟨size, head, off, rest⟩
      · unfold Link.startCarrier; split <;> rfl
    exact ((cut.trans (started _)) on).1

theorem Keeps.carrierOut : Keeps s (s.carrierOut l) := by
  unfold State.carrierOut
  split
  · next h =>
    unfold State.loseCarrier
    dsimp only
    have down : KeepsOn l s (s.modLink l fun x => { x with state := .down, noActivityDue := none, carrierDue := none }) :=
      .modLink (fun _ => nofun) (fun on ⟨size, head, _, rest⟩ => ⟨size, head, fun off => absurd off on, rest⟩) rfl
    have lost (t : State) : KeepsOn l t (t.loseSlots l) :=
      .of_keeps (.loseSlots t l) (by rw [State.loseSlots_link, if_pos rfl])
    exact ((down.trans ((lost _).trans ((KeepsOn.pushMasked _ _ _).trans (.raise _ _))))
      (LinkState.on_of_sends h.1)).1
  · exact .refl s

theorem Keeps.fallSilent : Keeps s (s.fallSilent l) := by
  unfold State.fallSilent
  split
  · next h =>
    dsimp only
    have silent : KeepsOn l s (s.modLink l fun x => { x with state := .silent, noActivityDue := none }) :=
      .modLink (fun _ => nofun) (fun on ⟨size, head, _, rest⟩ => ⟨size, head, fun off => absurd off on, rest⟩) rfl
    exact ((silent.trans ((KeepsOn.pushMasked _ _ _).trans (.raise _ _))) (by rw [h.1]; exact nofun)).1
  · exact .refl s

theorem nextIdentifier_ne (x : Byte) : nextIdentifier x ≠ 0 := by
  unfold nextIdentifier
  split
  · decide
  · bv_omega

theorem Link.on_of_canSend {x : Link} (h : x.canSend = true) : x.state ≠ .off := by
  simp only [Link.canSend, Bool.and_eq_true] at h
  exact LinkState.on_of_sends h.1

theorem Keeps.grantBackfill (i : StationId) (g : Gap) (on : (s.link l).state ≠ .off) :
    Keeps s (s.grantBackfill l i g) := by
  unfold State.grantBackfill
  refine Keeps.trans (.modLink (fun ⟨size, head, _, _, nextProbe, rest⟩ =>
    ⟨size, head, fun off => absurd off on, nextIdentifier_ne _, nextProbe, rest⟩) rfl)
    (.modStation ⟨rfl, rfl, rfl⟩ id fun sound => Tracker.sound_of_gaps sound (requestOldest_length _ _).le)

theorem Keeps.grantProbe (i : StationId) (on : (s.link l).state ≠ .off) : Keeps s (s.grantProbe l i) := by
  unfold State.grantProbe
  refine Keeps.trans (.modLink (fun ⟨size, head, _, nextRequest, _, rest⟩ =>
    ⟨size, head, fun off => absurd off on, nextRequest, nextIdentifier_ne _, rest⟩) rfl)
    (.modStation ⟨rfl, rfl, rfl⟩ id id)

theorem Keeps.tryBackfill : Keeps s (s.tryBackfill l) := by
  unfold State.tryBackfill
  split
  · exact .refl s
  · next i found =>
    split
    · refine .grantBackfill s l i _ ?_
      unfold State.backfillCandidate at found
      split at found
      · next may =>
        simp only [Bool.and_eq_true] at may
        exact Link.on_of_canSend may.1.1
      · cases found
    · exact .refl s

theorem Keeps.tryProbe : Keeps s (s.tryProbe l) := by
  unfold State.tryProbe
  split
  · next i found =>
    refine .grantProbe s l i ?_
    unfold State.probeCandidate at found
    split at found
    · next may =>
      simp only [Bool.and_eq_true] at may
      exact Link.on_of_canSend may.1
    · cases found
  · exact .refl s

theorem Keeps.responseTimesOut : Keeps s (s.responseTimesOut l) := by
  unfold State.responseTimesOut
  split
  · exact .refl s
  · split
    · exact ((Keeps.countLink s l _).trans (Keeps.endBackfill _ l _)).trans (Keeps.evalCompletion _)
    · exact .refl s

theorem Keeps.probeExpires : Keeps s (s.probeExpires l) := by
  unfold State.probeExpires
  split
  · exact .refl s
  · split
    · exact (Keeps.countLink s l _).trans (Keeps.abandonProbe _ l)
    · exact .refl s

end Lines

end Sys2Proof.Machine
end

section
/-! PROOF. The commands at the head of an inbound queue and of the waiting list (R37, R168, R169): each keeps every
invariant. -/

namespace Sys2Proof.Machine

section Heads

variable (s : State) (l : LinkId)

theorem State.head?_eq_some {s : State} {l : LinkId} {e : Entry} (h : s.head? l = some e) :
    (s.link l).blocked = false ∧ ∃ rest, (s.link l).queue = e :: rest := by
  unfold State.head? at h
  split at h
  · cases h
  · next open_ => exact ⟨Bool.eq_false_iff.mpr open_, List.head?_eq_some_iff.mp h⟩

theorem Keeps.takeSlot (r : Record) (room : s.slotsFree ≠ 0) : Keeps s (s.takeSlot r).2 := by
  refine AssemblyFrame.keeps ?_ (State.takeSlot_storeKeeps r room)
  rw [State.takeSlot_snd]
  exact s.modStore_frame _

/-- A DATA head takes a slot (R168). -/
theorem Keeps.takeData (r : Record) (open_ : (s.link l).blocked = false) (room : s.slotsFree ≠ 0) :
    Keeps s (s.takeData l r) := by
  unfold State.takeData
  exact ((((Keeps.popHead s l open_).trans (Keeps.takeSlot _ r room))).trans (Keeps.track _ _ _ _)).trans
    (Keeps.evalCompletion _)

/-- A DATA head blocks (R168). -/
theorem Keeps.blockHead (open_ : (s.link l).blocked = false) (data : ∃ r rest, (s.link l).queue = .data r :: rest) :
    Keeps s (s.blockHead l) := by
  have blocked : Keeps s ((s.modLink l fun x => { x with blocked := true }).modStore fun t =>
      { t with waiting := t.waiting ++ [l], headBlocks := bump t.headBlocks }) :=
    Keeps.block (g := fun t => { t with waiting := t.waiting ++ [l], headBlocks := bump t.headBlocks }) open_ data rfl rfl
      rfl
  unfold State.blockHead
  dsimp only
  split
  · exact (blocked.trans (Keeps.raise _ _)).trans (Keeps.slotPolicy _)
  · exact blocked.trans (Keeps.raise _ _)

variable {s l}

/-- An entry taken, or discarded as its station is disabled (R37). -/
theorem Keeps.ifEnabled {i : StationId} {f : State → State} (open_ : (s.link l).blocked = false) (h : Keeps s (f s)) :
    Keeps s (s.ifEnabled l i f) := by
  unfold State.ifEnabled
  split
  · exact h
  · exact (Keeps.popHead s l open_).trans (Keeps.countLink _ l _)

variable (s l)

theorem Keeps.headData : Keeps s (s.headData l) := by
  unfold State.headData
  split
  · next r head =>
    obtain ⟨open_, rest, front⟩ := State.head?_eq_some head
    refine .ifEnabled open_ ?_
    unfold State.askSlot
    split
    · next room => exact .takeData s l r open_ room.2
    · exact .blockHead s l open_ ⟨r, rest, front⟩
  · exact .refl s

/-- The link at the head of the waiting list is served (R169). -/
theorem Keeps.serveLink (room : s.slotsFree ≠ 0) : Keeps s (s.serveLink l) := by
  have served : Keeps s ((s.leaveWaiting l).modLink l fun x => { x with blocked := false }) :=
    .unblock (fun ⟨size, _, rest⟩ => ⟨size, nofun, rest⟩) rfl
  unfold State.serveLink
  dsimp only
  split
  · exact served.trans (.takeData _ l _ (by rw [State.modLink_self]) room)
  · exact served

theorem Keeps.serveWaiting (fuel : Nat) : ∀ s : State, Keeps s (State.serveWaiting fuel s) := by
  induction fuel with
  | zero => exact fun s => .refl s
  | succ fuel ih =>
    intro s
    unfold State.serveWaiting
    split
    · exact .refl s
    · split
      · exact .refl s
      · next room => exact (Keeps.serveLink s _ room).trans (ih _)

theorem Keeps.headMark : Keeps s (s.headMark l) := by
  unfold State.headMark
  split
  · next head =>
    have open_ := (State.head?_eq_some head).1
    exact .ifEnabled open_ ((Keeps.popHead s l open_).trans (Keeps.judgeMark _ _ _ _ _ _))
  · exact .refl s

theorem Keeps.headEcho : Keeps s (s.headEcho l) := by
  unfold State.headEcho
  split
  · next head =>
    have open_ := (State.head?_eq_some head).1
    exact .ifEnabled open_ ((Keeps.popHead s l open_).trans (Keeps.judgeEcho _ _ _ _ _ _))
  · exact .refl s

theorem Keeps.fillEnds (i : StationId) (identifier : Byte) (st : FillStatus) : Keeps s (s.fillEnds l i identifier st) := by
  unfold State.fillEnds
  dsimp only
  split
  · split
    · exact (Keeps.endBackfill s l _).trans (Keeps.evalCompletion _)
    · exact .countLink s l _
  · exact .countLink s l _

theorem Keeps.headFillEnd : Keeps s (s.headFillEnd l) := by
  unfold State.headFillEnd
  split
  · next head =>
    have open_ := (State.head?_eq_some head).1
    exact .ifEnabled open_ ((Keeps.popHead s l open_).trans (Keeps.fillEnds _ _ _ _ _))
  · exact .refl s

end Heads

/-! ## Control entries -/

/-- Fewer reservations are as sound as before. -/
theorem Keeps.dropReservations {s : State} {reservations : Vector (Option Reservation) 4}
    (fewer : ∀ (b : Fin 4) (x : Reservation), reservations[b] = some x → s.reservations[b] = some x) :
    Keeps s { s with reservations := reservations } :=
  ⟨⟨id, fun _ => .refl _, id, id, id, fun a k => ⟨a, fun b x entry => k b x (fewer b x entry)⟩, id, id, id⟩, id⟩

theorem State.setReservation_entry (s : State) (i : StationId) (x : Option Reservation) (b : Fin 4) :
    (s.setReservation i x).reservations[b] = if bankOf i = b then x else s.reservations[b] := by
  have entry := Vector.getElem_set (xs := s.reservations) (x := x) (bankOf i).isLt b.isLt
  simp only [State.setReservation, Fin.getElem_fin, Fin.ext_iff] at entry ⊢
  exact entry

theorem Keeps.invalidateReservation (s : State) (i : StationId) : Keeps s (s.invalidateReservation i) := by
  unfold State.invalidateReservation
  split
  · split
    · refine .dropReservations fun b x entry => ?_
      have set := s.setReservation_entry i none b
      rw [State.setReservation] at set
      rw [set] at entry
      split at entry
      · cases entry
      · exact entry
    · exact .refl s
  · exact .refl s

section Control

variable (s : State) (l : LinkId)

/-- The clearing by a RESTART entry (R86). -/
theorem Keeps.restartStation (i : StationId) : Keeps s (s.restartStation i) := by
  unfold State.restartStation
  dsimp only
  exact (((((Keeps.clearTracking i s).trans (Keeps.invalidateExpectation _ i)).trans (Keeps.unsetClock _ i)).trans
    (Keeps.removeExpected _ _)).trans (Keeps.invalidateReservation _ i)).trans (Keeps.evalCompletion _)

theorem Keeps.headRestart : Keeps s (s.headRestart l) := by
  unfold State.headRestart
  split
  · next head =>
    have open_ := (State.head?_eq_some head).1
    exact .ifEnabled open_ ((Keeps.popHead s l open_).trans (Keeps.restartStation _ _))
  · exact .refl s

theorem Keeps.headDamaged : Keeps s (s.headDamaged l) := by
  unfold State.headDamaged
  split
  · next head =>
    have open_ := (State.head?_eq_some head).1
    exact .ifEnabled open_ (((Keeps.popHead s l open_).trans (Keeps.giveUp _ _)).trans (Keeps.evalCompletion _))
  · exact .refl s

theorem Keeps.headBurstFail : Keeps s (s.headBurstFail l) := by
  unfold State.headBurstFail
  split
  · next head =>
    have popped := Keeps.popHead s l (State.head?_eq_some head).1
    split
    · exact (popped.trans (Keeps.giveUp _ _)).trans (Keeps.evalCompletion _)
    · exact popped
  · exact .refl s

theorem Keeps.headLinkUp : Keeps s (s.headLinkUp l) := by
  have refresh (t : State) (i : StationId) : Keeps t (State.refreshHold l t i) := by
    unfold State.refreshHold
    split
    · exact .startHold i t
    · exact .refl t
  unfold State.headLinkUp
  split
  · next head => exact (Keeps.popHead s l (State.head?_eq_some head).1).trans (.foldl refresh _ _)
  · exact .refl s

theorem Keeps.headLinkDown : Keeps s (s.headLinkDown l) := by
  unfold State.headLinkDown
  split
  · next head =>
    exact ((Keeps.popHead s l (State.head?_eq_some head).1).trans (Keeps.removeExpected _ _)).trans
      (Keeps.evalCompletion _)
  · exact .refl s

end Control

end Sys2Proof.Machine
end

section
/-! PROOF. The network time base (R6 to R20): what pulses, windows and selection make of it, in terms of the timebase
alone, and that every operation keeps every invariant. -/

namespace Sys2Proof.Machine

/-! ## All but the timebase -/

/-- Every invariant but that of the timebase is kept. -/
def KeepsElse (s t : State) : Prop := Keeps s { t with timebase := s.timebase }

namespace KeepsElse

variable {s t u : State}

theorem refl (s : State) : KeepsElse s s := Keeps.refl s

theorem of_keeps (h : Keeps s t) : KeepsElse s t :=
  ⟨⟨id, h.port, h.faultCount, h.links, h.waiting, h.table, h.clocks, h.pool, h.slots⟩, h.tracking⟩

theorem trans (h : KeepsElse s t) (k : KeepsElse t u) : KeepsElse s u :=
  ⟨⟨id, fun p => (h.port p).trans (k.port p), k.faultCount ∘ h.faultCount, k.links ∘ h.links, k.waiting ∘ h.waiting,
    fun a b => k.table (h.table a b).1 (h.table a b).2, k.clocks ∘ h.clocks, k.pool ∘ h.pool, k.slots ∘ h.slots⟩,
    k.tracking ∘ h.tracking⟩

theorem modTimebase (s : State) (f : Timebase → Timebase) : KeepsElse s (s.modTimebase f) := Keeps.refl s

theorem raise (s : State) (k : NoticeKind) : KeepsElse s (s.raise k) := of_keeps (.raise s k)

theorem raiseIf (s : State) (b : Bool) (k : NoticeKind) : KeepsElse s (s.raiseIf b k) := of_keeps (.raiseIf s b k)

theorem setHubState (s : State) (h : HubState) : KeepsElse s (s.setHubState h) := by
  unfold State.setHubState
  split
  · exact refl s
  · exact ((modTimebase s _).trans (raise _ _)).trans (of_keeps (.abandonProbes _))

theorem enterHoldover (s : State) : KeepsElse s s.enterHoldover := by
  unfold State.enterHoldover
  split
  · exact setHubState s _
  · exact refl s

theorem setSelection (s : State) (x : Option RefId) : KeepsElse s (s.setSelection x) := by
  unfold State.setSelection
  split
  · exact refl s
  · exact (modTimebase s _).trans (raise _ _)

theorem fallback (s : State) (r : RefId) : KeepsElse s (s.fallback r) := by
  unfold State.fallback
  split
  · exact setSelection s _
  · exact enterHoldover s

theorem afterRef (s : State) (r : RefId) (before : RefState) : KeepsElse s (s.afterRef r before) := by
  unfold State.afterRef
  dsimp only
  split
  · exact (raiseIf s _ _).trans (fallback _ r)
  · split
    · exact (raiseIf s _ _).trans (setSelection _ _)
    · exact raiseIf s _ _

theorem stepHub (s : State) (second : Nat) : KeepsElse s (s.stepHub second) := by
  have done (t : State) : KeepsElse t (t.setHubState .referenced).closeDeadlines :=
    (setHubState t _).trans (of_keeps (.closeDeadlines _))
  unfold State.stepHub
  dsimp only
  split
  · exact (modTimebase s _).trans (done _)
  · exact (modTimebase s _).trans (done _)
  · exact ((modTimebase s _).trans (raiseIf _ _ _)).trans (done _)

theorem keeps (h : KeepsElse s t) (timebase : s.timebase.sound → t.timebase.sound) : Keeps s t :=
  ⟨⟨timebase, h.port, h.faultCount, h.links, h.waiting, h.table, h.clocks, h.pool, h.slots⟩, h.tracking⟩

end KeepsElse

/-! ## References -/

namespace Reference

theorem runStages_step : ∀ n ≤ 64, runStages n ||| runStage (min (n + 1) 64) = runStages (min (n + 1) 64) := by
  decide

variable {x : Reference}

theorem sound_of_idle (depth : x.depth ∈ refDepths) (idle : x.state.running = false) (run : x.run = 0)
    (stages : x.stages = 0) : x.sound :=
  ⟨depth, by rw [run]; exact Nat.zero_le _, by rw [stages, run]; rfl, by rw [idle, run]; simp⟩

theorem endRun_sound (h : x.sound) {st : RefState} (idle : st.running = false) : (x.endRun st).sound :=
  sound_of_idle h.1 idle rfl rfl

theorem startRun_sound (h : x.sound) : x.startRun.sound := by
  unfold startRun
  split
  · exact ⟨h.1, (by decide : 1 ≤ 64), rfl, by simp [RefState.running]⟩
  · exact h

/-- A good pulse in a run (R11). -/
theorem advanceRun_sound (h : x.sound) : x.advanceRun.sound := by
  obtain ⟨depth, small, stages, _⟩ := h
  refine ⟨depth, min_le_right _ _, ?_, ?_⟩
  · show x.stages ||| runStage (min (x.run + 1) runMax) = runStages (min (x.run + 1) runMax)
    rw [stages]
    exact runStages_step x.run small
  · have run : 1 ≤ x.advanceRun.run := le_min (Nat.le_add_left _ _) (by decide)
    simp only [run, iff_true]
    unfold advanceRun
    dsimp only
    split <;> rfl

theorem breakRun_sound (h : x.sound) : x.breakRun.sound := by
  unfold breakRun
  split
  · exact endRun_sound (st := .fault) h rfl
  · split
    · exact startRun_sound h
    · exact endRun_sound (st := .absent) h rfl

theorem judgePulse_sound (h : x.sound) (now : Nat) : (x.judgePulse now).sound := by
  unfold judgePulse
  split
  · split
    · exact advanceRun_sound h
    · exact breakRun_sound h
  · split
    · exact startRun_sound h
    · exact h

theorem pulse_sound (h : x.sound) (now ms : Nat) : (x.pulse now ms).sound := judgePulse_sound h now

theorem windowOut_sound (h : x.sound) : x.windowOut.sound := by
  unfold windowOut
  split
  · exact endRun_sound (st := .absent) h rfl
  · exact endRun_sound (st := .fault) h rfl
  · exact h
  · exact h
  · exact h

theorem judgePulse_enabled (now : Nat) (on : x.state ≠ .off) : (x.judgePulse now).state ≠ .off := by
  have started : x.startRun.state ≠ .off := by
    unfold startRun
    split
    · exact nofun
    · exact on
  unfold judgePulse
  split
  · split
    · show x.advanceRun.state ≠ .off
      unfold advanceRun
      dsimp only
      split <;> exact nofun
    · show x.breakRun.state ≠ .off
      unfold breakRun
      split
      · exact nofun
      · split
        · exact started
        · exact nofun
  · split
    · exact started
    · exact on

theorem pulse_enabled (now ms : Nat) (on : x.state ≠ .off) : (x.pulse now ms).state ≠ .off := judgePulse_enabled now on

theorem windowOut_enabled (on : x.state ≠ .off) : x.windowOut.state ≠ .off := by
  unfold windowOut
  split
  · exact nofun
  · exact nofun
  · exact on
  · exact on
  · exact on

end Reference

/-! ## The timebase alone -/

namespace Timebase

/-- The timebase after a REFERENCED hub is put in HOLDOVER (R6). -/
def heldOver (t : Timebase) : Timebase := if t.hubState = .referenced then { t with hubState := .holdover } else t

/-- The timebase after its selected reference r has left USABLE (R16). -/
def fellBack (t : Timebase) (r : RefId) : Timebase :=
  if (t.ref (otherRef r)).state = .usable then { t with selection := some (otherRef r) } else t.heldOver

/-- The timebase after a change of the state of reference r, `before` its state before (R15, R16). -/
def afterRef (t : Timebase) (r : RefId) (before : RefState) : Timebase :=
  if before = .usable ∧ (t.ref r).state ≠ .usable ∧ t.selection = some r then t.fellBack r
  else if before ≠ .usable ∧ (t.ref r).state = .usable ∧ t.autoSelect = true ∧ t.unserved = true then
    { t with selection := some r }
  else t

/-- The last step that a good pulse at `target` leaves (R17). -/
def stepTo (t : Timebase) (target : Int) : Int := if t.hubState = .unset then 0 else target - t.hubTime

/-- Whether a good pulse at `target` makes a large step: in REFERENCED alone (R17). -/
def largeStep (t : Timebase) (target : Int) : Bool :=
  decide (t.hubState = .referenced) && decide (t.stepLimit < (target - t.hubTime).natAbs)

/-- The timebase stepped to the start of a second (R17). -/
def stepped (t : Timebase) (target : Int) : Timebase :=
  { t with hubTime := target, lastStep := t.stepTo target, hubState := .referenced
           largeSteps := if t.largeStep target then bump t.largeSteps else t.largeSteps }

end Timebase

section Effects

variable (s : State)

@[simp] theorem State.probeEnded_timebase (requested : Bool) : (s.probeEnded requested).timebase = s.timebase :=
  s.raiseIf_timebase _ _

@[simp] theorem State.abandonProbe_timebase (l : LinkId) : (s.abandonProbe l).timebase = s.timebase := by
  unfold State.abandonProbe
  split
  · rw [State.probeEnded_timebase, State.modLink_timebase]
  · rfl

theorem State.abandonProbe_foldl_timebase (ls : List LinkId) (s : State) :
    (ls.foldl State.abandonProbe s).timebase = s.timebase := by
  induction ls generalizing s with
  | nil => rfl
  | cons l ls ih => rw [List.foldl_cons, ih, State.abandonProbe_timebase]

@[simp] theorem State.abandonProbes_timebase : s.abandonProbes.timebase = s.timebase :=
  State.abandonProbe_foldl_timebase _ s

theorem State.setHubState_timebase (h : HubState) :
    (s.setHubState h).timebase = { s.timebase with hubState := h } := by
  unfold State.setHubState
  split
  · next same => rw [← same]
  · rw [State.abandonProbes_timebase, State.raise_timebase]
    rfl

theorem State.enterHoldover_timebase : s.enterHoldover.timebase = s.timebase.heldOver := by
  unfold State.enterHoldover Timebase.heldOver
  split
  · exact s.setHubState_timebase _
  · rfl

theorem State.setSelection_timebase (x : Option RefId) :
    (s.setSelection x).timebase = { s.timebase with selection := x } := by
  unfold State.setSelection
  split
  · next same => rw [← same]
  · rw [State.raise_timebase]
    rfl

theorem State.fallback_timebase (r : RefId) : (s.fallback r).timebase = s.timebase.fellBack r := by
  unfold State.fallback Timebase.fellBack
  split
  · exact s.setSelection_timebase _
  · exact s.enterHoldover_timebase

theorem State.afterRef_timebase (r : RefId) (before : RefState) :
    (s.afterRef r before).timebase = s.timebase.afterRef r before := by
  simp only [State.afterRef, Timebase.afterRef, State.raiseIf_timebase]
  split
  · rw [State.fallback_timebase, State.raiseIf_timebase]
  · split
    · rw [State.setSelection_timebase, State.raiseIf_timebase]
    · rw [State.raiseIf_timebase]

theorem State.stepHub_timebase (second : Nat) :
    (s.stepHub second).timebase = s.timebase.stepped ((second : Int) * nsPerSecond) := by
  unfold State.stepHub
  dsimp only
  rw [(State.closeDeadlines_frame _).timebase, State.setHubState_timebase]
  split
  · next hub => simp [Timebase.stepped, Timebase.stepTo, Timebase.largeStep, hub, State.modTimebase]
  · next hub => simp [Timebase.stepped, Timebase.stepTo, Timebase.largeStep, hub, State.modTimebase]
  · next hub =>
    rw [State.raiseIf_timebase]
    simp [Timebase.stepped, Timebase.stepTo, Timebase.largeStep, hub, State.modTimebase]

end Effects

/-! ## It stays sound -/

namespace Timebase

@[simp] theorem setRef_selection (t : Timebase) (r : RefId) (x : Reference) :
    (t.setRef r x).selection = t.selection := by cases r <;> rfl

@[simp] theorem setRef_hubState (t : Timebase) (r : RefId) (x : Reference) : (t.setRef r x).hubState = t.hubState := by
  cases r <;> rfl

theorem ref_setRef (t : Timebase) (r q : RefId) (x : Reference) : (t.setRef r x).ref q = if r = q then x else t.ref q := by
  split
  · next same => rw [← same, setRef_self]
  · next other => exact setRef_ne t x other

/-- What a timebase keeps apart from the state of its hub: both references, the values of R6 and R18, and an enabled
selected reference. -/
structure Steady (t : Timebase) : Prop where
  ref : ∀ r, (t.ref r).sound
  unset : t.hubState = .unset → t.hubTime = 0
  selected : ∀ r, t.selection = some r → (t.ref r).state ≠ .off
  limit : 1000 ≤ t.stepLimit ∧ t.stepLimit ≤ 1000000

/-- A REFERENCED hub follows a selected USABLE reference (R6). -/
def Follows (t : Timebase) : Prop := t.hubState = .referenced → ∃ r, t.selection = some r ∧ (t.ref r).state = .usable

theorem sound_iff (t : Timebase) : t.sound ↔ t.Steady ∧ t.Follows := by
  constructor
  · rintro ⟨a, b, unset, selected, follows, limit⟩
    exact ⟨⟨fun r => by cases r; exacts [a, b], unset, selected, limit⟩, follows⟩
  · rintro ⟨⟨ref, unset, selected, limit⟩, follows⟩
    exact ⟨ref .refA, ref .refB, unset, selected, follows, limit⟩

variable {t : Timebase} {r : RefId}

theorem Steady.setRef (h : t.Steady) {y : Reference} (sound : y.sound)
    (on : t.selection = some r → y.state ≠ .off) : (t.setRef r y).Steady := by
  refine ⟨fun q => ?_, ?_, fun q sel => ?_, ?_⟩
  · rw [ref_setRef]
    split
    · exact sound
    · exact h.ref q
  · cases r <;> exact h.unset
  · rw [setRef_selection] at sel
    rw [ref_setRef]
    split
    · next same => exact on (by rw [sel, same])
    · exact h.selected q sel
  · cases r <;> exact h.limit

theorem Steady.select (h : t.Steady) (on : (t.ref r).state ≠ .off) : ({ t with selection := some r } : Timebase).Steady :=
  ⟨h.ref, h.unset, fun q sel => by cases sel; exact on, h.limit⟩

theorem Steady.heldOver (h : t.Steady) : t.heldOver.Steady := by
  unfold Timebase.heldOver
  split
  · exact ⟨h.ref, nofun, h.selected, h.limit⟩
  · exact h

theorem Steady.afterRef (h : t.Steady) (before : RefState) : (t.afterRef r before).Steady := by
  unfold Timebase.afterRef Timebase.fellBack
  split
  · split
    · next usable => exact h.select (by rw [usable]; exact nofun)
    · exact h.heldOver
  · split
    · next usable => exact h.select (by rw [usable.2.1]; exact nofun)
    · exact h

theorem heldOver_follows (t : Timebase) : t.heldOver.Follows := by
  unfold Timebase.heldOver Timebase.Follows
  split
  · exact nofun
  · next other => exact fun h => absurd h other

/-- After a change of one reference the selection and the hub follow (R15, R16). -/
theorem Follows.afterRef (h : t.Follows) (y : Reference) : ((t.setRef r y).afterRef r (t.ref r).state).Follows := by
  unfold Timebase.afterRef Timebase.fellBack
  split
  · split
    · next usable => exact fun _ => ⟨otherRef r, rfl, usable⟩
    · exact heldOver_follows _
  · next kept =>
    split
    · next usable => exact fun _ => ⟨r, rfl, usable.2.1⟩
    · intro hub
      rw [setRef_hubState] at hub
      obtain ⟨q, sel, usable⟩ := h hub
      refine ⟨q, by rw [setRef_selection, sel], ?_⟩
      rw [ref_setRef]
      split
      · next same =>
        subst same
        by_contra left
        exact kept ⟨usable, by rwa [setRef_self], by rw [setRef_selection, sel]⟩
      · exact usable

/-- A change of an enabled reference into an enabled one, with what it brings with it (R15, R16). -/
theorem sound_afterRef (h : t.sound) {y : Reference} (sound : y.sound)
    (on : (t.ref r).state ≠ .off → y.state ≠ .off) : ((t.setRef r y).afterRef r (t.ref r).state).sound := by
  obtain ⟨steady, follows⟩ := t.sound_iff.mp h
  exact (sound_iff _).mpr ⟨(steady.setRef sound fun sel => on (steady.selected r sel)).afterRef _, follows.afterRef y⟩

theorem sound_stepped (h : t.sound) (target : Int) (sel : t.selection = some r) (usable : (t.ref r).state = .usable) :
    (t.stepped target).sound := by
  obtain ⟨steady, _⟩ := t.sound_iff.mp h
  exact (sound_iff _).mpr ⟨⟨steady.ref, nofun, steady.selected, steady.limit⟩, fun _ => ⟨r, sel, usable⟩⟩

end Timebase

/-! ## Every operation keeps every invariant -/

section Keeps

variable (s : State) (r : RefId)

theorem Timebase.sound.ref {t : Timebase} (h : t.sound) (r : RefId) : (t.ref r).sound := ((t.sound_iff.mp h).1).ref r

/-- A pulse on a reference (R9 to R17). -/
theorem Keeps.pulse : Keeps s (s.pulse r) := by
  unfold State.pulse
  dsimp only
  split
  · exact .refl s
  · have moved : Keeps s ((s.modRef r fun y => y.pulse s.timebase.oscNs s.partTime).afterRef r
        (s.timebase.ref r).state) := by
      refine ((KeepsElse.modTimebase s _).trans (KeepsElse.afterRef _ r _)).keeps fun h => ?_
      rw [State.afterRef_timebase]
      exact Timebase.sound_afterRef h (Reference.pulse_sound (h.ref r) _ _) (Reference.pulse_enabled _ _)
    split
    · next second pending =>
      split
      · next steps =>
        simp only [Bool.and_eq_true, decide_eq_true_eq] at steps
        refine moved.trans ((KeepsElse.stepHub _ second).keeps fun h => ?_)
        rw [State.stepHub_timebase]
        exact Timebase.sound_stepped h _ steps.1.2 steps.2
      · exact moved
    · exact moved

/-- A pulse window run out (R12). -/
theorem Keeps.windowExpiry : Keeps s (s.windowExpiry r) := by
  unfold State.windowExpiry
  dsimp only
  split
  · refine ((KeepsElse.modTimebase s _).trans (KeepsElse.afterRef _ r _)).keeps fun h => ?_
    rw [State.afterRef_timebase]
    exact Timebase.sound_afterRef h (Reference.windowOut_sound (h.ref r)) Reference.windowOut_enabled
  · exact .refl s

/-- A change of a reference that keeps its state (R8, R13, R23). -/
theorem Keeps.modRef {f : Reference → Reference} (sound : (s.timebase.ref r).sound → (f (s.timebase.ref r)).sound)
    (state : (f (s.timebase.ref r)).state = (s.timebase.ref r).state) : Keeps s (s.modRef r f) := by
  refine .modTimebase fun h => ?_
  obtain ⟨steady, follows⟩ := s.timebase.sound_iff.mp h
  refine (Timebase.sound_iff _).mpr ⟨steady.setRef (sound (steady.ref r)) fun sel => by
    rw [state]; exact steady.selected r sel, fun hub => ?_⟩
  rw [Timebase.setRef_hubState] at hub
  obtain ⟨q, sel, usable⟩ := follows hub
  refine ⟨q, by rw [Timebase.setRef_selection, sel], ?_⟩
  rw [Timebase.ref_setRef]
  split
  · next same => rw [state, same]; exact usable
  · exact usable

theorem Keeps.select (on : (s.timebase.ref r).state = .usable) : Keeps s (s.setSelection (some r)) := by
  refine (KeepsElse.setSelection s _).keeps fun h => ?_
  obtain ⟨steady, _⟩ := s.timebase.sound_iff.mp h
  rw [State.setSelection_timebase]
  exact (Timebase.sound_iff _).mpr ⟨steady.select (by rw [on]; exact nofun), fun _ => ⟨r, rfl, on⟩⟩

theorem Keeps.checkSelection : Keeps s s.checkSelection := by
  unfold State.checkSelection
  split
  · split
    · next usable => exact .select s .refA usable
    · split
      · next usable => exact .select s .refB usable
      · exact .refl s
  · exact .refl s

/-- The selection NONE, and a REFERENCED hub in HOLDOVER (R14). -/
theorem Keeps.deselect : Keeps s (s.setSelection none).enterHoldover := by
  refine ((KeepsElse.setSelection s none).trans (KeepsElse.enterHoldover _)).keeps fun h => ?_
  obtain ⟨steady, _⟩ := s.timebase.sound_iff.mp h
  rw [State.enterHoldover_timebase, State.setSelection_timebase]
  have none : ({ s.timebase with selection := none } : Timebase).Steady := ⟨steady.ref, steady.unset, nofun, steady.limit⟩
  exact (Timebase.sound_iff _).mpr ⟨none.heldOver, Timebase.heldOver_follows _⟩

end Keeps

end Sys2Proof.Machine
end

section
/-! PROOF. The station table and its reservations (R48 to R62): what disabling makes of a station, and that every request
of the table keeps every invariant. -/

namespace Sys2Proof.Machine

/-! ## All but the table and the clocks -/

/-- Every invariant but those of the table, the reservations and the clocks is kept. -/
structure KeepsMost (s t : State) : Prop where
  timebase : s.timebase.sound → t.timebase.sound
  port : ∀ p, Port.SameLine (s.port p) (t.port p)
  faultCount : s.faultCount ≤ 255 → t.faultCount ≤ 255
  links : s.linksSound → t.linksSound
  waiting : s.waitingSound → t.waitingSound
  pool : s.poolSound → t.poolSound
  slots : s.slotsSound → t.slotsSound
  tracking : s.trackingSound → t.trackingSound

namespace KeepsMost

variable {s t u : State}

theorem of_keeps (h : Keeps s t) : KeepsMost s t :=
  ⟨h.timebase, h.port, h.faultCount, h.links, h.waiting, h.pool, h.slots, h.tracking⟩

theorem trans (h : KeepsMost s t) (k : KeepsMost t u) : KeepsMost s u :=
  ⟨k.timebase ∘ h.timebase, fun p => (h.port p).trans (k.port p), k.faultCount ∘ h.faultCount, k.links ∘ h.links,
    k.waiting ∘ h.waiting, k.pool ∘ h.pool, k.slots ∘ h.slots, k.tracking ∘ h.tracking⟩

theorem modStation {i : StationId} {f : Station → Station}
    (tracker : (s.station i).tracker.sound → (f (s.station i)).tracker.sound) : KeepsMost s (s.modStation i f) := by
  refine ⟨id, fun p => ?_, id, fun h => ?_, fun h => ?_, id, id, State.trackingSound_modStation tracker⟩
  · rw [State.modStation_port]; exact .refl _
  · simpa only [State.linksSound, State.modStation_link] using h
  · simpa only [State.waitingSound, State.modStation_link, State.modStation_store] using h

theorem keeps (h : KeepsMost s t)
    (table : s.tableSound → s.reservationsSound → t.tableSound ∧ t.reservationsSound)
    (clocks : s.clocksSound → t.clocksSound) : Keeps s t :=
  ⟨⟨h.timebase, h.port, h.faultCount, h.links, h.waiting, table, clocks, h.pool, h.slots⟩, h.tracking⟩

end KeepsMost

/-! ## One station of the table changed -/

section OneStation

variable {s t : State} {i : StationId} {y : Station}

theorem sharePair_symm {x y : Station} (h : sharePair x y) : sharePair y x := by
  obtain ⟨b, c, hb, hc, link, address⟩ := h
  exact ⟨c, b, hc, hb, link.symm, address.symm⟩

/-- A table in which station i alone may differ in enable, binding and settings, and shares its pair with no other. -/
theorem State.tableSound_update (others : ∀ j, j ≠ i → Station.SameTable (s.station j) (t.station j))
    (own : (t.station i).configured)
    (alone : (t.station i).enabled = true → ∀ j, j ≠ i → (s.station j).enabled = true →
      ¬ sharePair (t.station i) (s.station j)) (h : s.tableSound) : t.tableSound := by
  obtain ⟨configured, unique⟩ := h
  have pairs {a b c : Station} (same : Station.SameTable a b) (h : sharePair c b) : sharePair c a := by
    simpa only [sharePair, same.binding] using h
  refine ⟨fun j => ?_, fun j k onj onk pair => ?_⟩
  · by_cases e : j = i
    · rw [e]; exact own
    · exact (others j e).configured (configured j)
  · by_cases ej : j = i <;> by_cases ek : k = i
    · rw [ej, ek]
    · rw [ej] at onj pair
      have same := others k ek
      exact (alone onj k ek (by rw [← same.enabled, onk]) (pairs same pair)).elim
    · rw [ek] at onk pair
      have same := others j ej
      exact (alone onk j ej (by rw [← same.enabled, onj]) (pairs same (sharePair_symm pair))).elim
    · have sj := others j ej
      have sk := others k ek
      refine unique j k (by rw [← sj.enabled, onj]) (by rw [← sk.enabled, onk]) ?_
      exact sharePair_symm (pairs sj (sharePair_symm (pairs sk pair)))

/-- A table in which station i keeps its enable and its binding. -/
theorem State.tableSound_config (others : ∀ j, j ≠ i → Station.SameTable (s.station j) (t.station j))
    (enabled : (t.station i).enabled = (s.station i).enabled) (binding : (t.station i).binding = (s.station i).binding)
    (own : (s.station i).configured → (t.station i).configured) (h : s.tableSound) : t.tableSound := by
  refine State.tableSound_update others (own (h.1 i)) (fun on j e onj pair => e ?_) h
  refine (h.2 i j (by rw [← enabled, on]) onj ?_).symm
  simpa only [sharePair, binding] using pair

/-- A change of station i with the clock it leaves. -/
theorem State.clocksSound_update (others : ∀ j, j ≠ i → (t.station j).clock = (s.station j).clock ∧
      (t.station j).config = (s.station j).config)
    (own : (s.station i).clock.sound (s.station i).config.depth → (t.station i).clock.sound (t.station i).config.depth)
    (h : s.clocksSound) : t.clocksSound := by
  intro j
  by_cases e : j = i
  · rw [e]; exact own (h i)
  · obtain ⟨clock, config⟩ := others j e
    rw [clock, config]
    exact h j

theorem State.modStation_others (s : State) (f : Station → Station) (j : StationId) (e : j ≠ i) :
    (s.modStation i f).station j = s.station j := State.modStation_ne s f (Ne.symm e)

end OneStation

/-! ## Binding and enabling -/

section Requests

variable {s : State} {i : StationId}

/-- A change of station i in which it keeps its clock and settings, or starts anew with them. -/
theorem Keeps.changeStation {f : Station → Station}
    (tracker : (s.station i).tracker.sound → (f (s.station i)).tracker.sound)
    (clock : (s.station i).clock.sound (s.station i).config.depth →
      (f (s.station i)).clock.sound (f (s.station i)).config.depth)
    (on : (s.station i).enabled = true → (f (s.station i)).enabled = true)
    (table : s.tableSound → s.reservationsSound → (s.modStation i f).tableSound) : Keeps s (s.modStation i f) := by
  refine (KeepsMost.modStation tracker).keeps (fun a b => ⟨table a b, fun bank x entry => ?_⟩) ?_
  · rw [State.modStation_reservations] at entry
    obtain ⟨of_bank, enabled, staged⟩ := b bank x entry
    refine ⟨of_bank, ?_, staged⟩
    rw [State.station_modStation]
    split
    · next same => exact on (by rw [same, enabled])
    · exact enabled
  · refine State.clocksSound_update (i := i) (fun j e => ?_) (by rw [State.modStation_self]; exact clock)
    rw [State.modStation_others s f j e]
    exact ⟨rfl, rfl⟩

theorem Keeps.bind (off : (s.station i).enabled = false) (b : Binding) :
    Keeps s (s.modStation i fun x => { x with binding := some b, backfillStamp := none, probeStamp := none }) := by
  refine .changeStation id id (fun on => by rw [off] at on; cases on) fun h _ => ?_
  refine State.tableSound_update (i := i) (fun j e => ?_) ?_ (fun on => ?_) h
  · rw [State.modStation_others s _ j e]; exact .refl _
  · rw [State.modStation_self]
    exact ⟨fun on => absurd on (by show ¬ (s.station i).enabled = true; rw [off]; exact nofun), (h.1 i).2⟩
  · rw [State.modStation_self] at on
    exact absurd on (by rw [off]; exact nofun)

theorem StationConfig.initial_inRange (r : Rate) : StationConfig.initial.inRange r.period := by
  cases r <;> simp [StationConfig.inRange, StationConfig.initial, markDepths, Rate.period, calibrationLimit,
    StationConfig.interlocked]

/-- A station of which no enabled one holds the pair is alone with it (R50). -/
theorem State.holder_eq_none {b : Binding} (h : s.holder i b = none) (j : StationId) (e : j ≠ i)
    (on : (s.station j).enabled = true) (c : Binding) (bound : (s.station j).binding = some c) :
    ¬ (c.link = b.link ∧ c.address = b.address) := by
  have none := List.find?_eq_none.mp h j (List.mem_finRange j)
  simpa [e, on, bound] using none

theorem Keeps.enable {b : Binding} (bound : (s.station i).binding = some b) (free : s.holder i b = none) :
    Keeps s (s.modStation i Station.enable) := by
  refine .changeStation (fun _ => Tracker.initial_sound) (fun _ => Clock.initial_sound _) (fun _ => rfl) fun h _ => ?_
  refine State.tableSound_update (i := i) (fun j e => ?_) ?_ (fun _ j e on pair => ?_) h
  · rw [State.modStation_others s _ j e]; exact .refl _
  · rw [State.modStation_self]
    refine ⟨fun _ => ⟨by rw [Station.enable, bound]; rfl, ?_⟩, nofun⟩
    show StationConfig.initial.inRange (s.station i).period
    rw [Station.period, bound]
    exact StationConfig.initial_inRange _
  · rw [State.modStation_self] at pair
    obtain ⟨b', c, hb, hc, link, address⟩ := pair
    have same : b' = b := Option.some.inj (hb.symm.trans bound)
    rw [same] at link address
    exact State.holder_eq_none free j e on c hc ⟨link.symm, address.symm⟩

end Requests

/-! ## Disabling -/

section Disable

variable (s : State) (i : StationId)

theorem State.countAbandoned_station (k : Nat) (notify : Bool) (j : StationId) :
    (s.countAbandoned i k notify).station j = if i = j then { s.station i with
      counters := { (s.station i).counters with
        gapsAbandoned := bumpBy (s.station i).counters.gapsAbandoned k } } else s.station j := by
  simp only [State.countAbandoned, State.raiseIf_station, State.count, State.station_modStation]

/-- A station whose tracking is cleared: its gaps are counted abandoned, and it is as before its first record (R52,
R86). -/
def Station.cleared (x : Station) : Station :=
  { x with
    tracker := Tracker.initial
    counters := { x.counters with gapsAbandoned := bumpBy x.counters.gapsAbandoned x.tracker.gaps.length } }

theorem State.freeSlots_station (ks : List Nat) (j : StationId) : (s.freeSlots ks).station j = s.station j := by
  rw [State.station, (State.freeSlots_frame s ks).stations, State.station]

theorem State.clearTracking_station (j : StationId) :
    (s.clearTracking i).station j = if i = j then (s.station i).cleared else s.station j := by
  unfold State.clearTracking
  dsimp only
  rw [State.modTracker, State.station_modStation]
  split
  · simp only [State.countAbandoned_station, State.freeSlots_station, if_true, Station.cleared]
  · next other => simp only [State.countAbandoned_station, State.freeSlots_station, if_neg other]

theorem State.unsetClock_station (j : StationId) :
    (s.unsetClock i).station j = if i = j then { s.station i with clock := Clock.initial } else s.station j := by
  simp only [State.unsetClock, State.putClock, State.raiseIf_station, State.station_modStation]

/-- A station disabled: its enable, tracking, clock, expectation, mark unit and settings are those of reset (R52). -/
def Station.disabled (x : Station) : Station := { x.disable.cleared with clock := Clock.initial }

/-- The station steps of disabling (R52, steps 1 to 8). -/
def State.disableSteps (s : State) (i : StationId) : State :=
  ((((s.modStation i Station.disable).clearTracking i).unsetClock i).removeExpected (stationBit i)).invalidateReservation i

theorem State.disableSteps_station (j : StationId) :
    (s.disableSteps i).station j = if i = j then (s.station i).disabled else s.station j := by
  simp only [State.disableSteps, State.invalidateReservation_station, State.removeExpected_station,
    State.unsetClock_station, State.clearTracking_station]
  split
  · simp only [State.modStation_self, Station.disabled]
    rfl
  · next other => rw [State.modStation_ne _ _ other]

theorem State.clearTracking_reservations : (s.clearTracking i).reservations = s.reservations := by
  simp only [State.clearTracking, State.countAbandoned, State.modTracker_reservations, State.raiseIf_reservations,
    State.count_reservations, (State.freeSlots_frame s _).reservations]

theorem State.reservation_of_bank {i : StationId} {b : Fin 4} (e : bankOf i = b) : s.reservation i = s.reservations[b] := by
  subst e
  rfl

theorem State.invalidateReservation_entry (b : Fin 4) (x : Reservation)
    (entry : (s.invalidateReservation i).reservations[b] = some x) :
    s.reservations[b] = some x ∧ (bankOf i = b → x.station ≠ i) := by
  unfold State.invalidateReservation at entry
  have cleared := s.setReservation_entry i none b
  split at entry
  · next y held =>
    split at entry
    · rw [cleared] at entry
      split at entry
      · cases entry
      · next other => exact ⟨entry, fun e => absurd e other⟩
    · next other =>
      refine ⟨entry, fun e => ?_⟩
      have : s.reservation i = some x := (State.reservation_of_bank s e).trans entry
      rw [held] at this
      rw [← Option.some.inj this]
      exact other
  · next none =>
    refine ⟨entry, fun e => ?_⟩
    have : s.reservation i = some x := (State.reservation_of_bank s e).trans entry
    rw [none] at this
    cases this

theorem Keeps.disableSteps : Keeps s (s.disableSteps i) := by
  refine KeepsMost.keeps ?_ (fun a b => ⟨?_, fun bank x entry => ?_⟩) ?_
  · exact (KeepsMost.modStation (s := s) (f := Station.disable) id).trans
      (.of_keeps ((((Keeps.clearTracking i _).trans (Keeps.unsetClock _ i)).trans (Keeps.removeExpected _ _)).trans
        (Keeps.invalidateReservation _ i)))
  · refine State.tableSound_update (i := i) (fun j e => ?_) ?_ (fun on => ?_) a
    · rw [State.disableSteps_station, if_neg (Ne.symm e)]; exact .refl _
    · rw [State.disableSteps_station, if_pos rfl]
      exact ⟨nofun, fun _ => rfl⟩
    · rw [State.disableSteps_station, if_pos rfl] at on
      cases on
  · obtain ⟨held, other⟩ := State.invalidateReservation_entry _ i bank x entry
    rw [State.removeExpected_reservations, State.unsetClock, State.putClock_reservations,
      State.clearTracking_reservations, State.modStation_reservations] at held
    obtain ⟨of_bank, on, staged⟩ := b bank x held
    refine ⟨of_bank, ?_, staged⟩
    have ne : i ≠ x.station := fun e => other (by rw [e, of_bank]) e.symm
    rw [State.disableSteps_station, if_neg ne]
    exact on
  · refine State.clocksSound_update (i := i) (fun j e => ?_) (fun _ => ?_)
    · rw [State.disableSteps_station, if_neg (Ne.symm e)]; exact ⟨rfl, rfl⟩
    · rw [State.disableSteps_station, if_pos rfl]
      exact Clock.initial_sound _

/-- A blocked head of station i dropped (R53, R176). -/
theorem Keeps.dropBlockedHead (l : LinkId) : Keeps s (State.dropBlockedHead i s l) := by
  unfold State.dropBlockedHead
  split
  · split
    · next r rest front =>
      split
      · have order : ((((s.popHead l).countDisabled l).modLink l fun x => { x with blocked := false }).leaveWaiting l) =
            (s.leaveWaiting l).modLink l fun x => { x with
              queue := x.queue.tail, blocked := false
              counters := { x.counters with disabledEntries := bump x.counters.disabledEntries } } := by
          simp only [State.popHead, State.countDisabled, State.countLink, State.modLink_modLink]
          rfl
        rw [order]
        refine .unblock (fun ⟨size, _, off, rest⟩ => ⟨?_, nofun, fun e => ?_, rest⟩) rfl
        · simp only [List.length_tail]
          omega
        · obtain ⟨queue, others⟩ := off e
          exact ⟨by simp only [queue, List.tail_nil], others⟩
      · exact .refl s
    · exact .refl s
  · exact .refl s

theorem Keeps.disableStation : Keeps s (s.disableStation i) := by
  have steps : s.disableStation i = ((allLinks.foldl (State.dropBlockedHead i) (s.disableSteps i)).evalCompletion) := rfl
  rw [steps]
  exact ((Keeps.disableSteps s i).trans (.foldl (fun t l => Keeps.dropBlockedHead t i l) _ _)).trans
    (Keeps.evalCompletion _)

end Disable

/-! ## Configuration and calibration -/

section Configure

variable {s : State} {i : StationId}

theorem Clock.reconfigure_sound {old new : StationConfig} {c : Clock} (now : Nat) (h : c.sound old.depth) :
    (c.reconfigure old new now).sound new.depth := by
  unfold Clock.reconfigure
  dsimp only
  have sourced : (if old.source = new.source then c else c.changeSource).sound old.depth := by
    split
    · exact h
    · exact Clock.changeSource_sound h
  split
  · next same => rw [← same]; exact sourced
  · exact Clock.changeDepth_sound new now sourced

theorem setting_range {w lo hi held : Nat} (v : Option (BitVec w)) (h : lo ≤ hi) (range : lo ≤ held ∧ held ≤ hi) :
    lo ≤ setting lo hi v held ∧ setting lo hi v held ≤ hi := by
  cases v with
  | none => exact range
  | some x => exact ⟨clampNat_ge _ _ _, clampNat_le h _⟩

/-- Settings within their ranges stay there under the settings carried (R55). -/
theorem StationConfig.apply_inRange {c : StationConfig} {f : SettingFields} (r : Rate) (h : c.inRange r.period)
    (enumerated : badEnumerated f = false) (free : (c.apply r.period f).interlocked = false) :
    (c.apply r.period f).inRange r.period := by
  obtain ⟨depth, acq, track, accept, outlier, tear, hold, attempts, response, interval, rtt, silence, holdover, cal, _⟩ := h
  refine ⟨?_, (setting_range _ (by decide) ⟨Nat.zero_le _, acq⟩).2, (setting_range _ (by decide) ⟨Nat.zero_le _, track⟩).2,
    setting_range _ (by decide) accept, setting_range _ (by decide) outlier, setting_range _ (tear.1.trans tear.2) tear,
    setting_range _ (by decide) hold, setting_range _ (by decide) attempts, setting_range _ (by decide) response, ?_,
    setting_range _ (by decide) rtt, setting_range _ (by decide) silence, setting_range _ (by decide) holdover, ?_, free⟩
  · simp only [StationConfig.apply]
    simp only [badEnumerated, Bool.or_eq_false_iff] at enumerated
    cases carried : f.depth with
    | none => exact depth
    | some v => simpa [carried] using enumerated.1.2
  · simp only [StationConfig.apply]
    cases f.probeInterval with
    | none => exact interval
    | some v =>
      simp only [clampInterval]
      split
      · exact .inl rfl
      · exact .inr ⟨clampNat_ge _ _ _, clampNat_le (by decide) _⟩
  · simp only [StationConfig.apply]
    cases f.calibration with
    | none => exact cal
    | some v => exact ⟨clampInt_ge _ _ _, clampInt_le (by decide) _⟩

theorem Keeps.configure {new : StationConfig} (calibrated : Bool) (on : (s.station i).enabled = true)
    (range : (s.station i).configured → new.inRange (s.station i).period) : Keeps s (s.configure i new calibrated) := by
  have put : Keeps s ((s.modStation i fun x =>
      { x with config := new, mark := x.mark.reschedule (s.station i).config new s.partTime }).putClock i
        ((s.station i).clock.reconfigure (s.station i).config new s.partTime)) := by
    have written (j : StationId) : ((s.modStation i fun x =>
        { x with config := new, mark := x.mark.reschedule (s.station i).config new s.partTime }).putClock i
          ((s.station i).clock.reconfigure (s.station i).config new s.partTime)).station j =
        if i = j then { s.station i with
          config := new
          mark := (s.station i).mark.reschedule (s.station i).config new s.partTime
          clock := (s.station i).clock.reconfigure (s.station i).config new s.partTime } else s.station j := by
      simp only [State.putClock, State.raiseIf_station, State.modStation_modStation, State.station_modStation]
    refine KeepsMost.keeps ?_ (fun a b => ⟨?_, ?_⟩) ?_
    · unfold State.putClock
      exact ((KeepsMost.modStation id).trans (.modStation id)).trans (.of_keeps (.raiseIf _ _ _))
    · refine State.tableSound_config (i := i) (fun j e => ?_) ?_ ?_ (fun own => ?_) a
      · rw [written, if_neg (Ne.symm e)]; exact .refl _
      · rw [written, if_pos rfl]
      · rw [written, if_pos rfl]
      · rw [written, if_pos rfl]
        exact ⟨fun _ => ⟨(own.1 on).1, range own⟩, fun off => absurd on (by
          show ¬ (s.station i).enabled = true
          rw [off]; exact nofun)⟩
    · refine State.reservations_of_same (s := s) (fun j => ?_) (by rw [State.putClock_reservations]; rfl) b
      rw [written]
      split
      · next same => rw [← same]
      · rfl
    · refine State.clocksSound_update (i := i) (fun j e => ?_) ?_
      · rw [written, if_neg (Ne.symm e)]; exact ⟨rfl, rfl⟩
      · rw [written, if_pos rfl]
        exact Clock.reconfigure_sound _
  unfold State.configure
  dsimp only
  have calibration (t : State) : Keeps t (if calibrated then t.invalidateReservation i else t) := by
    split
    · exact .invalidateReservation t i
    · exact .refl t
  split
  · exact ((put.trans (calibration _)).trans (Keeps.lowerAttempts i _)).trans (Keeps.evalCompletion _)
  · exact put.trans (calibration _)

/-- A calibration delay in range written to an enabled station (R58, R61). -/
theorem Keeps.putCalibration {v : Int} (may : s.reservationsSound → (s.station i).enabled = true ∧
    -calibrationLimit ≤ v ∧ v ≤ calibrationLimit) : Keeps s (s.putCalibration i v) := by
  unfold State.putCalibration
  refine .changeStation id id id fun a b => ?_
  obtain ⟨on, range⟩ := may b
  refine State.tableSound_config (i := i) (fun j e => ?_) (by rw [State.modStation_self]) (by rw [State.modStation_self])
    (fun own => ?_) a
  · rw [State.modStation_others s _ j e]; exact .refl _
  · rw [State.modStation_self]
    refine ⟨fun _ => ⟨(own.1 on).1, ?_⟩, fun off => absurd on (by
      show ¬ (s.station i).enabled = true
      rw [off]; exact nofun)⟩
    obtain ⟨depth, acq, track, accept, outlier, tear, hold, attempts, response, interval, rtt, silence, holdover, _, free⟩ :=
      (own.1 on).2
    exact ⟨depth, acq, track, accept, outlier, tear, hold, attempts, response, interval, rtt, silence, holdover, range,
      free⟩

/-- A reservation of an enabled station in its bank, what it stages in range (R59, R60). -/
theorem Keeps.setReservation {x : Reservation} (own : x.station = i)
    (may : s.reservationsSound → (s.station i).enabled = true)
    (staged : ∀ v, x.staged = some v → -calibrationLimit ≤ v ∧ v ≤ calibrationLimit) :
    Keeps s (s.setReservation i (some x)) := by
  refine ⟨⟨id, fun _ => .refl _, id, id, id, fun a b => ⟨a, fun bank y entry => ?_⟩, id, id, id⟩, id⟩
  rw [State.setReservation_entry] at entry
  split at entry
  · next same =>
    cases entry
    refine ⟨by rw [own, same], ?_, staged⟩
    rw [own]
    exact may b
  · exact b bank y entry

theorem Keeps.endReservation (s : State) (i : StationId) : Keeps s (s.setReservation i none) := by
  refine .dropReservations fun b x entry => ?_
  have set := s.setReservation_entry i none b
  rw [State.setReservation] at set
  rw [set] at entry
  split at entry
  · cases entry
  · exact entry

end Configure

end Sys2Proof.Machine
end

section
/-! PROOF. Requests (R182 to R196): every request keeps every invariant, and the line of every port. -/

namespace Sys2Proof.Machine

section Tests

variable {s : State}

/-- A request that names a station, a link or the grid, or carries a clear flag, keeps what its body keeps and is
otherwise refused. -/
theorem Keeps.onStation {b : Byte} {f : StationId → Answer} (h : ∀ i, Keeps s (f i).1) : Keeps s (s.onStation b f).1 := by
  unfold State.onStation
  split
  · exact h _
  · exact .refl s

theorem Keeps.onLink {b : Byte} {f : LinkId → Answer} (h : ∀ l, Keeps s (f l).1) : Keeps s (s.onLink b f).1 := by
  unfold State.onLink
  split
  · exact h _
  · exact .refl s

theorem Keeps.onClear {c : Option Byte} {f : Bool → Answer} (h : ∀ b, Keeps s (f b).1) : Keeps s (s.onClear c f).1 := by
  unfold State.onClear
  split
  · exact h _
  · exact .refl s

theorem Keeps.onGrid {f : Grid → Answer} (h : ∀ g, Keeps s (f g).1) : Keeps s (s.onGrid f).1 := by
  unfold State.onGrid
  split
  · exact h _
  · exact .refl s

theorem Keeps.onEpoch {n : BitVec 64} {f : Epoch → Answer} (h : ∀ e, Keeps s (f e).1) : Keeps s (s.onEpoch n f).1 := by
  unfold State.onEpoch
  split
  · exact h _
  · exact .refl s

/-- An answer with OK. -/
theorem Keeps.ok {t : State} (h : Keeps s t) (fields : List Byte) : Keeps s (t.ok fields).1 := h

/-- What a clear flag clears, when it is set. -/
theorem Keeps.cleared {t : State} {c : Bool} (h : Keeps s t) : Keeps s (if c then t else s) := by
  split
  · exact h
  · exact .refl s

end Tests

section Requests

variable (s : State)

/-! ## Time base -/

theorem Keeps.answerGridSet (e o : Byte) (reserved : BitVec 7) (l : Option (BitVec 16)) :
    Keeps s (s.answerGridSet e o reserved l).1 := by
  unfold State.answerGridSet
  split
  · exact .refl s
  · split
    · exact .refl s
    · exact Keeps.ok (.modTimebase id) _

theorem Keeps.answerTimebaseStatus (clear : Option Byte) : Keeps s (s.answerTimebaseStatus clear).1 :=
  .onClear fun c => .cleared (t := s.modTimebase Timebase.clearCounters) (.modTimebase fun h => by
    obtain ⟨⟨ref, unset, selected, limit⟩, follows⟩ := s.timebase.sound_iff.mp h
    refine (Timebase.sound_iff _).mpr ⟨⟨fun r => ?_, unset, fun r sel => ?_, limit⟩, fun hub => ?_⟩
    · cases r
      · exact ref .refA
      · exact ref .refB
    · have on := selected r sel
      cases r <;> exact on
    · obtain ⟨r, sel, usable⟩ := follows hub
      refine ⟨r, sel, ?_⟩
      cases r <;> exact usable)

theorem Reference.switch_putDepth_sound {x : Reference} {on : Bool} {depth : Option (BitVec 32)}
    (carried : badRefDepth depth = false) (h : x.sound) : ((x.switch on).putDepth depth).sound := by
  have switched : (x.switch on).sound := by
    unfold Reference.switch Reference.restart
    split
    · split
      · exact Reference.endRun_sound (st := .absent) h rfl
      · exact h
    · split
      · exact h
      · exact Reference.endRun_sound (st := .off) h rfl
  cases depth with
  | none => exact switched
  | some d =>
    obtain ⟨_, rest⟩ := switched
    exact ⟨by simpa [badRefDepth, Reference.putDepth] using carried, rest⟩

/-- The enable setting never takes a selected reference out of its state, as OFF on it is refused (R13). -/
theorem Keeps.answerRefConfig (r : RefId) (switch : Byte) (reserved : BitVec 7) (depth : Option (BitVec 32)) :
    Keeps s (s.answerRefConfig r switch reserved depth).1 := by
  unfold State.answerRefConfig
  split
  · exact .refl s
  · next on _ =>
    split
    · exact .refl s
    · next values =>
      split
      · exact .refl s
      · next unused =>
        dsimp only
        refine Keeps.ok (.modTimebase fun h => ?_) _
        obtain ⟨steady, follows⟩ := s.timebase.sound_iff.mp h
        have carried : badRefDepth depth = false := by
          cases bad : badRefDepth depth
          · rfl
          · exact (values (.inr bad)).elim
        have sound := Reference.switch_putDepth_sound (on := on) carried (steady.ref r)
        have kept (sel : s.timebase.selection = some r) :
            (((s.timebase.ref r).switch on).putDepth depth).state = (s.timebase.ref r).state := by
          have enabled := steady.selected r sel
          have switched : (s.timebase.ref r).switch on = s.timebase.ref r := by
            cases on with
            | false => exact (unused ⟨rfl, enabled, sel⟩).elim
            | true => simp [Reference.switch, enabled]
          rw [switched]
          cases depth <;> rfl
        refine (Timebase.sound_iff _).mpr ⟨steady.setRef sound fun sel => by
          rw [kept sel]; exact steady.selected r sel, fun hub => ?_⟩
        rw [Timebase.setRef_hubState] at hub
        obtain ⟨q, sel, usable⟩ := follows hub
        refine ⟨q, by rw [Timebase.setRef_selection, sel], ?_⟩
        rw [Timebase.ref_setRef]
        split
        · next same =>
          subst same
          rw [kept sel, usable]
        · exact usable

theorem Keeps.answerHubConfig (switch : Byte) (reserved : BitVec 7) (limit : Option (BitVec 32)) :
    Keeps s (s.answerHubConfig switch reserved limit).1 := by
  unfold State.answerHubConfig
  split
  · exact .refl s
  · next on _ =>
    split
    · exact .refl s
    · have put : Keeps s (s.modTimebase fun t =>
          { t with autoSelect := on, stepLimit := newStepLimit limit t.stepLimit }) := by
        refine .modTimebase fun ⟨a, b, unset, selected, follows, range⟩ => ⟨a, b, unset, selected, follows, ?_⟩
        cases limit with
        | none => exact range
        | some v => exact ⟨clampNat_ge _ _ _, clampNat_le (by decide) _⟩
      dsimp only
      split
      · exact put.trans (.checkSelection _)
      · exact put

theorem Keeps.answerRefTarget (target switch : Byte) (reserved : BitVec 7) (value : Option (BitVec 32)) :
    Keeps s (s.answerRefTarget target switch reserved value).1 := by
  unfold State.answerRefTarget
  split
  · exact .answerRefConfig s _ _ _ _
  · exact .answerRefConfig s _ _ _ _
  · exact .answerHubConfig s _ _ _
  · exact .refl s

theorem Keeps.answerRefSelect (selection : Byte) : Keeps s (s.answerRefSelect selection).1 := by
  have named (r : RefId) : Keeps s (s.select r).1 := by
    unfold State.select
    split
    · next usable => exact .select s r usable
    · exact .refl s
  unfold State.answerRefSelect
  split
  · exact .deselect s
  · exact named _
  · exact named _
  · exact .refl s

/-! ## Links -/

theorem Keeps.putParameters (l : LinkId) (f : LinkFields) : Keeps s (s.modLink l (Link.putParameters f)) := by
  refine .modLink (fun ⟨size, head, off, request, probe, activity, carrier, asymmetry⟩ =>
    ⟨size, head, off, request, probe, ?_, ?_, ?_⟩) rfl
  · simp only [Link.putParameters]
    cases f.noActivity with
    | none => exact activity
    | some v => exact ⟨clampNat_ge _ _ _, clampNat_le (by decide) _⟩
  · simp only [Link.putParameters]
    cases f.carrierLoss with
    | none => exact carrier
    | some v => exact ⟨clampNat_ge _ _ _, clampNat_le (by decide) _⟩
  · simp only [Link.putParameters]
    cases f.asymmetry with
    | none => exact asymmetry
    | some v => exact ⟨clampInt_ge _ _ _, clampInt_le (by decide) _⟩

theorem Keeps.switchLink (l : LinkId) (on : Bool) : Keeps s (s.switchLink l on) := by
  unfold State.switchLink
  split
  · split
    · have down : Keeps s (s.modLink l fun x => { x with state := .down, noActivityDue := none, carrierDue := none }) :=
        .modLink (fun ⟨size, head, _, rest⟩ => ⟨size, head, nofun, rest⟩) rfl
      exact down
    · exact .refl s
  · split
    · exact .refl s
    · exact .disableLink s l

theorem Keeps.answerLinkConfig (link enable : Byte) (f : LinkFields) : Keeps s (s.answerLinkConfig link enable f).1 := by
  refine .onLink fun l => ?_
  split
  · exact .refl s
  · split
    · exact .refl s
    · exact ((Keeps.putParameters s l f).trans (.switchLink _ l _)).ok _

theorem Keeps.answerLinkStatus (link : Byte) (clear : Option Byte) : Keeps s (s.answerLinkStatus link clear).1 :=
  .onLink fun l => .onClear fun _ => .cleared (t := s.modLink l fun x =>
    { x with counters := LinkCounters.zero, lastFailure := none }) (.modLink id rfl)

theorem Keeps.answerLinkReset (link : Byte) : Keeps s (s.answerLinkReset link).1 := by
  refine .onLink fun l => ?_
  dsimp only [State.ok]
  refine (Keeps.resetLink s l).trans ?_
  unfold State.downAfterReset
  split
  · exact .refl _
  · next enabled =>
    have down : KeepsOn l (s.resetLink l) ((s.resetLink l).modLink l fun x => { x with state := .down }) :=
      .modLink (fun _ => nofun) (fun on ⟨size, head, _, rest⟩ => ⟨size, head, fun off => absurd off on, rest⟩) rfl
    have on : ((s.resetLink l).link l).state ≠ .off := by
      rw [State.resetLink_link, if_pos rfl]
      exact enabled
    dsimp only
    split
    · exact ((down.trans ((KeepsOn.pushControl _ _).trans (.raise _ _))) on).1
    · exact (down on).1

/-! ## Stations -/

theorem Keeps.answerStationBind (station link address rate components : Byte) :
    Keeps s (s.answerStationBind station link address rate components).1 := by
  refine .onStation fun i => ?_
  split
  · exact .refl s
  · next off =>
    split
    · exact .refl s
    · exact (Keeps.bind (Bool.eq_false_iff.mpr off) _).ok _

theorem Keeps.answerStationEnable (station : Byte) : Keeps s (s.answerStationEnable station).1 := by
  refine .onStation fun i => ?_
  split
  · exact .refl s
  · split
    · exact .refl s
    · next b bound =>
      split
      · exact .refl s
      · next free => exact (Keeps.enable bound free).ok _

theorem Keeps.answerStationDisable (station : Byte) : Keeps s (s.answerStationDisable station).1 := by
  refine .onStation fun i => ?_
  split
  · exact (Keeps.disableStation s i).ok _
  · exact .refl s

theorem Keeps.answerStationConfig (station : Byte) (f : SettingFields) : Keeps s (s.answerStationConfig station f).1 := by
  refine .onStation fun i => ?_
  dsimp only
  split
  · exact .refl s
  · next on =>
    have on : (s.station i).enabled = true := by simpa using on
    split
    · exact .refl s
    · next enumerated =>
      split
      · exact .refl s
      · next free =>
        refine (Keeps.configure _ on fun own => ?_).ok _
        obtain ⟨bound, range⟩ := own.1 on
        obtain ⟨b, bound⟩ := Option.isSome_iff_exists.mp bound
        have period : (s.station i).period = b.rate.period := by rw [Station.period, bound]
        rw [period] at range free ⊢
        exact StationConfig.apply_inRange b.rate range (Bool.eq_false_iff.mpr enumerated) (Bool.eq_false_iff.mpr free)

theorem Keeps.answerStationStats (station : Byte) (clear : Option Byte) :
    Keeps s (s.answerStationStats station clear).1 :=
  .onStation fun i => .onClear fun _ => .cleared (t := s.count i fun _ => StationCounters.zero) (.count s i _)

theorem clampCalibration_range (v : BitVec 32) :
    -calibrationLimit ≤ clampCalibration v ∧ clampCalibration v ≤ calibrationLimit :=
  ⟨clampInt_ge _ _ _, clampInt_le (by decide) _⟩

theorem Keeps.answerCalSet (station : Byte) (value : BitVec 32) : Keeps s (s.answerCalSet station value).1 := by
  refine .onStation fun i => ?_
  split
  · next on =>
    exact ((Keeps.putCalibration fun _ => ⟨on, clampCalibration_range value⟩).trans
      (Keeps.invalidateReservation _ i)).ok _
  · exact .refl s

theorem Keeps.answerCalReserve (p : PortId) (station : Byte) : Keeps s (s.answerCalReserve p station).1 := by
  refine .onStation fun i => ?_
  split
  · next on => exact (Keeps.setReservation (x := { port := p, station := i, staged := none }) rfl (fun _ => on) nofun).ok _
  · exact .refl s

/-- An entry names an enabled station (R59). -/
theorem State.reservationsSound.entry {s : State} (h : s.reservationsSound) {i : StationId} {x : Reservation}
    (held : s.reservation i = some x) : (s.station x.station).enabled = true ∧
      ∀ v, x.staged = some v → -calibrationLimit ≤ v ∧ v ≤ calibrationLimit :=
  (h (bankOf i) x held).2

theorem stageOutcome_staged {p : PortId} {i : StationId} {x : Option Reservation} (h : stageOutcome p i x = .staged) :
    ∃ y, x = some y ∧ y.station = i := by
  unfold stageOutcome at h
  split at h
  · cases h
  · next y =>
    split at h
    · cases h
    · split at h
      · next own => exact ⟨y, rfl, own.1⟩
      · cases h

theorem Keeps.answerCalStage (p : PortId) (station : Byte) (value : BitVec 32) :
    Keeps s (s.answerCalStage p station value).1 := by
  refine .onStation fun i => ?_
  split
  · next staged =>
    obtain ⟨y, held, own⟩ := stageOutcome_staged staged
    refine (Keeps.setReservation (x := { port := p, station := i, staged := some (clampCalibration value) }) rfl
      (fun sound => own ▸ (sound.entry held).1) fun v e => ?_).ok _
    cases e
    exact clampCalibration_range value
  · exact (Keeps.endReservation s i).ok _
  · exact .refl s

theorem applyOutcome_value {p : PortId} {i : StationId} {x : Option Reservation} {ends : Bool} {v : Int}
    (h : applyOutcome p i x = (ends, some v)) : ∃ y, x = some y ∧ y.station = i ∧ y.staged = some v := by
  unfold applyOutcome at h
  split at h
  · cases h
  · next y =>
    split at h
    · cases h
    · split at h
      · next own => exact ⟨y, rfl, own, (Prod.mk.inj h).2⟩
      · cases h

theorem Keeps.answerCalApply (p : PortId) (station : Byte) : Keeps s (s.answerCalApply p station).1 := by
  refine .onStation fun i => ?_
  have ended (t : State) (ends : Bool) : Keeps t (if ends then t.setReservation i none else t) := by
    split
    · exact .endReservation t i
    · exact .refl t
  split
  next ends value outcome =>
  dsimp only
  split
  · next v =>
    obtain ⟨y, held, own, staged⟩ := applyOutcome_value outcome
    have order : (if ends then s.setReservation i none else s).putCalibration i v =
        if ends then (s.putCalibration i v).setReservation i none else s.putCalibration i v := by
      cases ends <;> rfl
    show Keeps s ((if ends then s.setReservation i none else s).putCalibration i v)
    rw [order]
    refine (Keeps.putCalibration fun sound => ?_).trans (ended _ ends)
    have ⟨on, range⟩ := sound.entry held
    exact ⟨own ▸ on, range v staged⟩
  · exact ended s ends

theorem Keeps.answerProbeNow (station : Byte) : Keeps s (s.answerProbeNow station).1 := by
  refine .onStation fun i => ?_
  split
  · exact .refl s
  · split
    · exact .refl s
    · split
      · exact (Keeps.modStation (f := fun x => { x with mark := { x.mark with due := true, requested := true } })
          ⟨rfl, rfl, rfl⟩ id id).ok _
      · exact .refl s

/-! ## Epochs -/

theorem Keeps.answerEpochList (clear : Option Byte) : Keeps s (s.answerEpochList clear).1 :=
  .onGrid fun _ => .onClear fun _ => .cleared (t := s.modAssembler Assembler.clearCounters)
    ((s.modAssembler_frame _).keeps ⟨rfl, id, id⟩)

theorem Keeps.answerContribFetch (n : BitVec 64) (station : Byte) (position : BitVec 16) :
    Keeps s (s.answerContribFetch n station position).1 := by
  refine .onGrid fun _ => .onStation fun _ => .onEpoch fun _ => ?_
  split
  · exact .refl s
  · split <;> exact .refl s

theorem Keeps.answerEpochRelease (p : PortId) (n : BitVec 64) : Keeps s (s.answerEpochRelease p n).1 := by
  refine .onGrid fun _ => .onEpoch fun e => ?_
  split
  · exact .refl s
  · split
    · exact .refl s
    · have released : Keeps s (s.modEpoch e.number fun x => { x with released := x.released.add p }) :=
        (s.modEpoch_frame _ _).keeps (s.modEpoch_storeKeeps _ (fun _ => rfl) fun _ => rfl)
      dsimp only
      split
      · exact released.trans (.freeEpoch _ _)
      · exact released

/-- A port that unsubscribes is needed by no epoch, and what no port waits for is freed (R163). -/
theorem Keeps.unsubscribe (p : PortId) : Keeps s (s.unsubscribe p).1 := by
  unfold State.unsubscribe
  dsimp only
  have left : Keeps s (s.modPort p fun x => { x with subscribed := false }) := .modPort ⟨rfl, rfl, rfl, rfl, rfl⟩
  have removed (t : State) : Keeps t (t.modAssembler fun a =>
      { a with table := a.table.map fun e => { e with needed := e.needed.remove p } }) :=
    (t.modAssembler_frame _).keeps (State.modAssembler_storeKeeps rfl (fun _ => rfl) fun _ => rfl)
  exact ((left.trans (removed _)).trans (.freeReleased _)).ok _

theorem Keeps.answerSubscribe (p : PortId) (switch : Byte) : Keeps s (s.answerSubscribe p switch).1 := by
  unfold State.answerSubscribe
  split
  · exact .refl s
  · split
    · exact .refl s
    · split
      · exact (Keeps.modPort (f := fun x => { x with subscribed := true }) ⟨rfl, rfl, rfl, rfl, rfl⟩).ok _
      · exact .unsubscribe s p

/-! ## Ports -/

theorem Keeps.answerPartInfo (clear : Option Byte) : Keeps s (s.answerPartInfo clear).1 :=
  .onClear fun _ => .cleared (t := s.clearPart) ⟨⟨id, fun p => by cases p <;> exact ⟨rfl, rfl, rfl, rfl, rfl⟩, id, id, id,
    fun a b => ⟨a, b⟩, id, id, id⟩, id⟩

theorem Keeps.answerNoticeMask (p : PortId) (m : KindSwitches) : Keeps s (s.answerNoticeMask p m).1 := by
  unfold State.answerNoticeMask
  split
  · exact .refl s
  · next mask _ =>
    exact (Keeps.modPort (f := fun x => { x with mask := mask, notices := x.notices &&& mask })
      ⟨rfl, rfl, rfl, rfl, rfl⟩).ok _

theorem Keeps.answerNoticePoll (p : PortId) : Keeps s (s.answerNoticePoll p).1 :=
  (Keeps.modPort (f := fun x => { x with notices := 0 }) ⟨rfl, rfl, rfl, rfl, rfl⟩).ok _

theorem Keeps.setFaults (record : Option FaultRecord) {count : Nat} (small : s.faultCount ≤ 255 → count ≤ 255) :
    Keeps s { s with faultRecord := record, faultCount := count } :=
  ⟨⟨id, fun _ => .refl _, small, id, id, fun a b => ⟨a, b⟩, id, id, id⟩, id⟩

theorem Keeps.notPermitted (p : PortId) (r : Request) : Keeps s (s.notPermitted p r).1 :=
  (Keeps.setFaults s _ fun _ => min_le_right _ _).trans (.raise _ _)

/-- A request handed to its owner (R182, step 4). -/
theorem Keeps.answer (p : PortId) (r : Request) : Keeps s (s.answer p r).1 := by
  cases r with
  | partInfo c => exact .answerPartInfo s c
  | partReset => exact .refl s
  | gridSet e o res l => exact .answerGridSet s e o res l
  | gridGet => exact .onGrid fun _ => .refl s
  | timebaseStatus c => exact .answerTimebaseStatus s c
  | refConfig t sw res v => exact .answerRefTarget s t sw res v
  | refSelect x => exact .answerRefSelect s x
  | linkConfig l en f => exact .answerLinkConfig s l en f
  | linkStatus l c => exact .answerLinkStatus s l c
  | linkReset l => exact .answerLinkReset s l
  | stationBind i l a rate c => exact .answerStationBind s i l a rate c
  | stationEnable i => exact .answerStationEnable s i
  | stationDisable i => exact .answerStationDisable s i
  | stationConfig i f => exact .answerStationConfig s i f
  | stationStatus i => exact .onStation fun _ => .refl s
  | stationStats i c => exact .answerStationStats s i c
  | calSet i v => exact .answerCalSet s i v
  | calReserve i => exact .answerCalReserve s p i
  | calStage i v => exact .answerCalStage s p i v
  | calApply i => exact .answerCalApply s p i
  | probeNow i => exact .answerProbeNow s i
  | epochList c => exact .answerEpochList s c
  | epochSummary n => exact .onGrid fun _ => .onEpoch fun _ => .refl s
  | contribFetch n i k => exact .answerContribFetch s n i k
  | epochRelease n => exact .answerEpochRelease s p n
  | subscribe sw => exact .answerSubscribe s p sw
  | noticeMask m => exact .answerNoticeMask s p m
  | noticePoll => exact .answerNoticePoll s p
  | faultRead => exact .refl s
  | faultClear => exact .setFaults s none fun _ => Nat.zero_le _

/-- A request served: refused at the role test, or handed to its owner (R182, R189). -/
theorem Keeps.serve (p : PortId) (r : Request) : Keeps s (s.serve p r).1 := by
  unfold State.serve
  split
  · exact .notPermitted s p r
  · exact .answer s p r

end Requests

end Sys2Proof.Machine
end

section
/-! PROOF. The message ports (R179 to R192), the end of an event, time, and every step: every invariant is kept. -/

namespace Sys2Proof.Machine

/-! ## What a port's own machinery keeps -/

/-- Every invariant but that of the ports is kept. -/
structure PartsKept (s t : State) : Prop where
  timebase : s.timebase.sound → t.timebase.sound
  faultCount : s.faultCount ≤ 255 → t.faultCount ≤ 255
  links : s.linksSound → t.linksSound
  waiting : s.waitingSound → t.waitingSound
  table : s.tableSound → s.reservationsSound → t.tableSound ∧ t.reservationsSound
  clocks : s.clocksSound → t.clocksSound
  tracking : s.trackingSound → t.trackingSound
  pool : s.poolSound → t.poolSound
  slots : s.slotsSound → t.slotsSound

/-- Every invariant is kept. -/
structure Kept (s t : State) : Prop extends PartsKept s t where
  ports : s.portsSound → t.portsSound

theorem Keeps.parts {s t : State} (h : Keeps s t) : PartsKept s t :=
  ⟨h.timebase, h.faultCount, h.links, h.waiting, h.table, h.clocks, h.tracking, h.pool, h.slots⟩

theorem PartsKept.refl (s : State) : PartsKept s s := (Keeps.refl s).parts

theorem PartsKept.trans {s t u : State} (h : PartsKept s t) (k : PartsKept t u) : PartsKept s u :=
  ⟨k.timebase ∘ h.timebase, k.faultCount ∘ h.faultCount, k.links ∘ h.links, k.waiting ∘ h.waiting,
    fun a b => k.table (h.table a b).1 (h.table a b).2, k.clocks ∘ h.clocks, k.tracking ∘ h.tracking, k.pool ∘ h.pool,
    k.slots ∘ h.slots⟩

/-- A change of a port alone. -/
theorem PartsKept.modPort (s : State) (p : PortId) (f : Port → Port) : PartsKept s (s.modPort p f) := by
  cases p <;> exact ⟨id, id, id, id, fun a b => ⟨a, b⟩, id, id, id, id⟩

theorem Kept.refl (s : State) : Kept s s := ⟨.refl s, id⟩

theorem Kept.trans {s t u : State} (h : Kept s t) (k : Kept t u) : Kept s u :=
  ⟨h.toPartsKept.trans k.toPartsKept, k.ports ∘ h.ports⟩

/-- Every port keeps its role, and is sound when it was. -/
theorem PartsKept.kept {s t : State} (h : PartsKept s t)
    (port : ∀ p, (t.port p).role = (s.port p).role ∧ ((s.port p).sound → (t.port p).sound)) : Kept s t := by
  refine ⟨h, fun ⟨mp0, mp1, role, count⟩ => ⟨(port .mp0).2 mp0, (port .mp1).2 mp1, ?_, h.faultCount count⟩⟩
  exact (port .mp0).1.trans role

theorem Keeps.kept {s t : State} (h : Keeps s t) : Kept s t :=
  h.parts.kept fun p => ⟨(h.port p).role, (h.port p).sound⟩

/-- A change of port p that keeps its role, and its soundness. -/
theorem Kept.modPort {s : State} {p : PortId} {f : Port → Port} (role : (f (s.port p)).role = (s.port p).role)
    (sound : (s.port p).sound → (f (s.port p)).sound) : Kept s (s.modPort p f) := by
  refine (PartsKept.modPort s p f).kept fun q => ?_
  by_cases e : p = q
  · subst e
    rw [State.modPort_self]
    exact ⟨role, sound⟩
  · rw [State.modPort_ne s f e]
    exact ⟨rfl, id⟩

/-! ## Requests taken (R182, R183) -/

/-- An answer has become the pending reply of port p. -/
structure Replied (p : PortId) (s t : State) : Prop where
  parts : PartsKept s t
  others : ∀ q, p ≠ q → Port.SameLine (s.port q) (t.port q)
  role : (t.port p).role = (s.port p).role
  buffer : (t.port p).buffer = (s.port p).buffer
  line : (t.port p).line = (s.port p).line
  reply : (t.port p).reply.isSome = true

theorem Replied.of_answer {p : PortId} {s : State} {a : Answer} (h : Keeps s a.1) (kind : Byte) (tag : BitVec 16) :
    Replied p s (State.reply p kind tag a) := by
  unfold State.reply
  refine ⟨h.parts.trans (.modPort _ p _), fun q e => ?_, ?_, ?_, ?_, ?_⟩
  · rw [State.modPort_ne _ _ e]; exact h.port q
  · rw [State.modPort_self]; exact (h.port p).role
  · rw [State.modPort_self]; exact (h.port p).buffer
  · rw [State.modPort_self]; exact (h.port p).line
  · rw [State.modPort_self]; rfl

theorem State.takeFrame_replied (p : PortId) (f : Frame) (s : State) : Replied p s (s.takeFrame p f) := by
  unfold State.takeFrame
  split
  · exact .of_answer (.refl s) _ _
  · exact .of_answer (.refl s) _ _
  · exact .of_answer (.serve s p _) _ _

/-- A port with a reply pending is sound when its buffer holds four frames at most. -/
theorem Port.sound_of_reply {x : Port} (size : x.buffer.length ≤ bufferSize) (reply : x.reply.isSome = true) : x.sound :=
  ⟨size, fun none => (by rw [none] at reply; cases reply), fun _ => reply⟩

theorem Replied.kept {p : PortId} {s t : State} (h : Replied p s t) : Kept s t := by
  refine h.parts.kept fun q => ?_
  by_cases e : p = q
  · subst e
    exact ⟨h.role, fun sound => Port.sound_of_reply (by rw [h.buffer]; exact sound.1) h.reply⟩
  · exact ⟨(h.others q e).role, (h.others q e).sound⟩

/-- A port whose buffer and line are sound takes the frame at the head of its buffer, and is sound (R182). -/
theorem State.takeNext_port (p : PortId) (s : State) (size : (s.port p).buffer.length ≤ bufferSize)
    (sends : (s.port p).line = .reply → (s.port p).reply.isSome = true) : ((s.takeNext p).port p).sound := by
  unfold State.takeNext
  split
  · next f rest _ buffer =>
    have taken := State.takeFrame_replied p f (s.modPort p fun x => { x with buffer := rest })
    refine Port.sound_of_reply ?_ taken.reply
    rw [taken.buffer, State.modPort_self]
    rw [buffer] at size
    exact (Nat.le_succ _).trans size
  · next other =>
    refine ⟨size, fun none => ?_, sends⟩
    cases buffer : (s.port p).buffer with
    | nil => rfl
    | cons f rest => exact (other f rest none buffer).elim

theorem State.takeNext_rest (p : PortId) (s : State) : PartsKept s (s.takeNext p) ∧
    ((s.takeNext p).port p).role = (s.port p).role ∧ ∀ q, p ≠ q → Port.SameLine (s.port q) ((s.takeNext p).port q) := by
  unfold State.takeNext
  split
  · next f rest _ _ =>
    have taken := State.takeFrame_replied p f (s.modPort p fun x => { x with buffer := rest })
    refine ⟨(PartsKept.modPort s p _).trans taken.parts, ?_, fun q e => ?_⟩
    · rw [taken.role, State.modPort_self]
    · have same := taken.others q e
      rwa [State.modPort_ne _ _ e] at same
  · exact ⟨.refl s, rfl, fun _ _ => .refl _⟩

/-- A change of port p after which it takes the frame at the head of its buffer. -/
theorem Kept.takeNext {s : State} {p : PortId} {f : Port → Port} (role : (f (s.port p)).role = (s.port p).role)
    (sound : (s.port p).sound → (f (s.port p)).buffer.length ≤ bufferSize ∧
      ((f (s.port p)).line = .reply → (f (s.port p)).reply.isSome = true)) : Kept s ((s.modPort p f).takeNext p) := by
  obtain ⟨parts, kept, others⟩ := State.takeNext_rest p (s.modPort p f)
  refine ((PartsKept.modPort s p f).trans parts).kept fun q => ?_
  by_cases e : p = q
  · subst e
    refine ⟨by rw [kept, State.modPort_self, role], fun h => ?_⟩
    obtain ⟨size, sends⟩ := sound h
    exact State.takeNext_port p _ (by rw [State.modPort_self]; exact size) (by rw [State.modPort_self]; exact sends)
  · have same := others q e
    rw [State.modPort_ne _ _ e] at same
    exact ⟨same.role, same.sound⟩

/-! ## The receiver (R180, R181) -/

section Receiver

variable (p : PortId)

/-- A change of a port that its soundness does not speak of. -/
theorem Kept.modPort_quiet (s : State) {f : Port → Port} (role : ∀ x, (f x).role = x.role)
    (buffer : ∀ x, (f x).buffer = x.buffer) (reply : ∀ x, (f x).reply = x.reply) (line : ∀ x, (f x).line = x.line) :
    Kept s (s.modPort p f) :=
  .modPort (role _) fun ⟨size, idle, sends⟩ => ⟨by rw [buffer]; exact size, by rw [reply, buffer]; exact idle,
    by rw [line, reply]; exact sends⟩

theorem Kept.badFrame (s : State) : Kept s (s.badFrame p) :=
  .modPort_quiet p s (fun _ => rfl) (fun _ => rfl) (fun _ => rfl) fun _ => rfl

theorem Kept.receive (s : State) (r : Receiver) : Kept s (s.modPort p fun x => { x with receiver := r }) :=
  .modPort_quiet p s (fun _ => rfl) (fun _ => rfl) (fun _ => rfl) fun _ => rfl

theorem Kept.frameArrives (f : Frame) (s : State) : Kept s (s.frameArrives p f) := by
  unfold State.frameArrives
  dsimp only
  have counted : Kept s (s.modPort p fun x => { x with accepted := bump x.accepted }) :=
    .modPort_quiet p s (fun _ => rfl) (fun _ => rfl) (fun _ => rfl) fun _ => rfl
  split
  · next room =>
    exact counted.trans (.takeNext (f := fun x => { x with buffer := x.buffer ++ [f] }) rfl fun ⟨_, _, sends⟩ =>
      ⟨by simpa using room, sends⟩)
  · exact counted.trans (.modPort_quiet p _ (fun _ => rfl) (fun _ => rfl) (fun _ => rfl) fun _ => rfl)

theorem Kept.requestArrives (tag : BitVec 16) (r : Request) (s : State) : Kept s (s.requestArrives p tag r) := by
  unfold State.requestArrives
  dsimp only
  have hunting := Kept.receive p s (.hunting false)
  refine hunting.trans ?_
  split
  · have counted (t : State) : Kept t (t.modPort p fun x => { x with accepted := bump x.accepted }) :=
      .modPort_quiet p t (fun _ => rfl) (fun _ => rfl) (fun _ => rfl) fun _ => rfl
    exact (counted _).trans (Replied.of_answer (.serve _ p r) _ _).kept
  · exact .frameArrives p _ _

theorem Kept.portByte (s : State) (b : Byte) : Kept s (State.portByte p s b) := by
  unfold State.portByte
  split
  · split
    · exact .receive p s _
    · exact .receive p s _
  · dsimp only
    split
    · exact .badFrame p s
    · split
      · unfold State.frameEnds
        dsimp only
        split
        · exact (Kept.receive p s _).trans (.frameArrives p _ _)
        · exact .badFrame p s
      · exact .receive p s _

theorem Kept.foldl {α : Type} {f : State → α → State} (h : ∀ s x, Kept s (f s x)) :
    ∀ (l : List α) (s : State), Kept s (l.foldl f s)
  | [], s => .refl s
  | x :: xs, s => (h s x).trans (Kept.foldl h xs (f s x))

theorem Kept.portBytes (s : State) (bytes : List Byte) : Kept s (s.portBytes p bytes) :=
  .foldl (Kept.portByte p) bytes s

theorem Kept.byteTimeoutOut (s : State) : Kept s (s.byteTimeoutOut p) := by
  unfold State.byteTimeoutOut
  split
  · exact .refl s
  · split
    · exact .badFrame p s
    · exact .refl s

end Receiver

/-! ## Resets (R191, R192) -/

/-- The part at its power-on values meets every invariant. -/
theorem State.powerOn_sound (role1 : Bool) :
    let s := State.powerOn role1
    s.timebase.sound ∧ s.portsSound ∧ s.linksSound ∧ s.waitingSound ∧ s.tableSound ∧ s.reservationsSound ∧
      s.clocksSound ∧ s.trackingSound ∧ s.poolSound ∧ s.slotsSound := by
  have link (l : LinkId) : (State.powerOn role1).link l = Link.initial := by simp [State.link, State.powerOn]
  have station (i : StationId) : (State.powerOn role1).station i = Station.initial := by
    simp [State.station, State.powerOn]
  have port (r : Role) : (Port.initial r).sound := ⟨Nat.zero_le _, fun _ => rfl, nofun⟩
  have step : 1000 ≤ (10000 : Nat) ∧ (10000 : Nat) ≤ 1000000 := by decide
  have ref : Reference.initial.sound := Reference.sound_of_idle (by decide) rfl rfl rfl
  refine ⟨⟨ref, ref, fun _ => rfl, nofun, nofun, step.1, step.2⟩, ⟨port _, port _, rfl, Nat.zero_le _⟩, fun l => ?_,
    ⟨List.nodup_nil, fun l => ?_⟩, ⟨fun i => ?_, fun i j on => ?_⟩, fun b x entry => ?_, fun i => ?_, fun i => ?_,
    ⟨⟨Nat.zero_le _, .nil⟩, rfl⟩, ⟨.nil, nofun⟩⟩
  · rw [link]
    exact ⟨Nat.zero_le _, nofun, fun _ => ⟨rfl, rfl, rfl, rfl, rfl, rfl, rfl⟩, by decide, by decide, by decide, by decide,
      by decide⟩
  · rw [link]
    exact ⟨nofun, nofun⟩
  · rw [station]
    exact ⟨nofun, fun _ => rfl⟩
  · rw [station] at on
    cases on
  · simp [State.powerOn] at entry
  · rw [station]
    exact Clock.initial_sound _
  · rw [station]
    exact Tracker.initial_sound

/-- A state that differs from one at power-on values in its ports and its queue alone. -/
theorem Kept.of_powerOn {s t : State} (role1 : Bool)
    (same : t = { State.powerOn role1 with mp0 := t.mp0, mp1 := t.mp1, pending := t.pending })
    (ports : s.portsSound → t.portsSound) : Kept s t := by
  obtain ⟨timebase, ⟨_, _, _, count⟩, links, waiting, table, reservations, clocks, tracking, pool, slots⟩ :=
    State.powerOn_sound role1
  rw [same] at ports ⊢
  exact ⟨⟨fun _ => timebase, fun _ => count, fun _ => links, fun _ => waiting, fun _ _ => ⟨table, reservations⟩,
    fun _ => clocks, fun _ => tracking, fun _ => pool, fun _ => slots⟩, ports⟩

theorem Kept.powerOn (s : State) (role1 : Bool) (pending : List Instr) :
    Kept s { State.powerOn role1 with pending := pending } :=
  .of_powerOn role1 rfl fun _ => (State.powerOn_sound role1).2.1

theorem Kept.partReset (s : State) : Kept s s.partReset := by
  refine .of_powerOn false rfl fun ⟨_, _, role, _⟩ => ?_
  have port (r : Role) : (Port.initial r).sound := ⟨Nat.zero_le _, fun _ => rfl, nofun⟩
  exact ⟨port _, port _, role, Nat.zero_le _⟩

/-- The reset input low: both lines free, both receivers hunting (R192). -/
theorem Kept.stop (s : State) : Kept s { s with held := true, mp0 := s.mp0.stop, mp1 := s.mp1.stop } := by
  refine ⟨⟨id, id, id, id, fun a b => ⟨a, b⟩, id, id, id, id⟩, fun ⟨⟨size, idle, _⟩, ⟨size', idle', _⟩, role, count⟩ => ?_⟩
  exact ⟨⟨size, idle, nofun⟩, ⟨size', idle', nofun⟩, role, count⟩

/-! ## The end of a reply or NOTICE (R184) -/

theorem Kept.replySent (p : PortId) (s : State) : Kept s (s.replySent p) := by
  unfold State.replySent
  split
  · split
    · exact .partReset s
    · exact .takeNext (f := fun x => { x with reply := none, line := .free, repliesSent := bump x.repliesSent }) rfl
        fun ⟨size, _, _⟩ => ⟨size, nofun⟩
  · exact .refl s

theorem Kept.noticeSent (p : PortId) (s : State) : Kept s (s.noticeSent p) := by
  unfold State.noticeSent
  split
  · exact .modPort rfl fun ⟨size, idle, _⟩ => ⟨size, idle, nofun⟩
  · exact .refl s
  · exact .refl s

/-! ## Time and the end of an event -/

theorem Keeps.advance (s : State) (dt : Nat) : Keeps s (s.advance dt) := by
  unfold State.advance
  refine .modTimebase fun ⟨a, b, unset, rest⟩ => ⟨a, b, fun hub => ?_, rest⟩
  have hub : s.timebase.hubState = .unset := hub
  simp only [hub]
  exact unset hub

theorem Port.choose_sound {x : Port} (h : x.sound) (now : Nat) : (x.choose now).sound := by
  obtain ⟨size, idle, sends⟩ := h
  unfold Port.choose
  split
  · split
    · next pending => exact ⟨size, idle, fun _ => pending⟩
    · split
      · exact ⟨size, idle, nofun⟩
      · exact ⟨size, idle, sends⟩
  · exact ⟨size, idle, sends⟩
  · exact ⟨size, idle, sends⟩

theorem Port.choose_role (x : Port) (now : Nat) : (x.choose now).role = x.role := by
  unfold Port.choose
  split
  · split
    · rfl
    · split <;> rfl
  · rfl
  · rfl

theorem Kept.endEvent (s : State) : Kept s s.endEvent := by
  refine ⟨⟨id, id, id, id, fun a b => ⟨a, b⟩, id, id, id, id⟩, fun ⟨mp0, mp1, role, count⟩ => ?_⟩
  exact ⟨Port.choose_sound mp0 _, Port.choose_sound mp1 _, (Port.choose_role _ _).trans role, count⟩

/-- A command that is one event keeps what its body keeps. -/
theorem Kept.event {s t : State} {dt : Nat} {body : State → State} (h : ∀ s, Kept s (body s))
    (run : s.event dt body = .next t) : Kept s t := by
  unfold State.event at run
  split at run
  · cases run; exact .refl s
  · cases run
    exact ((Keeps.advance s dt).kept.trans (h _)).trans (.endEvent _)

/-- A command whose body keeps every invariant and the ports' lines. -/
theorem Keeps.event {s t : State} {dt : Nat} {body : State → State} (h : ∀ s, Keeps s (body s))
    (run : s.event dt body = .next t) : Kept s t := Kept.event (fun s => (h s).kept) run

/-! ## Stations' timers and the timebase's commands -/

section Timers

variable (s : State)

theorem Keeps.holdExpires (i : StationId) : Keeps s (s.holdExpires i) := by
  unfold State.holdExpires
  split
  · exact (Keeps.giveUp i s).trans (.evalCompletion _)
  · exact .refl s

theorem Keeps.probeFallsDue (i : StationId) : Keeps s (s.probeFallsDue i) := by
  unfold State.probeFallsDue
  split
  · exact .modStation ⟨rfl, rfl, rfl⟩ id id
  · exact .refl s

theorem Keeps.silenceExpires (i : StationId) : Keeps s (s.silenceExpires i) := by
  unfold State.silenceExpires
  dsimp only
  split
  · next h => exact .putClock fun sound => Clock.silenceOut_sound sound h.1
  · exact .refl s

theorem Keeps.holdoverExpires (i : StationId) : Keeps s (s.holdoverExpires i) := by
  unfold State.holdoverExpires
  dsimp only
  split
  · next h =>
    refine .putClock fun sound => Clock.holdoverOut_sound sound fun unset => ?_
    rw [unset] at h
    cases h.1
  · exact .refl s

theorem Keeps.refMessage (r : RefId) (intact locked : Bool) (second : Nat) :
    Keeps s (s.modRef r (Reference.message intact locked second)) := by
  refine .modRef s r (fun sound => ?_) ?_
  · unfold Reference.message
    split
    · exact sound
    · split <;> exact sound
  · unfold Reference.message
    split
    · rfl
    · split <;> rfl

end Timers

end Sys2Proof.Machine
end

section
/-! PROOF. Every step keeps every invariant: O55 to O60. -/

namespace Sys2Proof.Machine

/-- Every command keeps every invariant. -/
theorem Kept.exec {c : Instr} {s t : State} (run : exec c s = .next t) : Kept s t := by
  cases c with
  | powerOnReset role1 => cases run; exact .powerOn s role1 _
  | frameComplete dt p bytes => exact .event (Kept.portBytes p · bytes) run
  | frameByteTimeout dt p => exact .event (Kept.byteTimeoutOut p) run
  | replySent dt p => exact .event (Kept.replySent p) run
  | noticeSent dt p => exact .event (Kept.noticeSent p) run
  | partInfo dt p tag clear => exact .event (Kept.requestArrives p tag _) run
  | partReset dt p tag => exact .event (Kept.requestArrives p tag _) run
  | gridSet dt p tag e o reserved l => exact .event (Kept.requestArrives p tag _) run
  | gridGet dt p tag => exact .event (Kept.requestArrives p tag _) run
  | timebaseStatus dt p tag clear => exact .event (Kept.requestArrives p tag _) run
  | refConfigReference dt p tag r switch reserved depth => exact .event (Kept.requestArrives p tag _) run
  | refConfigHub dt p tag switch reserved limit => exact .event (Kept.requestArrives p tag _) run
  | refSelect dt p tag selection => exact .event (Kept.requestArrives p tag _) run
  | linkConfig dt p tag link enable fields => exact .event (Kept.requestArrives p tag _) run
  | linkStatus dt p tag link clear => exact .event (Kept.requestArrives p tag _) run
  | linkReset dt p tag link => exact .event (Kept.requestArrives p tag _) run
  | stationBind dt p tag station link address rate components => exact .event (Kept.requestArrives p tag _) run
  | stationEnable dt p tag station => exact .event (Kept.requestArrives p tag _) run
  | stationDisable dt p tag station => exact .event (Kept.requestArrives p tag _) run
  | stationConfig dt p tag station fields => exact .event (Kept.requestArrives p tag _) run
  | stationStatus dt p tag station => exact .event (Kept.requestArrives p tag _) run
  | stationStats dt p tag station clear => exact .event (Kept.requestArrives p tag _) run
  | calSet dt p tag station value => exact .event (Kept.requestArrives p tag _) run
  | calReserve dt p tag station => exact .event (Kept.requestArrives p tag _) run
  | calStage dt p tag station value => exact .event (Kept.requestArrives p tag _) run
  | calApply dt p tag station => exact .event (Kept.requestArrives p tag _) run
  | probeNow dt p tag station => exact .event (Kept.requestArrives p tag _) run
  | epochList dt p tag clear => exact .event (Kept.requestArrives p tag _) run
  | epochSummary dt p tag epoch => exact .event (Kept.requestArrives p tag _) run
  | contribFetch dt p tag epoch station position => exact .event (Kept.requestArrives p tag _) run
  | epochRelease dt p tag epoch => exact .event (Kept.requestArrives p tag _) run
  | subscribe dt p tag switch => exact .event (Kept.requestArrives p tag _) run
  | noticeMask dt p tag switches => exact .event (Kept.requestArrives p tag _) run
  | noticePoll dt p tag => exact .event (Kept.requestArrives p tag _) run
  | faultRead dt p tag => exact .event (Kept.requestArrives p tag _) run
  | faultClear dt p tag => exact .event (Kept.requestArrives p tag _) run
  | refMessage dt r intact locked second => exact Keeps.event (Keeps.refMessage · r intact locked second) run
  | refPulse dt r => exact Keeps.event (Keeps.pulse · r) run
  | pulseWindowExpiry dt r => exact Keeps.event (Keeps.windowExpiry · r) run
  | epochDeadline dt => exact Keeps.event Keeps.closeDeadlines run
  | burstOpen dt l bytes => exact Keeps.event (Keeps.linkBytes · l _) run
  | burstClose dt l bytes => exact Keeps.event (Keeps.linkBytes · l _) run
  | burstByteLimit dt l bytes => exact Keeps.event (Keeps.linkBytes · l _) run
  | carrierFall dt l bytes => exact Keeps.event (Keeps.carrierFalls · l bytes) run
  | carrierRise dt l => exact Keeps.event (Keeps.stopCarrier · l) run
  | carrierLossTimeout dt l => exact Keeps.event (Keeps.carrierOut · l) run
  | noActivityTimeout dt l => exact Keeps.event (Keeps.fallSilent · l) run
  | headData dt l => exact Keeps.event (Keeps.headData · l) run
  | headMark dt l => exact Keeps.event (Keeps.headMark · l) run
  | headEcho dt l => exact Keeps.event (Keeps.headEcho · l) run
  | headFillEnd dt l => exact Keeps.event (Keeps.headFillEnd · l) run
  | headRestart dt l => exact Keeps.event (Keeps.headRestart · l) run
  | headDamaged dt l => exact Keeps.event (Keeps.headDamaged · l) run
  | headBurstFail dt l => exact Keeps.event (Keeps.headBurstFail · l) run
  | headLinkUp dt l => exact Keeps.event (Keeps.headLinkUp · l) run
  | headLinkDown dt l => exact Keeps.event (Keeps.headLinkDown · l) run
  | outboundFrameDone dt l => exact Keeps.event (Keeps.dropFrame · l) run
  | backfillGrant dt l => exact Keeps.event (Keeps.tryBackfill · l) run
  | probeGrant dt l => exact Keeps.event (Keeps.tryProbe · l) run
  | backfillResponseTimeout dt l => exact Keeps.event (Keeps.responseTimesOut · l) run
  | probeExpiry dt l => exact Keeps.event (Keeps.probeExpires · l) run
  | holdTimerExpiry dt i => exact Keeps.event (Keeps.holdExpires · i) run
  | probeDue dt i => exact Keeps.event (Keeps.probeFallsDue · i) run
  | silenceTimerExpiry dt i => exact Keeps.event (Keeps.silenceExpires · i) run
  | holdoverTimerExpiry dt i => exact Keeps.event (Keeps.holdoverExpires · i) run
  | waitingListServe dt => exact Keeps.event (fun s => Keeps.serveWaiting _ s) run
  | frameLengthOverLimit dt p bytes => exact .event (Kept.portBytes p · bytes) run
  | resetInputAsserted dt =>
    have stopped : execResetInputAsserted dt s = .next t := run
    unfold execResetInputAsserted at stopped
    split at stopped
    · cases stopped; exact .refl s
    · cases stopped
      exact (Keeps.advance s dt).kept.trans (.stop _)

/-- Every step keeps every invariant. -/
theorem Kept.step {s t : State} (run : step s = .next t) : Kept s t := by
  unfold Machine.step at run
  split at run
  · next c rest _ =>
    have kept : Kept { s with pending := rest } t := .exec run
    exact ⟨⟨kept.timebase, kept.faultCount, kept.links, kept.waiting, kept.table, kept.clocks, kept.tracking, kept.pool,
      kept.slots⟩, kept.ports⟩
  · cases run
    unfold State.idle
    split
    · exact .refl s
    · exact (Keeps.advance s _).kept

/-- Settles O55, by `Kept.step`. -/
theorem timebaseAndPortsStaySound : Obligations.TimebaseAndPortsStaySound :=
  fun _ _ run => ⟨(Kept.step run).timebase, (Kept.step run).ports⟩

/-- Settles O56, by `Kept.step`. -/
theorem linksAndWaitingListStaySound : Obligations.LinksAndWaitingListStaySound :=
  fun _ _ run => ⟨(Kept.step run).links, (Kept.step run).waiting⟩

/-- Settles O57, by `Kept.step`. -/
theorem stationsAndClocksStaySound : Obligations.StationsAndClocksStaySound :=
  fun _ _ run => ⟨(Kept.step run).table, (Kept.step run).clocks⟩

/-- Settles O58, by `Kept.step`. -/
theorem trackingStaysSound : Obligations.TrackingStaysSound := fun _ _ run => (Kept.step run).tracking

/-- Settles O59, by `Kept.step`. -/
theorem poolAndSlotsStaySound : Obligations.PoolAndSlotsStaySound :=
  fun _ _ run => ⟨(Kept.step run).pool, (Kept.step run).slots⟩

/-- Settles O60, as the reset state is the power-on state with the board's role. -/
theorem resetIsSound : Obligations.ResetIsSound := State.powerOn_sound _

end Sys2Proof.Machine
end

section
/-! PROOF. Steps, resets and the coding of requests: O1 to O4. -/

namespace Sys2Proof.Machine

/-! ## Steps and resets -/

/-- Settles O1, by the branches of `step` and `State.idle`. -/
theorem stepRunsTheFrontCommand : Obligations.StepRunsTheFrontCommand := by
  refine ⟨fun c rest s => rfl, fun s empty running => ?_, fun s empty held => ?_⟩
  · simp only [step, empty, State.idle, running, Bool.false_eq_true, if_false]
    cases hub : s.timebase.hubState <;> simp [State.advance, State.modTimebase, idleNs, hub, running, empty]
  · simp only [step, empty, State.idle, held, if_true]

/-- Settles O2: every command but POWER_ON_RESET is an event, which a held part does not take. -/
theorem resetInputStopsThePart : Obligations.ResetInputStopsThePart := by
  refine ⟨fun dt s running => ?_, fun c s held other => ?_⟩
  · show execResetInputAsserted dt s = _
    simp only [execResetInputAsserted, running, Bool.false_eq_true, if_false]
    rfl
  · cases c with
    | powerOnReset r => exact absurd rfl (other r)
    | _ => exact if_pos held

/-- Settles O3: the values of `State.powerOn`. -/
theorem powerOnResetGivesTheResetValues : Obligations.PowerOnResetGivesTheResetValues := by
  intro role1 s
  have link (l : LinkId) : ({ State.powerOn role1 with pending := s.pending } : State).link l = Link.initial := by
    simp [State.link, State.powerOn]
  have station (i : StationId) :
      ({ State.powerOn role1 with pending := s.pending } : State).station i = Station.initial := by
    simp [State.station, State.powerOn]
  refine ⟨{ State.powerOn role1 with pending := s.pending }, rfl, rfl, rfl, ⟨rfl, rfl, rfl, rfl, rfl, rfl, rfl, rfl, rfl⟩,
    fun r => ?_, fun l => ?_, fun i => ?_, fun b => ?_, rfl, rfl, fun p => ?_, rfl, rfl⟩
  · cases r <;> exact ⟨rfl, rfl, rfl, rfl, rfl, rfl, rfl, rfl, rfl, rfl, rfl, rfl⟩
  · rw [link]; rfl
  · rw [station]; exact ⟨rfl, rfl, rfl, rfl, rfl, rfl, rfl, rfl, rfl, rfl⟩
  · simp [State.powerOn]
  · cases p <;> cases role1 <;> rfl

/-! ## Bodies written back from the requests read from them (R182, R194) -/

/-- The bytes of a number are those of its low bytes. -/
theorem be_congr {k v w : Nat} (same : v % 256 ^ k = w % 256 ^ k) : be k v = be k w := by
  induction k with
  | zero => rfl
  | succ k ih =>
    have split (x : Nat) : x % 256 ^ (k + 1) = x % 256 ^ k + 256 ^ k * (x / 256 ^ k % 256) := Nat.mod_pow_succ
    have down : v % 256 ^ k = w % 256 ^ k := by
      rw [← Nat.mod_mod_of_dvd v (pow_dvd_pow 256 (Nat.le_succ k)), same,
        Nat.mod_mod_of_dvd w (pow_dvd_pow 256 (Nat.le_succ k))]
    have digit : v / 256 ^ k % 256 = w / 256 ^ k % 256 := by
      rw [split v, split w, down] at same
      exact Nat.eq_of_mul_eq_mul_left (by positivity) (Nat.add_left_cancel same)
    rw [be, be, ih down]
    congr 1
    exact BitVec.eq_of_toNat_eq (by simpa using digit)

/-- Bytes are those of the number they spell. -/
theorem be_ofBe (l : List Byte) : be l.length (ofBe l) = l := by
  induction l with
  | nil => rfl
  | cons b l ih =>
    have small : ofBe l < 256 ^ l.length := by
      have fits := ofBe_be l.length (ofBe l)
      rw [ih] at fits
      rw [fits]
      exact Nat.mod_lt _ (by positivity)
    have high : (b.toNat * 256 ^ l.length + ofBe l) / 256 ^ l.length = b.toNat := by
      rw [Nat.mul_comm, Nat.mul_add_div (by positivity), Nat.div_eq_of_lt small, Nat.add_zero]
    rw [List.length_cons, be, ofBe_cons, high, be_congr (w := ofBe l) (by simp), ih]
    simp

/-- A word read from its k bytes is written with them. -/
theorem be_ofNat_ofBe {w k : Nat} {l : List Byte} (h : w = 8 * k) (length : l.length = k) :
    be k (BitVec.ofNat w (ofBe l)).toNat = l := by
  have small : ofBe l < 2 ^ w := by
    rw [h, pow_mul, ← length]
    have := ofBe_be l.length (ofBe l)
    rw [be_ofBe] at this
    rw [this]
    exact Nat.mod_lt _ (by positivity)
  rw [BitVec.toNat_ofNat, Nat.mod_eq_of_lt small, ← length, be_ofBe]

/-- A field read from the front of a body is announced as it stands, and written back there. -/
theorem takeField_eq_some {w k : Nat} {announced : Bool} {l rest : List Byte} {x : Option (BitVec w)}
    (h : takeField w k announced l = some (x, rest)) (width : w = 8 * k) :
    announced = x.isSome ∧ l = optField k x ++ rest := by
  unfold takeField at h
  split at h
  · next present =>
    split at h
    · next long =>
      cases h
      refine ⟨present, ?_⟩
      rw [optField, be_ofNat_ofBe width (by simp [long]), List.take_append_drop]
    · cases h
  · next absent =>
    cases h
    exact ⟨by simpa using absent, rfl⟩

/-- A decoder that goes on after an announced field has read the field's bytes. -/
theorem takeField_bind_eq_some {w k : Nat} {α : Type} {announced : Bool} {l : List Byte} {y : α}
    {next : Option (BitVec w) × List Byte → Option α} (width : w = 8 * k)
    (h : (takeField w k announced l >>= next) = some y) :
    ∃ x rest, announced = x.isSome ∧ l = optField k x ++ rest ∧ next (x, rest) = some y := by
  obtain ⟨⟨x, rest⟩, taken, goesOn⟩ := Option.bind_eq_some_iff.mp h
  obtain ⟨bit, bytes⟩ := takeField_eq_some taken width
  exact ⟨x, rest, bit, bytes, goesOn⟩

theorem takeMask_eq_some {announced : Bool} {l rest : List Byte} {m : Option MaskFields}
    (h : takeMask announced l = some (m, rest)) : announced = m.isSome ∧ l = maskBytes m ++ rest := by
  unfold takeMask at h
  split at h
  · next present =>
    split at h
    · cases h; exact ⟨present, rfl⟩
    · cases h
  · next absent =>
    cases h
    exact ⟨by simpa using absent, rfl⟩

/-- A decoder that ends where the body ends. -/
theorem eq_nil_of_ite_some {α β : Type} {l : List β} {x y : α} [DecidableEq β] (h : (if l = [] then some x else none) = some y) :
    l = [] ∧ x = y := by
  split at h
  · next empty => exact ⟨empty, Option.some.inj h⟩
  · cases h

/-- A presence field is the one written when each of its bits tells of its field, and the bits above are as carried. -/
theorem toNat_eq_of_bits {w : Nat} {x : BitVec w} {bits : List Bool} {high : Nat}
    (low : ∀ i, (h : i < bits.length) → x.getLsbD i = bits[i]) (above : x.toNat / 2 ^ bits.length = high) :
    x.toNat = bits.foldr Nat.bit high := by
  refine Nat.eq_of_testBit_eq fun i => ?_
  by_cases h : i < bits.length
  · rw [testBit_foldr_bit bits high i h]
    exact low i h
  · have up (v : Nat) : v.testBit i = (v / 2 ^ bits.length).testBit (i - bits.length) := by
      rw [Nat.testBit_div_two_pow, Nat.sub_add_cancel (Nat.le_of_not_lt h)]
    rw [up x.toNat, up (bits.foldr Nat.bit high), above, foldr_bit_div]

theorem decodePresence_eq_some {w k : Nat} {pres : Byte} {l : List Byte} {reserved : BitVec 7} {x : Option (BitVec w)}
    (width : w = 8 * k) (h : decodePresence w k pres l = some (reserved, x)) :
    presenceByte reserved x = pres ∧ optField k x = l := by
  obtain ⟨y, rest, bit, bytes, ends⟩ := takeField_bind_eq_some width h
  obtain ⟨empty, same⟩ := eq_nil_of_ite_some ends
  obtain ⟨undefinedBits, field⟩ := Prod.mk.inj same
  rw [empty, List.append_nil, field] at bytes
  refine ⟨BitVec.eq_of_toNat_eq ?_, bytes.symm⟩
  have high : pres.toNat / 2 = reserved.toNat := by
    rw [← undefinedBits, BitVec.toNat_ofNat, Nat.mod_eq_of_lt (by omega)]
  rw [presenceByte_toNat, toNat_eq_of_bits (x := pres) (bits := [x.isSome]) (fun i h => ?_) high]
  have zero : i = 0 := by simpa using h
  subst zero
  rw [bit, field]
  rfl

theorem decodeLinkFields_eq_some {pres : Byte} {l : List Byte} {f : LinkFields} (h : decodeLinkFields pres l = some f) :
    linkPresence f = pres ∧ optField 2 f.seed ++ optField 1 f.noActivity ++ optField 1 f.carrierLoss ++
      optField 4 f.asymmetry ++ maskBytes f.mask = l := by
  obtain ⟨seed, l1, b0, e0, h1⟩ := takeField_bind_eq_some (w := 16) (k := 2) rfl h
  obtain ⟨noActivity, l2, b1, e1, h2⟩ := takeField_bind_eq_some (w := 8) (k := 1) rfl h1
  obtain ⟨carrierLoss, l3, b2, e2, h3⟩ := takeField_bind_eq_some (w := 8) (k := 1) rfl h2
  obtain ⟨asymmetry, l4, b3, e3, h4⟩ := takeField_bind_eq_some (w := 32) (k := 4) rfl h3
  obtain ⟨⟨mask, l5⟩, taken, h5⟩ := Option.bind_eq_some_iff.mp h4
  obtain ⟨b4, e4⟩ := takeMask_eq_some taken
  obtain ⟨e5, made⟩ := eq_nil_of_ite_some h5
  subst made
  refine ⟨BitVec.eq_of_toNat_eq ?_, by simp [e0, e1, e2, e3, e4, e5]⟩
  refine (linkPresence_toNat _).trans (Eq.symm (toNat_eq_of_bits (x := pres) (bits := [seed.isSome, noActivity.isSome,
    carrierLoss.isSome, asymmetry.isSome, mask.isSome]) (high := (BitVec.ofNat 3 (pres.toNat / 32)).toNat) (fun i h => ?_) ?_))
  · match i, h with
    | 0, _ => exact b0
    | 1, _ => exact b1
    | 2, _ => exact b2
    | 3, _ => exact b3
    | 4, _ => exact b4
  · rw [BitVec.toNat_ofNat, Nat.mod_eq_of_lt (by omega)]
    rfl

/-- STATION_CONFIG: the settings read are those written, in bit order (R194). -/
theorem decodeSettings_eq_some {pres : BitVec 16} {l : List Byte} {f : SettingFields} (h : decodeSettings pres l = some f) :
    BitVec.ofNat 16 (settingPresence f) = pres ∧ settingBytes f = l := by
  obtain ⟨source, l0, b0, e0, h0⟩ := takeField_bind_eq_some (w := 8) (k := 1) rfl h
  obtain ⟨depth, l1, b1, e1, h1⟩ := takeField_bind_eq_some (w := 8) (k := 1) rfl h0
  obtain ⟨acqShift, l2, b2, e2, h2⟩ := takeField_bind_eq_some (w := 8) (k := 1) rfl h1
  obtain ⟨trackShift, l3, b3, e3, h3⟩ := takeField_bind_eq_some (w := 8) (k := 1) rfl h2
  obtain ⟨accept, l4, b4, e4, h4⟩ := takeField_bind_eq_some (w := 32) (k := 4) rfl h3
  obtain ⟨outlierLimit, l5, b5, e5, h5⟩ := takeField_bind_eq_some (w := 8) (k := 1) rfl h4
  obtain ⟨tearTolerance, l6, b6, e6, h6⟩ := takeField_bind_eq_some (w := 32) (k := 4) rfl h5
  obtain ⟨holdTime, l7, b7, e7, h7⟩ := takeField_bind_eq_some (w := 8) (k := 1) rfl h6
  obtain ⟨backfill, l8, b8, e8, h8⟩ := takeField_bind_eq_some (w := 8) (k := 1) rfl h7
  obtain ⟨attempts, l9, b9, e9, h9⟩ := takeField_bind_eq_some (w := 8) (k := 1) rfl h8
  obtain ⟨responseTimeout, l10, b10, e10, h10⟩ := takeField_bind_eq_some (w := 8) (k := 1) rfl h9
  obtain ⟨probeInterval, l11, b11, e11, h11⟩ := takeField_bind_eq_some (w := 16) (k := 2) rfl h10
  obtain ⟨maxRtt, l12, b12, e12, h12⟩ := takeField_bind_eq_some (w := 16) (k := 2) rfl h11
  obtain ⟨silence, l13, b13, e13, h13⟩ := takeField_bind_eq_some (w := 16) (k := 2) rfl h12
  obtain ⟨holdover, l14, b14, e14, h14⟩ := takeField_bind_eq_some (w := 16) (k := 2) rfl h13
  obtain ⟨calibration, l15, b15, e15, h15⟩ := takeField_bind_eq_some (w := 32) (k := 4) rfl h14
  obtain ⟨e16, made⟩ := eq_nil_of_ite_some h15
  subst made
  constructor
  · refine BitVec.eq_of_toNat_eq ?_
    refine (settingPresence_toNat _).trans (Eq.symm (toNat_eq_of_bits (x := pres) (bits := [source.isSome, depth.isSome,
      acqShift.isSome, trackShift.isSome, accept.isSome, outlierLimit.isSome, tearTolerance.isSome, holdTime.isSome,
      backfill.isSome, attempts.isSome, responseTimeout.isSome, probeInterval.isSome, maxRtt.isSome, silence.isSome,
      holdover.isSome, calibration.isSome]) (high := 0) (fun i h => ?_) ?_))
    · match i, h with
      | 0, _ => exact b0
      | 1, _ => exact b1
      | 2, _ => exact b2
      | 3, _ => exact b3
      | 4, _ => exact b4
      | 5, _ => exact b5
      | 6, _ => exact b6
      | 7, _ => exact b7
      | 8, _ => exact b8
      | 9, _ => exact b9
      | 10, _ => exact b10
      | 11, _ => exact b11
      | 12, _ => exact b12
      | 13, _ => exact b13
      | 14, _ => exact b14
      | 15, _ => exact b15
      | n + 16, h => exact absurd h (Nat.not_lt.mpr (Nat.le_add_left 16 n))
    · exact Nat.div_eq_of_lt pres.isLt
  · delta settingBytes
    rw [e0, e1, e2, e3, e4, e5, e6, e7, e8, e9, e10, e11, e12, e13, e14, e15, e16]
    simp only [List.append_assoc, List.append_nil]

/-! ## The shapes of the bodies -/

section Bodies

variable {body : List Byte} {r : Request}

theorem Decoded.ofOption_eq_request {x : Option Request} (h : Decoded.ofOption x = .request r) : x = some r := by
  cases x with
  | none => cases h
  | some y => cases h; rfl

theorem clearField_eq_some {c : Option Byte} (h : clearField body = some c) : optByte c = body := by
  unfold clearField at h
  split at h <;> cases h <;> rfl

theorem oneByte_eq_some {b : Byte} (h : oneByte body = some b) : body = [b] := by
  unfold oneByte at h
  split at h <;> cases h
  rfl

/-- A body that is a clear flag, or omits it. -/
theorem decoded_clear {f : Option Byte → Request} (h : Decoded.ofOption ((clearField body).map f) = .request r) :
    ∃ c, r = f c ∧ optByte c = body := by
  obtain ⟨c, read, made⟩ := Option.map_eq_some_iff.mp (Decoded.ofOption_eq_request h)
  exact ⟨c, made.symm, clearField_eq_some read⟩

/-- A body of one byte. -/
theorem decoded_one {f : Byte → Request} (h : Decoded.ofOption ((oneByte body).map f) = .request r) :
    ∃ b, r = f b ∧ [b] = body := by
  obtain ⟨b, read, made⟩ := Option.map_eq_some_iff.mp (Decoded.ofOption_eq_request h)
  exact ⟨b, made.symm, (oneByte_eq_some read).symm⟩

/-- An empty body. -/
theorem decoded_empty {x : Request} (h : (if body = [] then Decoded.request x else .badLength) = .request r) :
    r = x ∧ [] = body := by
  split at h
  · next empty => cases h; exact ⟨rfl, empty.symm⟩
  · cases h

/-- A body of eight bytes that is a number. -/
theorem decoded_epoch {f : BitVec 64 → Request}
    (h : (if body.length = 8 then Decoded.request (f (BitVec.ofNat 64 (ofBe body))) else .badLength) = .request r) :
    ∃ n : BitVec 64, r = f n ∧ be 8 n.toNat = body := by
  split at h
  · next length => cases h; exact ⟨_, rfl, be_ofNat_ofBe rfl length⟩
  · cases h

end Bodies

/-- A kind and a body that decode to a request are those it is written with (R182, R194). -/
theorem request_of_decodeRequest {kind : Byte} {body : List Byte} {r : Request}
    (h : decodeRequest kind body = .request r) : requestKind r = kind ∧ requestBody r = body := by
  have code {k : Nat} {b : Byte} (e : kind.toNat = k) (same : b.toNat = k) : b = kind :=
    BitVec.eq_of_toNat_eq (same.trans e.symm)
  unfold decodeRequest at h
  split at h
  · next e => obtain ⟨c, rfl, bytes⟩ := decoded_clear h; exact ⟨code e rfl, bytes⟩
  · next e => obtain ⟨rfl, bytes⟩ := decoded_empty h; exact ⟨code e rfl, bytes⟩
  · next e =>
    have read := Decoded.ofOption_eq_request h
    split at read
    · obtain ⟨x, fields, rfl⟩ := Option.map_eq_some_iff.mp read
      obtain ⟨pres, bytes⟩ := decodePresence_eq_some rfl fields
      exact ⟨code e rfl, by rw [requestBody, pres, bytes]⟩
    · cases read
  · next e => obtain ⟨rfl, bytes⟩ := decoded_empty h; exact ⟨code e rfl, bytes⟩
  · next e => obtain ⟨c, rfl, bytes⟩ := decoded_clear h; exact ⟨code e rfl, bytes⟩
  · next e =>
    have read := Decoded.ofOption_eq_request h
    split at read
    · obtain ⟨x, fields, rfl⟩ := Option.map_eq_some_iff.mp read
      obtain ⟨pres, bytes⟩ := decodePresence_eq_some rfl fields
      exact ⟨code e rfl, by rw [requestBody, pres, bytes]⟩
    · cases read
  · next e => obtain ⟨b, rfl, bytes⟩ := decoded_one h; exact ⟨code e rfl, bytes⟩
  · next e =>
    have read := Decoded.ofOption_eq_request h
    split at read
    · obtain ⟨f, fields, rfl⟩ := Option.map_eq_some_iff.mp read
      obtain ⟨pres, bytes⟩ := decodeLinkFields_eq_some fields
      exact ⟨code e rfl, by rw [requestBody, pres, bytes]⟩
    · cases read
  · next e =>
    have read := Decoded.ofOption_eq_request h
    split at read
    · obtain ⟨c, flag, rfl⟩ := Option.map_eq_some_iff.mp read
      exact ⟨code e rfl, by rw [requestBody, clearField_eq_some flag]⟩
    · cases read
  · next e => obtain ⟨b, rfl, bytes⟩ := decoded_one h; exact ⟨code e rfl, bytes⟩
  · next e =>
    split at h
    · cases h; exact ⟨code e rfl, rfl⟩
    · cases h
  · next e => obtain ⟨b, rfl, bytes⟩ := decoded_one h; exact ⟨code e rfl, bytes⟩
  · next e => obtain ⟨b, rfl, bytes⟩ := decoded_one h; exact ⟨code e rfl, bytes⟩
  · next e =>
    have read := Decoded.ofOption_eq_request h
    split at read
    · next i p1 p0 rest =>
      obtain ⟨f, fields, rfl⟩ := Option.map_eq_some_iff.mp read
      obtain ⟨pres, bytes⟩ := decodeSettings_eq_some fields
      have two : be 2 (settingPresence f) = [p1, p0] := by
        have value : settingPresence f = (BitVec.ofNat 16 (ofBe [p1, p0])).toNat := by
          rw [← pres, BitVec.toNat_ofNat, Nat.mod_eq_of_lt (settingPresence_lt f)]
        rw [value]
        exact be_ofNat_ofBe rfl rfl
      exact ⟨code e rfl, by rw [requestBody, two, bytes]; rfl⟩
    · cases read
  · next e => obtain ⟨b, rfl, bytes⟩ := decoded_one h; exact ⟨code e rfl, bytes⟩
  · next e =>
    have read := Decoded.ofOption_eq_request h
    split at read
    · obtain ⟨c, flag, rfl⟩ := Option.map_eq_some_iff.mp read
      exact ⟨code e rfl, by rw [requestBody, clearField_eq_some flag]⟩
    · cases read
  · next e =>
    split at h
    · cases h; exact ⟨code e rfl, congrArg (List.cons _) (be_ofNat_ofBe (w := 32) (k := 4) rfl rfl)⟩
    · cases h
  · next e => obtain ⟨b, rfl, bytes⟩ := decoded_one h; exact ⟨code e rfl, bytes⟩
  · next e =>
    split at h
    · cases h; exact ⟨code e rfl, congrArg (List.cons _) (be_ofNat_ofBe (w := 32) (k := 4) rfl rfl)⟩
    · cases h
  · next e => obtain ⟨b, rfl, bytes⟩ := decoded_one h; exact ⟨code e rfl, bytes⟩
  · next e => obtain ⟨b, rfl, bytes⟩ := decoded_one h; exact ⟨code e rfl, bytes⟩
  · next e => obtain ⟨c, rfl, bytes⟩ := decoded_clear h; exact ⟨code e rfl, bytes⟩
  · next e => obtain ⟨n, rfl, bytes⟩ := decoded_epoch h; exact ⟨code e rfl, bytes⟩
  · next e =>
    split at h
    · next a b c d e' f g h' i k1 k0 =>
      cases h
      have number : be 8 (BitVec.ofNat 64 (ofBe [a, b, c, d, e', f, g, h'])).toNat = _ := be_ofNat_ofBe rfl rfl
      have position : be 2 (BitVec.ofNat 16 (ofBe [k1, k0])).toNat = _ := be_ofNat_ofBe rfl rfl
      exact ⟨code e rfl, by rw [requestBody, number, position]; rfl⟩
    · cases h
  · next e => obtain ⟨n, rfl, bytes⟩ := decoded_epoch h; exact ⟨code e rfl, bytes⟩
  · next e => obtain ⟨b, rfl, bytes⟩ := decoded_one h; exact ⟨code e rfl, bytes⟩
  · next e =>
    split at h
    · cases h; exact ⟨code e rfl, rfl⟩
    · cases h
  · next e => obtain ⟨rfl, bytes⟩ := decoded_empty h; exact ⟨code e rfl, bytes⟩
  · next e => obtain ⟨rfl, bytes⟩ := decoded_empty h; exact ⟨code e rfl, bytes⟩
  · next e => obtain ⟨rfl, bytes⟩ := decoded_empty h; exact ⟨code e rfl, bytes⟩
  · cases h

/-- Settles O4, by the decoding of every request's body and the writing back of every body decoded. -/
theorem requestCodingAgreesBothWays : Obligations.RequestCodingAgreesBothWays := by
  intro kind body r
  refine ⟨request_of_decodeRequest, ?_⟩
  rintro ⟨rfl, rfl⟩
  exact decodeRequest_request r

end Sys2Proof.Machine
end

section
/-! PROOF. The message ports: frames taken, buffered or refused, and the end of a reply or NOTICE: O5 to O11. -/

namespace Sys2Proof.Machine

/-- An event on a running part, by what its body makes of the state at its moment. -/
theorem State.event_of_eq {s u : State} {dt : Nat} {body : State → State} (running : s.held = false)
    (h : body (s.advance dt) = u) : s.event dt body = .next u.endEvent := by
  rw [State.event_eq s dt body running, h]

/-! ## Frames judged (R182) -/

theorem Decoded.ofOption_ne_unknown (x : Option Request) : Decoded.ofOption x ≠ .unknownKind := by
  cases x <;> exact fun h => by cases h

/-- The kinds that name no request are 0 and those above 0x1E (R182). -/
theorem decodeRequest_unknown {kind : Byte} (body : List Byte) (h : kind = 0 ∨ 0x1E < kind) :
    decodeRequest kind body = .unknownKind := by
  have code : kind.toNat = 0 ∨ 30 < kind.toNat := h.imp (fun zero => by rw [zero]; rfl) BitVec.lt_def.mp
  unfold decodeRequest
  split
  case h_31 => rfl
  all_goals omega

/-- A kind from 1 to 0x1E names a request (R182). -/
theorem decodeRequest_known {kind : Byte} (body : List Byte) (low : 1 ≤ kind) (high : kind ≤ 0x1E) :
    decodeRequest kind body ≠ .unknownKind := by
  have low : 1 ≤ kind.toNat := BitVec.le_def.mp low
  have high : kind.toNat ≤ 30 := BitVec.le_def.mp high
  unfold decodeRequest
  split
  case h_1 | h_3 | h_5 | h_6 | h_7 | h_8 | h_9 | h_10 | h_12 | h_13 | h_14 | h_15 | h_16 | h_18 | h_20 | h_21 | h_22 | h_26 =>
    exact Decoded.ofOption_ne_unknown _
  case h_2 | h_4 | h_11 | h_17 | h_19 | h_23 | h_24 | h_25 | h_27 | h_28 | h_29 | h_30 => split <;> nofun
  case h_31 =>
    simp only [imp_false] at *
    omega

theorem decodeRequest_badLength {kind : Byte} {body : List Byte} (low : 1 ≤ kind) (high : kind ≤ 0x1E)
    (other : ∀ r, requestKind r = kind → requestBody r ≠ body) : decodeRequest kind body = .badLength := by
  cases decoded : decodeRequest kind body with
  | unknownKind => exact absurd decoded (decodeRequest_known body low high)
  | badLength => rfl
  | request r =>
    obtain ⟨isKind, isBody⟩ := request_of_decodeRequest decoded
    exact absurd isBody (other r isKind)

/-- A frame that carries a request gets what the port serves. -/
theorem State.takeFrame_request {s : State} {p : PortId} {f : Frame} {r : Request}
    (decoded : decodeRequest f.kind f.body = .request r) :
    s.takeFrame p f = State.reply p f.kind f.tag (s.serve p r) := by
  simp only [State.takeFrame, decoded]

/-- A frame whose kind names no request is answered UNKNOWN_KIND (R182). -/
theorem State.takeFrame_unknown (s : State) (p : PortId) {f : Frame} (h : f.kind = 0 ∨ 0x1E < f.kind) :
    s.takeFrame p f = State.reply p f.kind f.tag (s, [2]) := by
  simp only [State.takeFrame, decodeRequest_unknown f.body h]
  rfl

/-- A body that no request of its kind has is answered BAD_LENGTH (R182). -/
theorem State.takeFrame_badLength (s : State) (p : PortId) {f : Frame} (low : 1 ≤ f.kind) (high : f.kind ≤ 0x1E)
    (other : ∀ r, requestKind r = f.kind → requestBody r ≠ f.body) :
    s.takeFrame p f = State.reply p f.kind f.tag (s, [3]) := by
  simp only [State.takeFrame, decodeRequest_badLength low high other]
  rfl

/-! ## Frames on the line -/

/-- The bytes of a request's frame do at a hunting receiver what its row does (log 4). -/
theorem State.portBytes_requestFrame {s : State} {p : PortId} {r : Request} {tag : BitVec 16} {saw : Bool}
    (hunting : (s.port p).receiver = .hunting saw) :
    s.portBytes p (requestFrame r tag).bytes = s.requestArrives p tag r := by
  rw [State.portBytes_frame hunting (requestBody_length_le r)]
  unfold State.requestArrives
  dsimp only
  split
  · next idle =>
    obtain ⟨noReply, empty⟩ := (Bool.and_eq_true _ _).mp idle
    rw [State.frameArrives_idle _ (Option.isNone_iff_eq_none.mp noReply) (List.isEmpty_iff.mp empty)]
    exact State.takeFrame_request (decodeRequest_request r)
  · rfl

/-- Settles O5: the frame's bytes end in the request's arrival, and a held part takes neither. -/
theorem frameOnTheLineIsItsRequest : Obligations.FrameOnTheLineIsItsRequest := by
  intro dt p tag r c s saw row hunting
  rw [exec_row row]
  have bytes : exec (.frameComplete dt p (requestFrame r tag).bytes) s =
      if s.held then .next s else .next ((s.advance dt).portBytes p (requestFrame r tag).bytes).endEvent := rfl
  rw [bytes, State.event, State.portBytes_requestFrame (s := s.advance dt) (saw := saw) (by rw [State.advance_port, hunting])]

/-- The sync pair brings a hunting receiver inside a frame (R180). -/
theorem State.portBytes_synced {s : State} {p : PortId} {saw : Bool} (hunting : (s.port p).receiver = .hunting saw)
    (rest : List Byte) : s.portBytes p (0xA5 :: 0x5A :: rest) =
      (s.modPort p fun x => { x with receiver := .inside [] (s.partTime + byteTimeout) }).portBytes p rest := by
  have first : s.portByte p 0xA5 = s.modPort p fun x => { x with receiver := .hunting true } := by
    simp [State.portByte, hunting]
  have second : (s.portByte p 0xA5).portByte p 0x5A =
      s.modPort p fun x => { x with receiver := .inside [] (s.partTime + byteTimeout) } := by
    rw [first]
    simp [State.portByte]
  rw [← second]
  rfl

/-- A discarded frame leaves the same whatever the receiver read of it (R180). -/
theorem State.badFrame_receiver (s : State) (p : PortId) (r : Receiver) :
    (s.modPort p fun x => { x with receiver := r }).badFrame p = s.badFrame p := by
  rw [State.badFrame, State.modPort_modPort]
  rfl

/-- A frame with a wrong check is discarded (R180). -/
theorem State.portBytes_badCheck {s : State} {p : PortId} {saw : Bool} {f : Frame} {check : BitVec 16}
    (hunting : (s.port p).receiver = .hunting saw) (limit : f.body.length ≤ bodyLimit)
    (wrong : check ≠ crc frameSeed f.covered) :
    s.portBytes p (0xA5 :: 0x5A :: f.covered ++ be 2 check.toNat) = s.badFrame p := by
  have spelled : (0xA5 :: 0x5A :: f.covered ++ be 2 check.toNat : List Byte) =
      0xA5 :: 0x5A :: (f.covered ++ be 2 check.toNat) := rfl
  have length : (f.covered ++ be 2 check.toNat).length = 7 + f.body.length := by
    simp [Frame.covered]
    omega
  have bodyLength : ofBe ((f.covered ++ be 2 check.toNat).take 2) = f.body.length :=
    ofBe_be_of_lt (k := 2) (Nat.lt_of_le_of_lt limit (by decide))
  obtain ⟨r, ends⟩ := State.portBytes_inside (p := p) (f.covered ++ be 2 check.toNat) limit
    (List.ne_nil_of_length_pos (by omega)) (read := []) (due := s.partTime + byteTimeout)
    (s := s.modPort p fun x => { x with receiver := .inside [] (s.partTime + byteTimeout) })
    (by rw [State.modPort_self]) length bodyLength
  rw [spelled, State.portBytes_synced hunting, ends, List.nil_append, State.modPort_modPort]
  have covered : (f.covered ++ be 2 check.toNat).take ((f.covered ++ be 2 check.toNat).length - 2) = f.covered := by
    simp
  have carried : ofBe ((f.covered ++ be 2 check.toNat).drop ((f.covered ++ be 2 check.toNat).length - 2)) =
      check.toNat := by
    rw [List.length_append, be_length, Nat.add_sub_cancel, List.drop_left, ofBe_be_of_lt (k := 2) check.isLt]
  simp only [State.frameEnds, covered, carried]
  rw [if_neg fun same => wrong (BitVec.eq_of_toNat_eq same.symm)]
  exact State.badFrame_receiver s p r

/-- A length above the limit ends the frame at its second byte (R180). -/
theorem State.portBytes_overLimit {s : State} {p : PortId} {saw : Bool} {h l : Byte}
    (hunting : (s.port p).receiver = .hunting saw) (tooLong : 1024 < 256 * h.toNat + l.toNat) :
    s.portBytes p [0xA5, 0x5A, h, l] = s.badFrame p := by
  have number : ofBe [h, l] = 256 * h.toNat + l.toNat := by simp [ofBe, Nat.mul_comm]
  have long : bodyLimit < ofBe [h, l] := number ▸ tooLong
  have inside (bytes : List Byte) (due : Nat) :
      ((s.modPort p fun x => { x with receiver := .inside bytes due }).port p).receiver = .inside bytes due := by
    rw [State.modPort_self]
  have first := State.portByte_inside (inside [] (s.partTime + byteTimeout)) (b := h) (by simp) (by simp)
  rw [State.portBytes_synced hunting]
  show State.portByte p (State.portByte p _ h) l = _
  rw [first, State.modPort_modPort]
  simp only [State.portByte, inside, List.nil_append, List.singleton_append, List.take_succ_cons, List.take_zero,
    List.length_cons, List.length_nil, long, and_self, if_true]
  exact State.badFrame_receiver s p _

/-- Settles O6, by the judgement of the frame and the ways a frame is discarded. -/
theorem framesWithoutARequest : Obligations.FramesWithoutARequest := by
  refine ⟨fun dt p f s saw takes hunting limit => ⟨fun none => ?_, fun low high other => ?_⟩,
    fun dt p s running => ⟨fun saw f check hunting limit wrong => ?_, fun saw h l hunting tooLong => ?_,
      fun bytes due inside => ⟨fun out => ?_, fun early => ?_⟩⟩⟩
  · rw [exec_frameComplete_taken dt takes hunting limit, State.takeFrame_unknown _ p none]; rfl
  · rw [exec_frameComplete_taken dt takes hunting limit, State.takeFrame_badLength _ p low high other]; rfl
  · have bad := State.portBytes_badCheck (s := s.advance dt) (p := p) (saw := saw) (by rw [State.advance_port, hunting])
      limit wrong
    exact State.event_of_eq (body := fun s => s.portBytes p _) running bad
  · have bad := State.portBytes_overLimit (s := s.advance dt) (p := p) (saw := saw) (by rw [State.advance_port, hunting])
      tooLong
    exact State.event_of_eq (body := fun s => s.portBytes p _) running bad
  · have bad : (s.advance dt).byteTimeoutOut p = (s.advance dt).badFrame p := by
      simp [State.byteTimeoutOut, inside, State.isDue, out]
    exact State.event_of_eq running bad
  · have kept : (s.advance dt).byteTimeoutOut p = s.advance dt := by
      simp [State.byteTimeoutOut, inside, State.isDue, early]
    exact State.event_of_eq running kept

/-! ## A port with a pending reply (R181, R182) -/

/-- A port with a pending reply takes no frame from its buffer. -/
theorem State.takeNext_of_reply {s : State} {p : PortId} (pends : (s.port p).reply ≠ none) : s.takeNext p = s := by
  obtain ⟨f, reply⟩ := Option.ne_none_iff_exists'.mp pends
  simp only [State.takeNext, reply]

/-- A port takes the frame at the head of its buffer when no reply pends. -/
theorem State.takeNext_of_frame {s : State} {p : PortId} {f : Frame} {rest : List Frame}
    (noReply : (s.port p).reply = none) (waits : (s.port p).buffer = f :: rest) :
    s.takeNext p = (s.modPort p fun x => { x with buffer := rest }).takeFrame p f := by
  simp only [State.takeNext, noReply, waits]

theorem State.takeNext_of_empty {s : State} {p : PortId} (empty : (s.port p).buffer = []) : s.takeNext p = s := by
  unfold State.takeNext
  rw [empty]
  split <;> trivial

/-- A request at a port with a pending reply goes to the buffer (R181). -/
theorem State.requestArrives_busy {s : State} {p : PortId} {tag : BitVec 16} {r : Request}
    (pends : (s.port p).reply ≠ none) :
    s.requestArrives p tag r =
      (s.modPort p fun x => { x with receiver := .hunting false }).frameArrives p (requestFrame r tag) := by
  have busy : ¬ ((s.modPort p fun x => { x with receiver := .hunting false }).port p).idle = true := by
    rw [State.modPort_self]
    intro idle
    exact pends (Option.isNone_iff_eq_none.mp ((Bool.and_eq_true _ _).mp idle).1)
  unfold State.requestArrives
  exact if_neg busy

/-- Settles O7: the frame waits in a buffer with room, and is lost at a full one. -/
theorem busyPortBuffersOrLosesTheRequest : Obligations.BusyPortBuffersOrLosesTheRequest := by
  intro dt p tag r c s row running pends
  have arrives : exec c s = .next (((s.advance dt).modPort p fun x => { x with receiver := .hunting false }).frameArrives p
      (requestFrame r tag)).endEvent := by
    rw [exec_row row, State.event_eq s dt _ running, State.requestArrives_busy (by rwa [State.advance_port])]
  rw [arrives, State.frameArrives, State.modPort_modPort, State.modPort_self, State.advance_port]
  refine ⟨fun room => ?_, fun full => ?_⟩
  · dsimp only
    rw [if_pos (show _ < bufferSize from room), State.takeNext_of_reply (by simpa using pends)]
    rfl
  · dsimp only
    rw [if_neg (show ¬ _ < bufferSize from Nat.not_lt.mpr full)]
    rfl

/-! ## The end of a reply (R182, R184, R191) -/

/-- A port whose reply has been sent. -/
def Port.sent (x : Port) : Port := { x with reply := none, line := .free, repliesSent := bump x.repliesSent }

/-- A reply other than PART_RESET's frees the line, and the port takes its next frame (R182, R184). -/
theorem exec_replySent {s : State} {dt : Nat} {p : PortId} {f : Frame} (running : s.held = false)
    (sends : (s.port p).line = .reply) (reply : (s.port p).reply = some f) (other : ¬ (f.kind = 0x82 ∧ f.body = [0])) :
    exec (.replySent dt p) s = .next (((s.advance dt).modPort p Port.sent).takeNext p).endEvent := by
  have notReset : f.isPartReset ≠ true := fun reset => other (by
    obtain ⟨kind, body⟩ := (Bool.and_eq_true _ _).mp reset
    exact ⟨of_decide_eq_true kind, of_decide_eq_true body⟩)
  have sent : (s.advance dt).replySent p = ((s.advance dt).modPort p Port.sent).takeNext p := by
    simp only [State.replySent, State.advance_port, sends, reply]
    exact if_neg notReset
  exact State.event_of_eq running sent

/-- The frame at the head of the buffer is judged in the event that ends the reply (R182). -/
theorem exec_replySent_waiting {s : State} {dt : Nat} {p : PortId} {f w : Frame} {rest : List Frame}
    (running : s.held = false) (sends : (s.port p).line = .reply) (reply : (s.port p).reply = some f)
    (other : ¬ (f.kind = 0x82 ∧ f.body = [0])) (waits : (s.port p).buffer = w :: rest) :
    exec (.replySent dt p) s = .next (((s.advance dt).modPort p fun x =>
      { x with reply := none, line := .free, repliesSent := bump x.repliesSent, buffer := rest }).takeFrame p w).endEvent := by
  rw [exec_replySent running sends reply other, State.takeNext_of_frame (f := w) (rest := rest)
    (by rw [State.modPort_self]; rfl) (by rw [State.modPort_self, State.advance_port]; exact waits), State.modPort_modPort]
  rfl

/-- A refused request's fault record and FAULT notice, as the statements write them (R189). -/
theorem State.notPermitted_answered (s : State) (p q : PortId) (r : Request) (kind : Byte) (tag : BitVec 16) :
    (s.notPermitted p r).1.answered q kind tag (s.notPermitted p r).2 =
      (({ s with
        faultRecord := some
          { port := p, kind := requestKind r,
            station := if requestKind r ∈ stationKinds then (requestBody r).head? else none }
        faultCount := min (s.faultCount + 1) 255
        mp0 := { s.mp0 with notices := s.mp0.notices ||| (0x40 &&& s.mp0.mask) }
        mp1 := { s.mp1 with notices := s.mp1.notices ||| (0x40 &&& s.mp1.mask) } } : State).answered q kind tag [5]) := by
  rw [State.notPermitted, stationCarried_eq]
  rfl

/-- Settles O8: the port is free, and the frame at the head of its buffer is judged on the state in which it is. -/
theorem replySentTakesTheNextRequest : Obligations.ReplySentTakesTheNextRequest := by
  intro dt p s f running sends reply other
  refine ⟨fun empty => ?_, fun r tag rest waits => ?_, fun w rest waits => ?_⟩
  · rw [exec_replySent running sends reply other,
      State.takeNext_of_empty (by rw [State.modPort_self, State.advance_port]; exact empty)]
    rfl
  · have taken := exec_replySent_waiting (dt := dt) running sends reply other waits
    rw [State.takeFrame_request (f := { kind := requestKind r, tag := tag, body := requestBody r })
      (decodeRequest_request r)] at taken
    refine ⟨taken, fun allowed => State.serve_owned ?_, fun kind role => ?_⟩
    · rwa [State.modPort_self, State.advance_port]
    · rw [State.serve_refused kind (by rwa [State.modPort_self, State.advance_port])] at taken
      have refused := State.notPermitted_answered ((s.advance dt).modPort p fun x =>
        { x with reply := none, line := .free, repliesSent := bump x.repliesSent, buffer := rest }) p p r (requestKind r) tag
      rw [State.modPort_faultCount, State.advance_faultCount] at refused
      exact taken.trans (congrArg Host.Outcome.next refused)
  · have taken := exec_replySent_waiting (dt := dt) running sends reply other waits
    refine ⟨fun none => ?_, fun low high different => ?_⟩
    · rw [taken, State.takeFrame_unknown _ p none]; rfl
    · rw [taken, State.takeFrame_badLength _ p low high different]; rfl

/-- Nothing waits to be sent at power-on, and nothing is in use (R24, R167, R179). -/
theorem State.powerOn_endEvent (role1 : Bool) (waiting : List Instr) :
    ({ State.powerOn role1 with pending := waiting } : State).endEvent = { State.powerOn role1 with pending := waiting } := by
  have entries : ({ State.powerOn role1 with pending := waiting } : State).entriesInUse = 0 := Nat.sub_self poolSize
  simp only [State.endEvent, entries, State.slotsInUse]
  cases role1 <;> rfl

/-- Settles O9: the answer alone, and then the values of power-on with the roles as ROLE1 gives them. -/
theorem partResetFollowsItsReply : Obligations.PartResetFollowsItsReply := by
  refine ⟨fun dt p tag s takes role => ?_, fun dt p tag role1 s running sends reply role0 role => ?_⟩
  · rw [exec_row_taken (r := .partReset) rfl takes, State.serve_owned (.inr (by rw [State.requested_port, role]))]
    rfl
  · have sent : (s.advance dt).replySent p = (s.advance dt).partReset := by
      simp only [State.replySent, State.advance_port, sends, reply]
      rfl
    have event : exec (.replySent dt p) s = .next (s.advance dt).partReset.endEvent :=
      State.event_of_eq running sent
    have values : (s.advance dt).partReset = { State.powerOn role1 with pending := s.pending } := by
      rw [State.partReset, State.advance_mp0, State.advance_mp1, State.advance_pending, role0, role]
      cases role1 <;> rfl
    rw [event, values, State.powerOn_endEvent]
    rfl

/-! ## The end of a NOTICE, and free lines (R184) -/

theorem Port.choose_reply {x : Port} {f : Frame} (now : Nat) (free : x.line = .free) (reply : x.reply = some f) :
    x.choose now = { x with line := .reply } := by
  simp only [Port.choose, free, reply, Option.isSome_some, if_true]

/-- Settles O10: the NOTICE is counted, and the free line's choice is that of R184. -/
theorem noticeSentFreesTheLine : Obligations.NoticeSentFreesTheLine := by
  intro dt p s set t0 running sends
  have sent : (s.advance dt).noticeSent p =
      (s.advance dt).modPort p fun x => { x with line := .free, noticesSent := bump x.noticesSent } := by
    simp only [State.noticeSent, State.advance_port, sends]
  refine ⟨((s.advance dt).modPort p fun x => { x with line := .free, noticesSent := bump x.noticesSent }).endEvent,
    State.event_of_eq running sent,
    fun f reply => ?_, fun noReply raised => ?_, fun noReply empty => ?_, fun q other => ?_, by simp, by simp, by simp,
    by simp, by simp, by cases p <;> rfl, by simp, by simp, by simpa using running, by simp⟩
  · rw [State.endEvent_port, State.modPort_self, State.advance_port]
    exact Port.choose_reply _ rfl reply
  · rw [State.endEvent_port, State.modPort_self, State.advance_port, State.modPort_partTime]
    exact Port.choose_notice _ rfl noReply raised
  · rw [State.endEvent_port, State.modPort_self, State.advance_port]
    exact Port.choose_nothing _ rfl noReply empty
  · rw [State.endEvent_port, State.endEvent_port, State.modPort_ne _ _ (Ne.symm other), State.modPort_partTime]

/-- After a free line's choice, a line that is free has nothing to send (R184, log 14). -/
theorem Port.choose_free {x : Port} {now : Nat} (free : (x.choose now).line = .free) :
    (x.choose now).reply = none ∧ (x.choose now).notices = 0 := by
  cases line : x.line with
  | free =>
    cases reply : x.reply with
    | some f => rw [Port.choose_reply now line reply] at free; cases free
    | none =>
      by_cases raised : x.notices = 0
      · rw [Port.choose_nothing now line reply raised]
        exact ⟨reply, raised⟩
      · rw [Port.choose_notice now line reply raised] at free
        cases free
  | reply => simp [Port.choose, line] at free
  | notice set t0 => simp [Port.choose, line] at free

/-- A port after an event on a running part is one whose line has chosen. -/
theorem State.event_free {s t : State} {dt : Nat} {body : State → State} (run : s.event dt body = .next t)
    (running : t.held = false) {p : PortId} (free : (t.port p).line = .free) :
    (t.port p).reply = none ∧ (t.port p).notices = 0 := by
  unfold State.event at run
  split at run
  · next held => cases run; exact absurd held (by simp [running])
  · cases run
    rw [State.endEvent_port] at free ⊢
    exact Port.choose_free free

/-- Settles O11: every event ends in the choice of the free lines, and power-on leaves nothing to send. -/
theorem freeLineHasNothingToSend : Obligations.FreeLineHasNothingToSend := by
  intro c s t run running p free
  cases c with
  | powerOnReset r => cases run; cases p <;> exact ⟨rfl, rfl⟩
  | resetInputAsserted dt =>
    have stopped : execResetInputAsserted dt s = .next t := run
    unfold execResetInputAsserted at stopped
    split at stopped
    · next held => cases stopped; exact absurd held (by simp [running])
    · cases stopped; cases running
  | _ =>
    simp only [exec] at run
    exact State.event_free run running free

end Sys2Proof.Machine
end

section
/-! PROOF. The answers of requests on their own: operands in and outside their sets, sets of stations and lengths of
reports; the status requests (O16), the reports' lengths (O17) and the reading of the epoch table (O18). -/

namespace Sys2Proof.Machine

/-! ## A request and its owner's answer -/

/-- A request taken at a port whose role allows it: the owner's answer is its reply (R182, R183). -/
theorem exec_answered {dt : Nat} {p : PortId} {tag : BitVec 16} {r : Request} {c : Instr} {s t : State} {body : List Byte}
    (row : Request.row dt p tag r = some c) (takes : s.takesAt p)
    (allowed : Request.controlOnly r = false ∨ (s.port p).role = .control)
    (answer : (s.requested dt p).answer p r = (t, body)) :
    exec c s = .next (t.answered p (requestKind r) tag body) := by
  rw [exec_row_taken row takes, State.serve_allowed (by rwa [State.requested_port]), answer]

@[simp] theorem State.onStation_stationByte (s : State) (i : StationId) (f : StationId → Answer) :
    s.onStation (stationByte i) f = f i := by
  simp only [State.onStation, stationOf_stationByte]

theorem State.onStation_above {b : Byte} (above : 47 < b) (s : State) (f : StationId → Answer) :
    s.onStation b f = (s, [4]) := by
  simp only [State.onStation, stationOf_above above]
  rfl

@[simp] theorem State.onLink_linkByte (s : State) (l : LinkId) (f : LinkId → Answer) :
    s.onLink (Machine.linkByte l) f = f l := by
  simp only [State.onLink, linkOf_linkByte]

theorem State.onLink_above {b : Byte} (above : 5 < b) (s : State) (f : LinkId → Answer) : s.onLink b f = (s, [4]) := by
  simp only [State.onLink, linkOf_above above]
  rfl

/-- A clear flag that is absent or 0 asks for no clearing (R195). -/
theorem State.onClear_kept {c : Option Byte} (kept : c = none ∨ c = some 0) (s : State) (f : Bool → Answer) :
    s.onClear c f = f false := by
  obtain rfl | rfl := kept <;> rfl

theorem State.onClear_set (s : State) (f : Bool → Answer) : s.onClear (some 1) f = f true := rfl

/-- A clear flag other than 0 and 1 is refused (R195). -/
theorem State.onClear_bad {b : Byte} (off : b ≠ 0) (on : b ≠ 1) (s : State) (f : Bool → Answer) :
    s.onClear (some b) f = (s, [4]) := by
  simp only [State.onClear, clearOf, switchOf_of_ne off on]
  rfl

theorem State.onGrid_of_none {s : State} (noGrid : s.timebase.grid = none) (f : Grid → Answer) :
    s.onGrid f = (s, [0x0B]) := by
  simp only [State.onGrid, noGrid]
  rfl

theorem State.onGrid_of_some {s : State} {g : Grid} (grid : s.timebase.grid = some g) (f : Grid → Answer) :
    s.onGrid f = f g := by
  simp only [State.onGrid, grid]

/-- The grid at the moment a request is taken is the one before. -/
theorem State.requested_grid (s : State) (dt : Nat) (p : PortId) :
    (s.requested dt p).timebase.grid = s.timebase.grid := by
  rw [State.requested_timebase, State.advance_grid]

/-! ## Status (R23, R46, R63, R64, R164, R178, R193) -/

section Status

variable (s : State) (l : LinkId) (i : StationId)

theorem State.answerLinkStatus_eq (c : Option Byte) : s.answerLinkStatus (Machine.linkByte l) c = s.onClear c fun c =>
    (if c then s.modLink l fun x => { x with counters := LinkCounters.zero, lastFailure := none }
     else s).ok (s.link l).report := State.onLink_linkByte s l _

theorem State.answerStationStats_eq (c : Option Byte) : s.answerStationStats (stationByte i) c = s.onClear c fun c =>
    (if c then s.count i fun _ => StationCounters.zero else s).ok (s.station i).counters.fields :=
  State.onStation_stationByte s i _

theorem State.answerEpochList_eq {s : State} (grid : s.timebase.grid ≠ none) (c : Option Byte) :
    s.answerEpochList c = s.onClear c fun c =>
      (if c then s.modAssembler Assembler.clearCounters else s).ok s.epochReport := by
  obtain ⟨g, isGrid⟩ := Option.ne_none_iff_exists'.mp grid
  exact State.onGrid_of_some isGrid _

/-- What STATION_STATUS shows of a disabled station are the values of R50 (R54, R64). -/
theorem State.stationReport_of_disabled {s : State} {i : StationId} (disabled : (s.station i).enabled = false) :
    s.stationReport i = (s.setStation i { Station.initial with
      binding := (s.station i).binding, backfillStamp := (s.station i).backfillStamp,
      probeStamp := (s.station i).probeStamp }).stationReport i := by
  simp only [State.stationReport, State.setStation_self, Station.shown, disabled, Bool.false_eq_true, if_false]
  rfl

end Status

/-- Settles O16: each report by its request's own answer, with the flag, the link and the station as carried. -/
theorem statusRequestsReportAndClear : Obligations.StatusRequestsReportAndClear := by
  intro dt p tag l i s takes u
  have link : u.link l = s.link l := State.requested_link s dt p l
  have station : u.station i = s.station i := State.requested_station s dt p i
  have grid : u.timebase.grid = s.timebase.grid := State.requested_grid s dt p
  have linkStatus (c : Option Byte) := State.answerLinkStatus_eq u l c
  have stationStats (c : Option Byte) := State.answerStationStats_eq u i c
  rw [link] at linkStatus
  rw [station] at stationStats
  refine ⟨fun c kept => ⟨?_, ?_, ?_, ?_, fun set => ?_⟩, ⟨?_, ?_, ?_, ?_, fun set => ?_⟩,
    fun b off on => ⟨?_, ?_, ?_, ?_, fun set => ?_⟩, fun c unset => ?_, fun b c above => ?_,
    fun b c above => ⟨?_, ?_⟩, ?_, fun disabled => ?_⟩
  · exact exec_answered (r := .partInfo c) rfl takes (.inl rfl) (State.onClear_kept kept u _)
  · exact exec_answered (r := .timebaseStatus c) rfl takes (.inl rfl) (State.onClear_kept kept u _)
  · exact exec_answered (r := .linkStatus (linkByte l) c) rfl takes (.inl rfl)
      ((linkStatus c).trans (State.onClear_kept kept u _))
  · exact exec_answered (r := .stationStats (stationByte i) c) rfl takes (.inl rfl)
      ((stationStats c).trans (State.onClear_kept kept u _))
  · exact exec_answered (r := .epochList c) rfl takes (.inl rfl)
      ((State.answerEpochList_eq (by rwa [grid]) c).trans (State.onClear_kept kept u _))
  · exact exec_answered (r := .partInfo (some 1)) rfl takes (.inl rfl) rfl
  · exact exec_answered (r := .timebaseStatus (some 1)) rfl takes (.inl rfl) rfl
  · exact exec_answered (r := .linkStatus (linkByte l) (some 1)) rfl takes (.inl rfl)
      ((linkStatus _).trans (State.onClear_set u _))
  · exact exec_answered (r := .stationStats (stationByte i) (some 1)) rfl takes (.inl rfl)
      ((stationStats _).trans (State.onClear_set u _))
  · exact exec_answered (r := .epochList (some 1)) rfl takes (.inl rfl)
      ((State.answerEpochList_eq (by rwa [grid]) _).trans (State.onClear_set u _))
  · exact exec_answered (r := .partInfo (some b)) rfl takes (.inl rfl) (State.onClear_bad off on u _)
  · exact exec_answered (r := .timebaseStatus (some b)) rfl takes (.inl rfl) (State.onClear_bad off on u _)
  · exact exec_answered (r := .linkStatus (linkByte l) (some b)) rfl takes (.inl rfl)
      ((linkStatus _).trans (State.onClear_bad off on u _))
  · exact exec_answered (r := .stationStats (stationByte i) (some b)) rfl takes (.inl rfl)
      ((stationStats _).trans (State.onClear_bad off on u _))
  · exact exec_answered (r := .epochList (some b)) rfl takes (.inl rfl)
      ((State.answerEpochList_eq (by rwa [grid]) _).trans (State.onClear_bad off on u _))
  · exact exec_answered (r := .epochList c) rfl takes (.inl rfl) (State.onGrid_of_none (by rwa [grid]) _)
  · exact exec_answered (r := .linkStatus b c) rfl takes (.inl rfl) (State.onLink_above above u _)
  · exact exec_answered (r := .stationStats b c) rfl takes (.inl rfl) (State.onStation_above above u _)
  · exact exec_answered (r := .stationStatus b) rfl takes (.inl rfl) (State.onStation_above above u _)
  · exact exec_answered (r := .stationStatus (stationByte i)) rfl takes (.inl rfl) (State.onStation_stationByte u i _)
  · rw [State.stationReport_of_disabled (by rwa [station]), station]

/-! ## Lengths (chapter 11) -/

@[simp] theorem beInt_length (k : Nat) (v : Int) : (beInt k v).length = k := be_length k _

/-- A field that may be none has the length of its presence byte and itself (chapter 11). -/
theorem optional_length {k : Nat} {x : Option (List Byte)} (h : ∀ f, x = some f → f.length = k) :
    (optional k x).length = k + 1 := by
  cases x with
  | none => simp [optional]
  | some f => simp [optional, h f rfl]

theorem optional_map_length {α : Type} {k : Nat} (x : Option α) {f : α → List Byte} (h : ∀ a, (f a).length = k) :
    (optional k (x.map f)).length = k + 1 :=
  optional_length fun _ e => by obtain ⟨a, _, rfl⟩ := Option.map_eq_some_iff.mp e; exact h a

/-- Parts of one length each add up. -/
theorem flatMap_length {α β : Type} {k : Nat} (l : List α) {f : α → List β} (h : ∀ a, (f a).length = k) :
    (l.flatMap f).length = k * l.length := by
  induction l with
  | nil => rfl
  | cons a l ih => rw [List.flatMap_cons, List.length_append, h a, ih, List.length_cons]; ring

@[simp] theorem setBytes_length (x : StationSet) : (setBytes x).length = 6 := rfl

theorem waitingBytes_length (l : List LinkId) : (waitingBytes l).length = 6 := by
  simp [waitingBytes]

theorem identity_length : identity.length = 27 := by
  simp [identity, familyName, partName]

theorem Port.report_length (p : Port) : p.report.length = 23 := by
  simp [Port.report]

theorem State.storeReport_length (s : State) : s.storeReport.length = 39 := by
  simp [State.storeReport, waitingBytes_length]

theorem State.partReport_length (s : State) : s.partReport.length = 121 := by
  simp [State.partReport, identity_length, Port.report_length, State.storeReport_length]

theorem Reference.report_length (x : Reference) : x.report.length = 34 := by
  simp [Reference.report, optional_map_length x.lastGood (be_length 8)]

theorem State.timebaseReport_length (s : State) : s.timebaseReport.length = 113 := by
  simp [State.timebaseReport, State.hubEpochField, optional_map_length s.hubEpoch (beInt_length 8),
    Reference.report_length]

theorem Link.configFields_length (x : Link) : x.configFields.length = 13 := by
  simp [Link.configFields]

theorem LinkCounters.fields_length (c : LinkCounters) : c.fields.length = 52 := by
  simp [LinkCounters.fields]

theorem BackfillSlot.fields_length (x : BackfillSlot) : x.fields.length = 15 := by
  simp [BackfillSlot.fields]

theorem ProbeSlot.fields_length (x : ProbeSlot) : x.fields.length = 19 := by
  simp [ProbeSlot.fields]

theorem Link.report_length (x : Link) : x.report.length = 106 := by
  simp [Link.report, Link.configFields_length, optional_map_length x.backfill BackfillSlot.fields_length,
    optional_map_length x.probe ProbeSlot.fields_length, LinkCounters.fields_length]

theorem Binding.fields_length (b : Binding) : b.fields.length = 8 := by
  simp [Binding.fields]

theorem StationConfig.fields_length (c : StationConfig) : c.fields.length = 29 := by
  simp [StationConfig.fields]

theorem Reservation.fields_length (unstaged : BitVec 32) (x : Reservation) : (x.fields unstaged).length = 6 := by
  simp [Reservation.fields]

theorem Station.summary_length (x : Station) : x.summary.length = 41 := by
  simp [Station.summary, optional_map_length x.tracker.q fun q => be_length 2 q.toNat,
    optional_map_length x.tracker.covered (beInt_length 8), optional_map_length x.clock.residual (beInt_length 8),
    optional_map_length x.mark.lastRtt (beInt_length 8)]

theorem State.stationReport_length (s : State) (i : StationId) : (s.stationReport i).length = 105 := by
  have reservation := optional_map_length (s.reservationOf i)
    (Reservation.fields_length (Config.unstagedValue i.val s.timebase.oscNs))
  have binding := optional_map_length (s.station i).shown.binding Binding.fields_length
  have stamp (x : Option (BitVec 64)) := optional_map_length x fun n => be_length 8 n.toNat
  unfold State.stationReport
  dsimp only
  rw [List.length_append, List.length_cons, List.length_append, List.length_append, List.length_append,
    List.length_append, reservation, binding, stamp, stamp, StationConfig.fields_length, Station.summary_length]

theorem StationCounters.fields_length (c : StationCounters) : c.fields.length = 108 := by
  unfold StationCounters.fields
  simp only [List.length_append, be_length]

theorem Epoch.listed_length (e : Epoch) : e.listed.length = 15 := by
  simp [Epoch.listed]

theorem State.epochReport_length (s : State) : s.epochReport.length = 41 + 15 * s.assembler.table.length := by
  simp [State.epochReport, optional_map_length _ (be_length 8), optional_map_length _ (beInt_length 8),
    flatMap_length _ Epoch.listed_length]
  omega

/-! ## Sets of stations -/

theorem stationBit_getLsbD (i j : StationId) : (stationBit i).getLsbD j.val = decide (i = j) := by
  have bit : (stationBit i).getLsbD j.val = decide (i.val = j.val) := by
    simp only [stationBit, BitVec.getLsbD_shiftLeft, j.isLt, decide_true, Bool.true_and]
    by_cases below : j.val < i.val
    · simp [below, Nat.ne_of_gt below]
    · simp [below, BitVec.getLsbD_one]
      omega
  rw [bit, decide_eq_decide]
  exact Fin.ext_iff.symm

/-- Gathering the stations of contributions into a set. -/
theorem getLsbD_foldl_stationBit (l : List Contribution) (i : StationId) (x : StationSet) :
    (l.foldl (fun x c => x ||| stationBit c.station) x).getLsbD i.val =
      (x.getLsbD i.val || l.any fun c => decide (c.station = i)) := by
  induction l generalizing x with
  | nil => simp
  | cons c l ih =>
    rw [List.foldl_cons, ih, BitVec.getLsbD_or, stationBit_getLsbD, List.any_cons, Bool.or_assoc]

/-- A station is present when it has a contribution (R144). -/
theorem Epoch.inSet_present (e : Epoch) (i : StationId) :
    inSet e.present i = e.contributions.any fun c => decide (c.station = i) := by
  rw [inSet, Epoch.present, getLsbD_foldl_stationBit]
  simp

theorem Epoch.report_length (g : Grid) (e : Epoch) : (e.report g).length =
    51 + 2 * allStations.countP fun i => e.contributions.any fun c => decide (c.station = i) := by
  have counts := flatMap_length (allStations.filter (inSet e.present)) (k := 2) fun i => be_length 2 (e.list i).length
  have stations : (allStations.filter (inSet e.present)).length =
      allStations.countP fun i => e.contributions.any fun c => decide (c.station = i) := by
    rw [← List.countP_eq_length_filter]
    exact List.countP_congr fun i _ => by rw [Epoch.inSet_present]
  rw [stations] at counts
  simp [Epoch.report, counts]
  omega

theorem Contribution.report_length (c : Contribution) (x : Slot) :
    (c.report x).length = 40 + x.record.payload.length := by
  simp [Contribution.report]
  omega

/-- Settles O17, by the layouts' lengths. -/
theorem reportsHaveTheirLayoutLengths : Obligations.ReportsHaveTheirLayoutLengths := by
  refine ⟨State.partReport_length, State.timebaseReport_length, Link.report_length, State.stationReport_length,
    StationCounters.fields_length, fun s => ⟨State.epochReport_length s, fun sound => ?_⟩,
    fun g e => ⟨Epoch.report_length g e, ?_⟩, fun c x fits => ⟨Contribution.report_length c x, ?_⟩⟩
  · have few : s.assembler.table.length ≤ 16 := sound.1
    rw [List.length_cons, State.epochReport_length]
    omega
  · have all : (allStations.countP fun i => e.contributions.any fun c => decide (c.station = i)) ≤ 48 :=
      Nat.le_trans List.countP_le_length (by decide)
    rw [List.length_cons, Epoch.report_length]
    omega
  · rw [List.length_cons, Contribution.report_length]
    omega

/-! ## The epoch table read (R165, R166) -/

/-- The number named is the table's own epoch, whose number no other has (R144). -/
theorem State.epochNamed_of_mem {s : State} {n : BitVec 64} {e : Epoch} (sound : s.assembler.sound)
    (isIn : e ∈ s.assembler.table) (named : (e.number : Int) = n.toInt) : s.epochNamed n = some e := by
  cases found : s.epochNamed n with
  | none => exact absurd named (by simpa using List.find?_eq_none.mp found e isIn)
  | some x =>
    have same : (x.number : Int) = n.toInt := by simpa using List.find?_some found
    have number : x.number = e.number := by omega
    have distinct := sound.2.imp (R := fun x y : Epoch => x.number < y.number) (S := fun x y => x.number ≠ y.number)
      fun h => Nat.ne_of_lt h
    exact congrArg some (List.inj_on_of_nodup_map (List.pairwise_map.mpr distinct) (List.mem_of_find?_eq_some found) isIn
      number)

theorem State.epochNamed_of_absent {s : State} {n : BitVec 64}
    (absent : ∀ e ∈ s.assembler.table, (e.number : Int) ≠ n.toInt) : s.epochNamed n = none :=
  List.find?_eq_none.mpr fun e isIn => by simpa using absent e isIn

theorem State.onEpoch_of_none {s : State} {n : BitVec 64} (absent : s.epochNamed n = none) (f : Epoch → Answer) :
    s.onEpoch n f = (s, [0x0C]) := by
  simp only [State.onEpoch, absent]
  rfl

theorem State.onEpoch_of_some {s : State} {n : BitVec 64} {e : Epoch} (named : s.epochNamed n = some e)
    (f : Epoch → Answer) : s.onEpoch n f = f e := by
  simp only [State.onEpoch, named]

/-- The fields of EPOCH_SUMMARY, with the three times in full and the counts of the stations present (R165). -/
theorem Epoch.report_eq (g : Grid) (e : Epoch) : e.report g = be 8 e.number ++
    beInt 8 ((g.o + e.number * g.e : Int) * 1000000000) ++
    beInt 8 ((g.o + e.number * g.e + g.e : Int) * 1000000000) ++
    beInt 8 ((g.o + e.number * g.e + g.e + g.l : Int) * 1000000000) ++
    [if e.state = .forming then 0 else 1,
      if e.state = .closedComplete then 1 else if e.state = .closedDeadline then 2 else 0,
      if e.amended then 1 else 0] ++ be 2 e.late ++ setBytes e.expected ++ setBytes e.present ++
    [e.needed.byte, e.released.byte] ++
    (allStations.filter fun i => e.contributions.any fun c => decide (c.station = i)).flatMap fun i =>
      be 2 (e.contributions.countP fun c => decide (c.station = i)) := by
  have starts : g.epochStart e.number = (g.o + e.number * g.e : Int) * 1000000000 := rfl
  have ends : g.epochEnd e.number = (g.o + e.number * g.e + g.e : Int) * 1000000000 := by
    rw [Grid.epochEnd, starts, nsPerSecond]; ring
  have due : g.deadline e.number = (g.o + e.number * g.e + g.e + g.l : Int) * 1000000000 := by
    rw [Grid.deadline, ends, nsPerSecond]; ring
  have stations : inSet e.present = fun i => e.contributions.any fun c => decide (c.station = i) :=
    funext (Epoch.inSet_present e)
  have code : e.state.code = if e.state = .forming then 0 else 1 := by cases e.state <;> rfl
  have cause : e.state.cause = if e.state = .closedComplete then 1 else if e.state = .closedDeadline then 2 else 0 := by
    cases e.state <;> rfl
  simp only [Epoch.report, starts, ends, due, stations, code, cause, Epoch.list, ← List.countP_eq_length_filter, boolByte,
    List.append_assoc, List.cons_append, List.nil_append]

/-- The fields of CONTRIB_FETCH after the station's (R166). -/
theorem Contribution.report_eq (c : Contribution) (x : Slot) : c.report x = stationByte c.station ::
    (be 2 c.slot ++ be 2 c.i0 ++ be 2 c.count ++ beInt 8 c.offset ++ beInt 8 c.start ++
      be 2 c.n ++ beInt 4 c.rho ++ [c.quality.code, c.flags] ++ be 2 x.record.seq.toNat ++
      be 5 x.record.kFirst.toNat ++ be 1 x.record.components ++
      [match x.timing with
        | some t => t.path.code
        | none => 0] ++ x.record.payload) := by
  cases timing : x.timing <;>
    simp only [Contribution.report, timing, List.append_assoc, List.cons_append, List.nil_append]

/-- The answers of CONTRIB_FETCH for an epoch of the table (R166). -/
theorem State.answerContribFetch_of_epoch {s : State} {g : Grid} {n : BitVec 64} {e : Epoch} {k : BitVec 16}
    (grid : s.timebase.grid = some g) (named : s.epochNamed n = some e) (i : StationId) :
    s.answerContribFetch n (stationByte i) k =
      match (e.list i)[k.toNat]? with
      | none => s.refuse .noEntry
      | some c =>
        match s.slot? c.slot with
        | some x => s.ok (c.report x)
        | none => s.refuse .noEntry :=
  (State.onGrid_of_some grid _).trans ((State.onStation_stationByte s i _).trans (State.onEpoch_of_some named _))

/-- A byte of at most 47 is a station's. -/
theorem exists_stationByte {b : Byte} (h : b ≤ 47) : ∃ i, b = stationByte i := by
  have low : b.toNat < 48 := Nat.lt_succ_of_le (BitVec.le_def.mp h)
  exact ⟨⟨b.toNat, low⟩, (BitVec.ofNat_toNat 8 b).symm.trans rfl⟩

/-- Settles O18, by the tests of the two requests in their order. -/
theorem epochsAreReadWithoutChange : Obligations.EpochsAreReadWithoutChange := by
  intro dt p tag n k b s takes u
  have isGrid : u.timebase.grid = s.timebase.grid := State.requested_grid s dt p
  have table : u.assembler = s.assembler := State.requested_assembler s dt p
  have store : u.store = s.store := State.requested_store s dt p
  refine ⟨fun unset => ⟨?_, ?_⟩, fun g grid => ⟨fun above => ?_, fun absent => ⟨?_, fun low => ?_⟩,
    fun e isIn sound number => ⟨?_, fun i isStation => ⟨fun beyond => ?_, fun c x found slot => ?_⟩⟩⟩⟩
  · exact exec_answered (r := .epochSummary n) rfl takes (.inl rfl) (State.onGrid_of_none (isGrid.trans unset) _)
  · exact exec_answered (r := .contribFetch n b k) rfl takes (.inl rfl) (State.onGrid_of_none (isGrid.trans unset) _)
  · exact exec_answered (r := .contribFetch n b k) rfl takes (.inl rfl)
      ((State.onGrid_of_some (isGrid.trans grid) _).trans (State.onStation_above above u _))
  · exact exec_answered (r := .epochSummary n) rfl takes (.inl rfl)
      ((State.onGrid_of_some (isGrid.trans grid) _).trans
        (State.onEpoch_of_none (State.epochNamed_of_absent (by rwa [table])) _))
  · obtain ⟨i, rfl⟩ := exists_stationByte low
    exact exec_answered (r := .contribFetch n (stationByte i) k) rfl takes (.inl rfl)
      ((State.onGrid_of_some (isGrid.trans grid) _).trans ((State.onStation_stationByte u i _).trans
        (State.onEpoch_of_none (State.epochNamed_of_absent (by rwa [table])) _)))
  · have named : u.epochNamed n = some e := State.epochNamed_of_mem (by rwa [table]) (by rwa [table]) number
    rw [← Epoch.report_eq]
    exact exec_answered (r := .epochSummary n) rfl takes (.inl rfl)
      ((State.onGrid_of_some (isGrid.trans grid) _).trans (State.onEpoch_of_some named _))
  · have named : u.epochNamed n = some e := State.epochNamed_of_mem (by rwa [table]) (by rwa [table]) number
    have noEntry : (e.list i)[k.toNat]? = none := List.getElem?_eq_none beyond
    have answer := State.answerContribFetch_of_epoch (k := k) (isGrid.trans grid) named i
    rw [noEntry] at answer
    rw [isStation]
    exact exec_answered (r := .contribFetch n (stationByte i) k) rfl takes (.inl rfl) answer
  · have named : u.epochNamed n = some e := State.epochNamed_of_mem (by rwa [table]) (by rwa [table]) number
    have entry : (e.list i)[k.toNat]? = some c := found
    have isSlot : u.slot? c.slot = some x := by rw [State.slot?, store]; exact slot
    have station : c.station = i := by
      have isIn := List.mem_of_getElem? entry
      rw [Epoch.list, List.mem_filter] at isIn
      exact of_decide_eq_true isIn.2
    have answer := State.answerContribFetch_of_epoch (k := k) (isGrid.trans grid) named i
    simp only [entry, isSlot, Contribution.report_eq, station] at answer
    rw [isStation]
    exact exec_answered (r := .contribFetch n (stationByte i) k) rfl takes (.inl rfl) answer

end Sys2Proof.Machine
end

section
/-! PROOF. The requests of the network time base: GRID_SET (O19), REF_CONFIG (O21) and REF_SELECT (O22). -/

namespace Sys2Proof.Machine

/-! ## GRID_SET (R20) -/

theorem epochLengths_iff (e : Byte) : e.toNat ∈ epochLengths ↔ e ∈ ([1, 2, 5, 10, 20, 30, 60] : List Byte) := by
  simp [epochLengths, BitVec.toNat_eq]

/-- A number clamped between bounds, told by where it stands (R3). -/
theorem clampNat_eq {lo hi : Nat} (bounds : lo ≤ hi) (n : Nat) :
    clampNat lo hi n = if n < lo then lo else if hi < n then hi else n := by
  unfold clampNat
  split
  · omega
  · split <;> omega

theorem State.answerGridSet_of_set {s : State} {e o : Byte} {reserved : BitVec 7} {l : Option (BitVec 16)}
    (set : s.timebase.grid ≠ none) : s.answerGridSet e o reserved l = (s, [10]) := by
  obtain ⟨g, grid⟩ := Option.ne_none_iff_exists'.mp set
  simp only [State.answerGridSet, grid]
  rfl

theorem State.answerGridSet_of_bad {s : State} {e o : Byte} {reserved : BitVec 7} {l : Option (BitVec 16)}
    (unset : s.timebase.grid = none) (bad : e ∉ ([1, 2, 5, 10, 20, 30, 60] : List Byte) ∨ reserved ≠ 0) :
    s.answerGridSet e o reserved l = (s, [4]) := by
  simp only [State.answerGridSet, unset]
  exact if_pos (bad.symm.imp_right (mt (epochLengths_iff e).mp))

theorem State.answerGridSet_of_good {s : State} {e o : Byte} {l : Option (BitVec 16)}
    (unset : s.timebase.grid = none) (good : e ∈ ([1, 2, 5, 10, 20, 30, 60] : List Byte)) :
    s.answerGridSet e o 0 l =
      (s.modTimebase fun t => { t with grid := some (Grid.make e o l) }).ok (Grid.make e o l).fields := by
  simp only [State.answerGridSet, unset]
  exact if_neg fun bad => bad.elim (absurd rfl) (absurd ((epochLengths_iff e).mpr good))

/-- The grid made of the carried values, clamped (R20). -/
theorem Grid.make_eq (e o : Byte) (l : Option (BitVec 16)) : Grid.make e o l =
    { e := e.toNat, o := min o.toNat (e.toNat - 1), l := match l with
      | some v => if v.toNat = 0 then 1 else if 600 < v.toNat then 600 else v.toNat
      | none => 30 } := by
  have offset : clampNat 0 (e.toNat - 1) o.toNat = min o.toNat (e.toNat - 1) := by
    unfold clampNat
    omega
  cases l with
  | none => rw [Grid.make, offset]
  | some v =>
    rw [Grid.make, offset]
    simp only [clampNat_eq (show 1 ≤ 600 by decide), Nat.lt_one_iff]

theorem Grid.fields_eq (g : Grid) :
    g.fields = [BitVec.ofNat 8 g.e, BitVec.ofNat 8 g.o, BitVec.ofNat 8 (g.l / 256), BitVec.ofNat 8 g.l] := by
  simp [Grid.fields, be]

/-- Settles O19, by the tests of GRID_SET in their order. -/
theorem gridIsSetOnce : Obligations.GridIsSetOnce := by
  intro dt p tag e o reserved l s takes role u
  have grid : u.timebase.grid = s.timebase.grid := State.requested_grid s dt p
  refine ⟨fun set => ?_, fun unset bad => ?_, fun unset good noBits => ?_⟩
  · exact exec_answered (r := .gridSet e o reserved l) rfl takes (.inr role)
      (State.answerGridSet_of_set (by rwa [grid]))
  · exact exec_answered (r := .gridSet e o reserved l) rfl takes (.inr role)
      (State.answerGridSet_of_bad (by rwa [grid]) bad)
  · subst noBits
    have answer := State.answerGridSet_of_good (o := o) (l := l) (grid.trans unset) good
    rw [Grid.make_eq, State.ok, Grid.fields_eq] at answer
    dsimp only at answer
    rw [BitVec.ofNat_toNat, BitVec.setWidth_eq] at answer
    exact exec_answered (r := .gridSet e o 0 l) rfl takes (.inr role) answer

/-! ## REF_CONFIG to a reference (R13) -/

@[simp] theorem State.requested_ref (s : State) (dt : Nat) (p : PortId) (r : RefId) :
    (s.requested dt p).timebase.ref r = s.timebase.ref r := by
  rw [State.requested_timebase]
  cases r <;> rfl

@[simp] theorem State.requested_selection (s : State) (dt : Nat) (p : PortId) :
    (s.requested dt p).timebase.selection = s.timebase.selection := by
  rw [State.requested_timebase]
  rfl

theorem badRefDepth_iff (depth : Option (BitVec 32)) :
    badRefDepth depth = true ↔ ∃ d, depth = some d ∧ d ∉ ([4, 8, 16, 32, 64] : List (BitVec 32)) := by
  cases depth with
  | none => simp [badRefDepth]
  | some d =>
    have same : d.toNat ∈ refDepths ↔ d ∈ ([4, 8, 16, 32, 64] : List (BitVec 32)) := by
      simp [refDepths, BitVec.toNat_eq]
    simp only [badRefDepth, Bool.not_eq_true', List.contains_eq_mem, decide_eq_false_iff_not, same, Option.some.injEq,
      exists_eq_left']

/-- A byte is a switch or neither 0 nor 1 (R195). -/
theorem switchOf_eq_none_iff {b : Byte} : switchOf b = none ↔ b ≠ 0 ∧ b ≠ 1 := by
  unfold switchOf
  split
  · next zero => simp [zero]
  · next nonzero =>
    split
    · next one => simp [one]
    · next other => exact ⟨fun _ => ⟨nonzero, other⟩, fun _ => rfl⟩

theorem switchOf_eq_some {b : Byte} (h : ¬ (b ≠ 0 ∧ b ≠ 1)) : switchOf b = some (decide (b = 1)) := by
  by_cases zero : b = 0
  · subst zero; rfl
  · have one : b = 1 := by_contra fun other => h ⟨zero, other⟩
    subst one
    rfl

/-- REF_CONFIG refuses values outside their sets (R13, R194, R195). -/
theorem State.answerRefConfig_of_bad {s : State} {r : RefId} {sw : Byte} {reserved : BitVec 7}
    {depth : Option (BitVec 32)} (bad : (sw ≠ 0 ∧ sw ≠ 1) ∨ reserved ≠ 0 ∨
      ∃ d, depth = some d ∧ d ∉ ([4, 8, 16, 32, 64] : List (BitVec 32))) :
    s.answerRefConfig r sw reserved depth = (s, [4]) := by
  unfold State.answerRefConfig
  cases on : switchOf sw with
  | none => rfl
  | some on' =>
    have isSwitch : ¬ (sw ≠ 0 ∧ sw ≠ 1) := fun off => by rw [switchOf_eq_none_iff.mpr off] at on; cases on
    exact if_pos ((bad.resolve_left isSwitch).imp_right (badRefDepth_iff depth).mpr)

/-- REF_CONFIG with values in their sets (R13). -/
theorem State.answerRefConfig_of_good {s : State} {r : RefId} {sw : Byte} {reserved : BitVec 7}
    {depth : Option (BitVec 32)} (good : ¬ ((sw ≠ 0 ∧ sw ≠ 1) ∨ reserved ≠ 0 ∨
      ∃ d, depth = some d ∧ d ∉ ([4, 8, 16, 32, 64] : List (BitVec 32)))) :
    s.answerRefConfig r sw reserved depth =
      if decide (sw = 1) = false ∧ (s.timebase.ref r).state ≠ .off ∧ s.timebase.selection = some r then (s, [8])
      else
        let t := s.modRef r fun x => (x.switch (decide (sw = 1))).putDepth depth
        t.ok (t.timebase.ref r).configFields := by
  obtain ⟨isSwitch, noBits, isDepth⟩ : ¬ (sw ≠ 0 ∧ sw ≠ 1) ∧ ¬ reserved ≠ 0 ∧ ¬ badRefDepth depth = true := by
    rw [badRefDepth_iff]
    exact ⟨fun h => good (.inl h), fun h => good (.inr (.inl h)), fun h => good (.inr (.inr h))⟩
  unfold State.answerRefConfig
  rw [switchOf_eq_some isSwitch]
  exact if_neg fun h => h.elim noBits isDepth

/-- A reference switched and given its depth, as the statements write it (R13). -/
theorem Reference.switch_putDepth (x : Reference) {sw : Byte} (isSwitch : ¬ (sw ≠ 0 ∧ sw ≠ 1))
    (depth : Option (BitVec 32)) :
    let started : Reference := { x with run := 0, stages := 0, pendingSecond := none, window := none }
    let switched : Reference :=
      if sw = 1 ∧ x.state = .off then { started with state := .absent }
      else if sw = 0 ∧ x.state ≠ .off then { started with state := .off } else x
    (x.switch (decide (sw = 1))).putDepth depth =
      { switched with depth := (depth.map fun d => d.toNat).getD x.depth } := by
  have byte : sw = 0 ∨ sw = 1 := by
    by_cases zero : sw = 0
    · exact .inl zero
    · exact .inr (by_contra fun other => isSwitch ⟨zero, other⟩)
  obtain rfl | rfl := byte
  · by_cases off : x.state = .off
    · cases depth <;> simp [Reference.switch, Reference.putDepth, ← off]
    · cases depth <;> simp [Reference.switch, Reference.putDepth, off, Reference.restart, Reference.endRun]
  · by_cases off : x.state = .off
    · cases depth <;> simp [Reference.switch, Reference.putDepth, off, Reference.restart, Reference.endRun]
    · cases depth <;> simp [Reference.switch, Reference.putDepth, off]

/-- A change of the timebase depends only on what it makes of the timebase as it stands. -/
theorem State.modTimebase_congr {s : State} {f g : Timebase → Timebase} (h : f s.timebase = g s.timebase) :
    s.modTimebase f = s.modTimebase g := congrArg (fun t => { s with timebase := t }) h

/-- What follows the result code in the reply to REF_CONFIG for a reference (R13). -/
theorem Reference.configFields_eq (x : Reference) :
    0 :: x.configFields = [0, if x.state = .off then 0 else 1, x.state.code] ++ be 1 x.run ++ be 1 x.depth := by
  cases off : x.state <;> simp [Reference.configFields, boolByte, off]

/-! ## REF_CONFIG to the hub (R18) -/

/-- The step limit as the statements write it (R18). -/
theorem newStepLimit_eq (limit : Option (BitVec 32)) (held : Nat) : newStepLimit limit held = match limit with
    | some v => if v.toNat < 1000 then 1000 else if 1000000 < v.toNat then 1000000 else v.toNat
    | none => held := by
  cases limit with
  | none => rfl
  | some v => exact clampNat_eq (by decide) v.toNat

theorem Timebase.unserved_iff (t : Timebase) :
    t.unserved = true ↔ ¬ ∃ r, t.selection = some r ∧ (t.ref r).state = .usable := by
  cases selection : t.selection with
  | none => simp [Timebase.unserved, selection]
  | some r => simp [Timebase.unserved, selection]

/-- A change of the selection raises REFERENCE, and no change changes nothing (R14). -/
theorem State.setSelection_eq (s : State) (x : Option RefId) : s.setSelection x =
    (s.modTimebase fun t => { t with selection := x }).raiseIf (decide (s.timebase.selection ≠ x)) .reference := by
  unfold State.setSelection
  split
  · next same =>
    subst same
    simp [State.raiseIf, State.modTimebase]
  · next other => simp [State.raiseIf, other]

/-- The reference that auto-select would take, A first (R18). -/
def Timebase.chosen (t : Timebase) : Option RefId :=
  if t.refA.state = .usable then some .refA else if t.refB.state = .usable then some .refB else none

/-- A selection that is served, or that nothing can serve, is kept (R18). -/
theorem State.checkSelection_kept {s : State}
    (kept : (∃ r, s.timebase.selection = some r ∧ (s.timebase.ref r).state = .usable) ∨ s.timebase.chosen = none) :
    s.checkSelection = s := by
  unfold State.checkSelection
  split
  · next unserved =>
    have nothing := kept.resolve_left ((Timebase.unserved_iff _).mp unserved)
    unfold Timebase.chosen at nothing
    split at nothing
    · cases nothing
    · next notA =>
      split at nothing
      · cases nothing
      · next notB => rw [if_neg notA, if_neg notB]
  · rfl

/-- An unserved selection becomes the USABLE reference (R18). -/
theorem State.checkSelection_chosen {s : State} {r : RefId}
    (unserved : ¬ ∃ r, s.timebase.selection = some r ∧ (s.timebase.ref r).state = .usable)
    (chosen : s.timebase.chosen = some r) : s.checkSelection = s.setSelection (some r) := by
  unfold State.checkSelection
  rw [if_pos ((Timebase.unserved_iff _).mpr unserved)]
  unfold Timebase.chosen at chosen
  split at chosen
  · next usableA => cases chosen; rw [if_pos usableA]
  · next notA =>
    split at chosen
    · next usableB => cases chosen; rw [if_neg notA, if_pos usableB]
    · cases chosen

theorem Timebase.chosen_usable {t : Timebase} {r : RefId} (chosen : t.chosen = some r) : (t.ref r).state = .usable := by
  unfold Timebase.chosen at chosen
  split at chosen
  · next usable => cases chosen; exact usable
  · split at chosen
    · next usable => cases chosen; exact usable
    · cases chosen

theorem State.answerHubConfig_of_bad {s : State} {sw : Byte} {reserved : BitVec 7} {limit : Option (BitVec 32)}
    (bad : (sw ≠ 0 ∧ sw ≠ 1) ∨ reserved ≠ 0) : s.answerHubConfig sw reserved limit = (s, [4]) := by
  unfold State.answerHubConfig
  cases on : switchOf sw with
  | none => rfl
  | some on' =>
    have isSwitch : ¬ (sw ≠ 0 ∧ sw ≠ 1) := fun off => by rw [switchOf_eq_none_iff.mpr off] at on; cases on
    exact if_pos (bad.resolve_left isSwitch)

/-- The flag and the limit as REF_CONFIG for the hub stores them (R18). -/
def Timebase.withHub (t : Timebase) (auto : Bool) (limit : Option (BitVec 32)) : Timebase :=
  { t with autoSelect := auto, stepLimit := newStepLimit limit t.stepLimit }

theorem State.answerHubConfig_of_good {s : State} {sw : Byte} {limit : Option (BitVec 32)}
    (isSwitch : sw = 0 ∨ sw = 1) : s.answerHubConfig sw 0 limit =
      let t := s.modTimebase (·.withHub (decide (sw = 1)) limit)
      let t := if decide (sw = 1) && !s.timebase.autoSelect then t.checkSelection else t
      t.ok (boolByte t.timebase.autoSelect :: (be 4 t.timebase.stepLimit ++ [selectionCode t.timebase.selection])) := by
  obtain rfl | rfl := isSwitch <;> rfl

/-- A flag that does not turn on, a served selection, and one that nothing can serve are kept (R18). -/
theorem State.answerHubConfig_kept {s : State} {sw : Byte} {limit : Option (BitVec 32)} (isSwitch : sw = 0 ∨ sw = 1)
    (kept : sw = 0 ∨ s.timebase.autoSelect = true ∨
      (∃ r, s.timebase.selection = some r ∧ (s.timebase.ref r).state = .usable) ∨ s.timebase.chosen = none) :
    s.answerHubConfig sw 0 limit =
      (s.modTimebase (·.withHub (decide (sw = 1)) limit), [0, sw] ++ be 4 (newStepLimit limit s.timebase.stepLimit) ++
        [selectionCode s.timebase.selection]) := by
  have checked : (if decide (sw = 1) && !s.timebase.autoSelect then
      (s.modTimebase (·.withHub (decide (sw = 1)) limit)).checkSelection
      else s.modTimebase (·.withHub (decide (sw = 1)) limit)) = s.modTimebase (·.withHub (decide (sw = 1)) limit) := by
    split
    · next turnedOn =>
      obtain ⟨on, off⟩ := (Bool.and_eq_true _ _).mp turnedOn
      refine State.checkSelection_kept ((kept.resolve_left ?_).resolve_left ?_)
      · rintro rfl
        exact absurd on (by decide)
      · intro auto
        rw [auto] at off
        cases off
    · rfl
  have byte : boolByte (decide (sw = 1)) = sw := by obtain rfl | rfl := isSwitch <;> rfl
  rw [State.answerHubConfig_of_good isSwitch]
  dsimp only
  rw [checked]
  show (_, (0 : Byte) :: boolByte (decide (sw = 1)) :: _) = _
  rw [byte]
  rfl

/-- A flag that turns on while the selection is unserved selects the USABLE reference (R18). -/
theorem State.answerHubConfig_chosen {s : State} {limit : Option (BitVec 32)} {r : RefId}
    (off : s.timebase.autoSelect = false)
    (unserved : ¬ ∃ r, s.timebase.selection = some r ∧ (s.timebase.ref r).state = .usable)
    (chosen : s.timebase.chosen = some r) :
    s.answerHubConfig 1 0 limit =
      ((s.modTimebase fun t => { t.withHub true limit with selection := some r }).raise .reference,
        [0, 1] ++ be 4 (newStepLimit limit s.timebase.stepLimit) ++ [selectionCode (some r)]) := by
  have other : s.timebase.selection ≠ some r := fun same => unserved ⟨r, same, Timebase.chosen_usable chosen⟩
  have checked : (s.modTimebase (·.withHub (decide ((1 : Byte) = 1)) limit)).checkSelection =
      (s.modTimebase fun t => { t.withHub true limit with selection := some r }).raise .reference := by
    refine (State.checkSelection_chosen (s := s.modTimebase (·.withHub true limit)) unserved chosen).trans ?_
    exact if_neg other
  rw [State.answerHubConfig_of_good (.inr rfl), off]
  dsimp only
  rw [if_pos (by decide), checked]
  rfl

/-- A target that is none of the codes is refused (R195). -/
theorem State.answerRefTarget_other (s : State) {target sw : Byte} {reserved : BitVec 7} {value : Option (BitVec 32)}
    (other : target ∉ ([1, 2, 3] : List Byte)) : s.answerRefTarget target sw reserved value = (s, [4]) := by
  have number {k : Nat} (isK : target.toNat = k) : target = BitVec.ofNat 8 k := by
    rw [← isK, BitVec.ofNat_toNat, BitVec.setWidth_eq]
  unfold State.answerRefTarget
  split
  · next is1 => exact absurd (by rw [number is1]; decide) other
  · next is2 => exact absurd (by rw [number is2]; decide) other
  · next is3 => exact absurd (by rw [number is3]; decide) other
  · rfl

@[simp] theorem State.requested_autoSelect (s : State) (dt : Nat) (p : PortId) :
    (s.requested dt p).timebase.autoSelect = s.timebase.autoSelect := by
  rw [State.requested_timebase]
  rfl

@[simp] theorem State.requested_stepLimit (s : State) (dt : Nat) (p : PortId) :
    (s.requested dt p).timebase.stepLimit = s.timebase.stepLimit := by
  rw [State.requested_timebase]
  rfl

theorem State.requested_chosen (s : State) (dt : Nat) (p : PortId) :
    (s.requested dt p).timebase.chosen = s.timebase.chosen := by
  have a : (s.requested dt p).timebase.refA = s.timebase.refA := s.requested_ref dt p .refA
  have b : (s.requested dt p).timebase.refB = s.timebase.refB := s.requested_ref dt p .refB
  rw [Timebase.chosen, Timebase.chosen, a, b]

/-- REF_CONFIG for a reference at a control port, by either of its two rows (log 4). -/
theorem exec_refConfigReference {dt : Nat} {p : PortId} {tag : BitVec 16} {r : RefId} {sw : Byte} {reserved : BitVec 7}
    {depth : Option (BitVec 32)} {s t : State} {body : List Byte} (takes : s.takesAt p) (role : (s.port p).role = .control)
    (answer : (s.requested dt p).answerRefConfig r sw reserved depth = (t, body)) :
    exec (.refConfigReference dt p tag r sw reserved depth) s = .next (t.answered p 0x06 tag body) := by
  cases r
  · exact exec_answered (r := .refConfig 1 sw reserved depth) rfl takes (.inr role) answer
  · exact exec_answered (r := .refConfig 2 sw reserved depth) rfl takes (.inr role) answer

/-- The change that REF_CONFIG makes of a reference, as the statements write it (R13). -/
theorem State.answerRefConfig_changed {s : State} {r : RefId} {x y : Reference} {sw : Byte} {reserved : BitVec 7}
    {depth : Option (BitVec 32)} (isX : s.timebase.ref r = x)
    (good : ¬ ((sw ≠ 0 ∧ sw ≠ 1) ∨ reserved ≠ 0 ∨ ∃ d, depth = some d ∧ d ∉ ([4, 8, 16, 32, 64] : List (BitVec 32))))
    (free : sw = 0 → x.state ≠ .off → s.timebase.selection ≠ some r)
    (isY : (x.switch (decide (sw = 1))).putDepth depth = y) :
    s.answerRefConfig r sw reserved depth = (s.modTimebase fun t => t.setRef r y,
      [0, if y.state = .off then 0 else 1, y.state.code] ++ be 1 y.run ++ be 1 y.depth) := by
  have isSwitch : ¬ (sw ≠ 0 ∧ sw ≠ 1) := fun h => good (.inl h)
  have open' : ¬ (decide (sw = 1) = false ∧ (s.timebase.ref r).state ≠ .off ∧ s.timebase.selection = some r) := by
    rintro ⟨off, on, selected⟩
    rw [isX] at on
    exact free (by_contra fun notOff => isSwitch ⟨notOff, of_decide_eq_false off⟩) on selected
  have changed : (s.modRef r fun x => (x.switch (decide (sw = 1))).putDepth depth) = s.modTimebase fun t => t.setRef r y :=
    State.modTimebase_congr (by dsimp only; rw [isX, isY])
  have read : (s.modTimebase fun t => t.setRef r y).timebase.ref r = y := Timebase.setRef_self s.timebase r y
  rw [State.answerRefConfig_of_good good, if_neg open']
  dsimp only
  rw [changed, read, ← Reference.configFields_eq]
  rfl

/-- Settles O21, by the two shapes of REF_CONFIG and the targets that have none. -/
theorem refConfigSetsItsTarget : Obligations.RefConfigSetsItsTarget := by
  refine ⟨fun dt p tag r sw reserved depth s takes role => ⟨fun bad => ?_, fun good off on selected => ?_,
      fun good free => ?_⟩,
    fun dt p tag sw reserved limit s takes role => ⟨fun bad => ?_, fun isSwitch noBits => ⟨fun kept => ?_,
      fun r on off unserved chosen => ?_⟩⟩,
    fun dt p tag target sw reserved value s saw takes role hunting other => ?_⟩
  · exact exec_refConfigReference takes role (State.answerRefConfig_of_bad bad)
  · refine exec_refConfigReference takes role ((State.answerRefConfig_of_good good).trans (if_pos ⟨?_, ?_, ?_⟩))
    · rw [off]; rfl
    · rwa [State.requested_ref]
    · rwa [State.requested_selection]
  · exact exec_refConfigReference takes role (State.answerRefConfig_changed (State.requested_ref s dt p r) good
      (fun off on => by rw [State.requested_selection]; exact free off on)
      (Reference.switch_putDepth _ (fun h => good (.inl h)) depth))
  · exact exec_answered (r := .refConfig 3 sw reserved limit) rfl takes (.inr role) (State.answerHubConfig_of_bad bad)
  · subst noBits
    have answer := State.answerHubConfig_kept (s := s.requested dt p) (limit := limit) isSwitch (by
      simp only [State.requested_autoSelect, State.requested_selection, State.requested_ref, State.requested_chosen]
      exact kept)
    have state : (s.requested dt p).modTimebase (·.withHub (decide (sw = 1)) limit) = (s.requested dt p).modTimebase
        fun t => { t with autoSelect := decide (sw = 1), stepLimit := newStepLimit limit s.timebase.stepLimit } :=
      State.modTimebase_congr (by rw [Timebase.withHub, State.requested_stepLimit])
    rw [state, State.requested_stepLimit, State.requested_selection, newStepLimit_eq] at answer
    exact exec_answered (r := .refConfig 3 sw 0 limit) rfl takes (.inr role) answer
  · subst noBits on
    have answer := State.answerHubConfig_chosen (s := s.requested dt p) (limit := limit) (r := r)
      (by rwa [State.requested_autoSelect])
      (by simp only [State.requested_selection, State.requested_ref]; exact unserved)
      (by rw [State.requested_chosen]; exact chosen)
    have state : ((s.requested dt p).modTimebase fun t => { t.withHub true limit with selection := some r }) =
        (s.requested dt p).modTimebase fun t =>
          { t with autoSelect := true, stepLimit := newStepLimit limit s.timebase.stepLimit, selection := some r } :=
      State.modTimebase_congr (by rw [Timebase.withHub, State.requested_stepLimit])
    rw [state, State.requested_stepLimit, newStepLimit_eq] at answer
    exact exec_answered (r := .refConfig 3 1 0 limit) rfl takes (.inr role) answer
  · rw [exec_requestFrame_taken takes hunting, State.serve_allowed (.inr (by rw [State.requested_port, role]))]
    simp only [State.answer, State.answerRefTarget_other _ other]
    rfl

/-! ## REF_SELECT (R14) -/

theorem Port.raise_raise (x : Port) (k : NoticeKind) : (x.raise k).raise k = x.raise k := by
  simp only [Port.raise, BitVec.or_assoc, BitVec.or_self]

/-- A kind raised twice in one event is raised once (R185). -/
theorem State.raise_raise (s : State) (k : NoticeKind) : (s.raise k).raise k = s.raise k := by
  simp only [State.raise, Port.raise_raise]

@[simp] theorem State.requested_hubState (s : State) (dt : Nat) (p : PortId) :
    (s.requested dt p).timebase.hubState = s.timebase.hubState := by
  rw [State.requested_timebase]
  rfl

/-- A USABLE reference is selected, and any other is refused (R14). -/
theorem State.answerRefSelect_ref (s : State) (r : RefId) : s.answerRefSelect (selectionCode (some r)) =
    if (s.timebase.ref r).state = .usable then (s.setSelection (some r)).okSelection else (s, [9]) := by
  cases r <;> rfl

theorem State.answerRefSelect_above (s : State) {x : Byte} (above : 2 < x) : s.answerRefSelect x = (s, [4]) := by
  have high : 2 < x.toNat := BitVec.lt_def.mp above
  unfold State.answerRefSelect
  split
  · omega
  · omega
  · omega
  · rfl

/-- NONE selected while the hub is not REFERENCED keeps the hub (R14). -/
theorem State.answerRefSelect_none {s : State} (hub : s.timebase.hubState ≠ .referenced) :
    s.answerRefSelect 0 = ((s.modTimebase fun t => { t with selection := none }).raiseIf
      (decide (s.timebase.selection ≠ none)) .reference, [0, 0, s.timebase.hubState.code]) := by
  have stays : (s.setSelection none).timebase.hubState ≠ .referenced := by rwa [State.setSelection_timebase]
  have held : (s.setSelection none).enterHoldover = s.setSelection none := if_neg stays
  show ((s.setSelection none).enterHoldover).okSelection = _
  rw [held, State.okSelection, State.setSelection_timebase, State.setSelection_eq]
  rfl

/-- NONE selected on a REFERENCED hub puts it in HOLDOVER (R6, R14, R44). -/
theorem State.answerRefSelect_none_referenced {s : State} (hub : s.timebase.hubState = .referenced) :
    s.answerRefSelect 0 = (((s.modTimebase fun t => { t with selection := none, hubState := .holdover }).raise
      .reference).abandonProbes, [0, 0, 2]) := by
  have follows : (s.setSelection none).timebase.hubState = .referenced := by rwa [State.setSelection_timebase]
  have entered : (s.setSelection none).enterHoldover =
      ((s.modTimebase fun t => { t with selection := none, hubState := .holdover }).raise .reference).abandonProbes := by
    have other : (s.setSelection none).timebase.hubState ≠ .holdover := by rw [follows]; exact nofun
    rw [State.enterHoldover, if_pos follows, State.setHubState, if_neg other, State.setSelection]
    congr 1
    split
    · next same => rw [← same]; rfl
    · exact State.raise_raise (s.modTimebase fun t => { t with selection := none, hubState := .holdover }) .reference
  show ((s.setSelection none).enterHoldover).okSelection = _
  rw [entered, State.okSelection, State.abandonProbes_timebase, State.raise_timebase]
  rfl

/-- Settles O22, by the selections that REF_SELECT can name. -/
theorem refSelectSelects : Obligations.RefSelectSelects := by
  intro dt p tag s takes role u
  have hub : u.timebase.hubState = s.timebase.hubState := State.requested_hubState s dt p
  have selection : u.timebase.selection = s.timebase.selection := State.requested_selection s dt p
  refine ⟨fun x above => ?_, fun r => ⟨fun notUsable => ?_, fun usable => ?_⟩, fun other => ?_, fun referenced => ?_⟩
  · exact exec_answered (r := .refSelect x) rfl takes (.inr role) (State.answerRefSelect_above u above)
  · refine exec_answered (r := .refSelect _) rfl takes (.inr role) ((State.answerRefSelect_ref u r).trans (if_neg ?_))
    rwa [State.requested_ref]
  · have answer := (State.answerRefSelect_ref u r).trans (if_pos (by rwa [State.requested_ref]))
    rw [State.okSelection, State.setSelection_timebase, State.setSelection_eq, selection] at answer
    dsimp only at answer
    rw [hub] at answer
    exact exec_answered (r := .refSelect _) rfl takes (.inr role) answer
  · have answer := State.answerRefSelect_none (s := u) (by rwa [hub])
    rw [hub, selection] at answer
    exact exec_answered (r := .refSelect 0) rfl takes (.inr role) answer
  · exact exec_answered (r := .refSelect 0) rfl takes (.inr role)
      (State.answerRefSelect_none_referenced (s := u) (by rwa [hub]))

end Sys2Proof.Machine
end

section
/-! PROOF. Single stations: the calibration requests (O53), binding and enabling (O50), probes that become due (O49) and
the clock timers (O48). -/

namespace Sys2Proof.Machine

/-! ## Calibration (R58 to R62) -/

/-- A station changed from what it is, as one put. -/
theorem State.modStation_of_eq {s : State} {i : StationId} {x : Station} (isX : s.station i = x)
    (f : Station → Station) : s.modStation i f = s.setStation i (f x) := by
  rw [State.modStation_eq, isX]

/-- The reservation of a bank ends when it names the station (R62). -/
theorem State.invalidateReservation_eq (s : State) (i : StationId) : s.invalidateReservation i =
    { s with reservations := match s.reservation i with
      | some y => if y.station = i then s.reservations.set (bankOf i) none else s.reservations
      | none => s.reservations } := by
  unfold State.invalidateReservation
  cases s.reservation i with
  | none => rfl
  | some y => dsimp only; split <;> rfl

section Calibration

variable {s : State} {i : StationId} {p : PortId} {v : BitVec 32} {y : Reservation}

/-- CAL_STAGE and CAL_APPLY at a bank that the port does not hold (R60, R61). -/
theorem stageOutcome_other {e : Option Reservation} (h : e = none ∨ ∃ y, e = some y ∧ y.port ≠ p) :
    stageOutcome p i e = .dropped ∧ applyOutcome p i e = (false, none) := by
  obtain rfl | ⟨y, rfl, other⟩ := h
  · exact ⟨rfl, rfl⟩
  · exact ⟨if_pos other, if_pos other⟩

theorem State.answerCalStage_other (h : s.reservation i = none ∨ ∃ y, s.reservation i = some y ∧ y.port ≠ p) :
    s.answerCalStage p (stationByte i) v = (s, 0 :: 3 :: beInt 4 0) := by
  rw [State.answerCalStage, State.onStation_stationByte, (stageOutcome_other h).1]
  rfl

theorem State.answerCalApply_other (h : s.reservation i = none ∨ ∃ y, s.reservation i = some y ∧ y.port ≠ p) :
    s.answerCalApply p (stationByte i) = (s, 0 :: 0 :: beInt 4 (s.station i).config.calibration) := by
  rw [State.answerCalApply, State.onStation_stationByte, (stageOutcome_other h).2]
  rfl

theorem State.answerCalStage_staged (entry : s.reservation i = some y) (holds : y.port = p) (own : y.station = i)
    (free : y.staged = none) : s.answerCalStage p (stationByte i) v =
      (s.setReservation i (some { port := p, station := i, staged := some (clampCalibration v) }),
        0 :: 1 :: beInt 4 (clampCalibration v)) := by
  rw [State.answerCalStage, State.onStation_stationByte, entry]
  simp only [stageOutcome, holds, own, free, ne_eq, not_true_eq_false, if_false, and_self, if_true]
  rfl

theorem State.answerCalStage_cancelled (entry : s.reservation i = some y) (holds : y.port = p)
    (other : y.station ≠ i ∨ y.staged ≠ none) :
    s.answerCalStage p (stationByte i) v = (s.setReservation i none, 0 :: 2 :: beInt 4 0) := by
  have notOwn : ¬ (y.station = i ∧ y.staged = none) := fun ⟨own, free⟩ => other.elim (absurd own) (absurd free)
  rw [State.answerCalStage, State.onStation_stationByte, entry]
  simp only [stageOutcome, holds, notOwn, ne_eq, not_true_eq_false, if_false]
  rfl

theorem State.answerCalApply_applied {d : Int} (entry : s.reservation i = some y) (holds : y.port = p)
    (own : y.station = i) (staged : y.staged = some d) : s.answerCalApply p (stationByte i) =
      ((s.setReservation i none).setStation i
        { s.station i with config := { (s.station i).config with calibration := d } }, 0 :: 1 :: beInt 4 d) := by
  rw [State.answerCalApply, State.onStation_stationByte, entry]
  simp only [applyOutcome, holds, own, staged, ne_eq, not_true_eq_false, if_false, if_true]
  rfl

theorem State.answerCalApply_ended (entry : s.reservation i = some y) (holds : y.port = p)
    (other : y.station ≠ i ∨ y.staged = none) : s.answerCalApply p (stationByte i) =
      (s.setReservation i none, 0 :: 0 :: beInt 4 (s.station i).config.calibration) := by
  have outcome : applyOutcome p i (some y) = (true, none) := by
    unfold applyOutcome
    dsimp only
    rw [if_neg (fun ne => ne holds)]
    split
    · next own => rw [other.resolve_left (fun ne => ne own)]
    · rfl
  rw [State.answerCalApply, State.onStation_stationByte, entry, outcome]
  rfl

end Calibration

/-- Settles O53, by the tables of the four requests. -/
theorem calibrationFollowsItsTables : Obligations.CalibrationFollowsItsTables := by
  intro dt p tag b v s takes u c
  have station (i : StationId) : u.station i = s.station i := State.requested_station s dt p i
  have reservation (i : StationId) : u.reservation i = s.reservation i := State.requested_reservation s dt p i
  have table : u.reservations = s.reservations := State.requested_reservations s dt p
  have put (i : StationId) (y : Option Reservation) : u.setReservation i y =
      { u with reservations := s.reservations.set (bankOf i) y } := by rw [State.setReservation, table]
  have clamped : clampCalibration v = c := rfl
  refine ⟨fun above => ⟨?_, ?_, ?_, ?_⟩, fun i isI => ?_⟩
  · exact exec_answered (r := .calSet b v) rfl takes (.inl rfl) (State.onStation_above above u _)
  · exact exec_answered (r := .calReserve b) rfl takes (.inl rfl) (State.onStation_above above u _)
  · exact exec_answered (r := .calStage b v) rfl takes (.inl rfl) (State.onStation_above above u _)
  · exact exec_answered (r := .calApply b) rfl takes (.inl rfl) (State.onStation_above above u _)
  subst isI
  refine ⟨fun disabled => ⟨?_, ?_⟩, fun enabled => ⟨fun w isW => ?_, ?_⟩, fun other => ⟨?_, ?_⟩,
    fun y entry holds => ⟨fun own free => ?_, fun other => ?_, fun d own staged => ?_, fun other => ?_⟩⟩
  · exact exec_answered (r := .calSet _ v) rfl takes (.inl rfl)
      ((State.onStation_stationByte u i _).trans (if_neg (by rw [station, disabled]; exact nofun)))
  · exact exec_answered (r := .calReserve _) rfl takes (.inl rfl)
      ((State.onStation_stationByte u i _).trans (if_neg (by rw [station, disabled]; exact nofun)))
  · have answer : u.answerCalSet (stationByte i) v = _ :=
      (State.onStation_stationByte u i _).trans (if_pos (by rw [station, enabled]))
    have ended : (u.putCalibration i c).invalidateReservation i = w.setStation i
        { s.station i with config := { (s.station i).config with calibration := c } } := by
      rw [State.putCalibration, State.modStation_of_eq (station i), isW]
      unfold State.invalidateReservation
      rw [show (u.setStation i _).reservation i = s.reservation i from reservation i]
      split
      · next y entry =>
        split
        · next own => rw [if_pos ⟨y, entry, own⟩]; exact congrArg (State.setStation · i _) (put i none)
        · next other =>
          rw [if_neg]
          rintro ⟨z, entry', own⟩
          rw [entry] at entry'
          cases entry'
          exact other own
      · next entry =>
        rw [if_neg]
        rintro ⟨z, entry', _⟩
        rw [entry] at entry'
        cases entry'
    rw [clamped, ended] at answer
    exact exec_answered (r := .calSet _ v) rfl takes (.inl rfl) answer
  · have answer : u.answerCalReserve p (stationByte i) = _ :=
      (State.onStation_stationByte u i _).trans (if_pos (by rw [station, enabled]))
    rw [put, station, reservation] at answer
    have run := exec_answered (dt := dt) (tag := tag) (r := .calReserve _) rfl takes (.inl rfl) answer
    cases entry : s.reservation i <;> rw [entry] at run <;> exact run
  · exact exec_answered (r := .calStage _ v) rfl takes (.inl rfl)
      (State.answerCalStage_other (by rwa [reservation]))
  · have answer := State.answerCalApply_other (s := u) (i := i) (p := p) (by rwa [reservation])
    rw [station] at answer
    exact exec_answered (r := .calApply _) rfl takes (.inl rfl) answer
  · have answer := State.answerCalStage_staged (v := v) ((reservation i).trans entry) holds own free
    rw [put] at answer
    exact exec_answered (r := .calStage _ v) rfl takes (.inl rfl) answer
  · have answer := State.answerCalStage_cancelled (v := v) ((reservation i).trans entry) holds other
    rw [put] at answer
    exact exec_answered (r := .calStage _ v) rfl takes (.inl rfl) answer
  · have answer := State.answerCalApply_applied ((reservation i).trans entry) holds own staged
    rw [put, station] at answer
    exact exec_answered (r := .calApply _) rfl takes (.inl rfl) answer
  · have answer := State.answerCalApply_ended ((reservation i).trans entry) holds other
    rw [put, station] at answer
    exact exec_answered (r := .calApply _) rfl takes (.inl rfl) answer

/-! ## Probes that become due (R91, R94) -/

/-- Settles O49, by the tests of PROBE_NOW in their order and the schedule that has come due. -/
theorem probesBecomeDue : Obligations.ProbesBecomeDue := by
  refine ⟨fun dt p tag b s takes role => ?_, fun dt i d s running schedule => ⟨fun enabled due => ?_, fun early => ?_⟩⟩
  · intro u
    have station (i : StationId) : u.station i = s.station i := State.requested_station s dt p i
    have link (l : LinkId) : u.link l = s.link l := State.requested_link s dt p l
    have time : u.partTime = (s.timebase.oscNs + dt) / 1000000 := by
      rw [State.partTime, State.requested_timebase]
      rfl
    refine ⟨fun above => ?_, fun i isI => ⟨fun disabled => ?_, fun bd enabled binding => ⟨fun down => ?_, fun sends => ?_⟩⟩⟩
    · exact exec_answered (r := .probeNow b) rfl takes (.inr role) (State.onStation_above above u _)
    · subst isI
      exact exec_answered (r := .probeNow _) rfl takes (.inr role)
        ((State.onStation_stationByte u i _).trans (if_pos (by rw [station, disabled])))
    · subst isI
      have quiet : (s.link bd.link).state.sends = false := by
        obtain off | down := down
        · rw [off]; rfl
        · rw [down]; rfl
      refine exec_answered (r := .probeNow _) rfl takes (.inr role) (body := [16]) ?_
      simp only [State.answer, State.answerProbeNow, State.onStation_stationByte, ← show u = s.requested dt p from rfl, station,
        enabled, binding, link, quiet, Bool.true_eq_false, Bool.false_eq_true, if_false]
      rfl
    · subst isI
      have up : (s.link bd.link).state.sends = true := by
        obtain up | silent := sends
        · rw [up]; rfl
        · rw [silent]; rfl
      refine exec_answered (r := .probeNow _) rfl takes (.inr role) ?_
      simp only [State.answer, State.answerProbeNow, State.onStation_stationByte, ← show u = s.requested dt p from rfl, station,
        enabled, binding, link, up, time, Bool.true_eq_false, if_false, if_true]
      rfl
  · refine State.event_of_eq (body := (State.probeFallsDue · i)) running (if_pos ⟨enabled, ?_⟩)
    simp only [State.advance_station, schedule, State.isDue, due, decide_true]
  · refine State.event_of_eq (body := (State.probeFallsDue · i)) running (if_neg ?_)
    rintro ⟨enabled, due⟩
    simp only [State.advance_station, schedule, State.isDue, decide_eq_true_eq] at enabled due
    rcases early with disabled | early
    · rw [disabled] at enabled
      cases enabled
    · omega

/-! ## Clock timers (R118, R119) -/

/-- Settles O48, by the two timers' tests. -/
theorem clockTimersRunOut : Obligations.ClockTimersRunOut := by
  intro dt i d s running x now
  have station : (s.advance dt).station i = x := State.advance_station s dt i
  have isDue : (s.advance dt).isDue (some d) = decide (d ≤ now) := rfl
  have put (c : Clock) (other : c.state ≠ x.clock.state) : (s.advance dt).putClock i c =
      ((s.advance dt).setStation i { x with clock := c }).raise .station := by
    rw [State.putClock, station, State.modStation_of_eq station, decide_eq_true other]
    rfl
  refine ⟨fun due => ⟨fun early => ?_, fun late locked => ?_⟩, fun due => ⟨fun early => ?_, fun late holds => ?_⟩⟩
  · refine State.event_of_eq (body := (State.silenceExpires · i)) running (if_neg ?_)
    rw [station, due, isDue]
    exact fun h => absurd (of_decide_eq_true h.2) (Nat.not_le.mpr early)
  · refine State.event_of_eq (body := (State.silenceExpires · i)) running ?_
    have expires : (s.advance dt).silenceExpires i = (s.advance dt).putClock i x.clock.silenceOut := by
      simp only [State.silenceExpires, station, locked, due, isDue, late, decide_true, and_self, if_true]
    rw [expires, put _ (by rw [locked]; exact nofun)]
    rfl
  · refine State.event_of_eq (body := (State.holdoverExpires · i)) running (if_neg ?_)
    rw [station, due, isDue]
    exact fun h => absurd (of_decide_eq_true h.2) (Nat.not_le.mpr early)
  · refine State.event_of_eq (body := (State.holdoverExpires · i)) running ?_
    have runs : x.clock.state.holdsOver = true := by
      rcases holds with is | is | is <;> rw [is] <;> rfl
    have expires : (s.advance dt).holdoverExpires i = (s.advance dt).putClock i x.clock.holdoverOut := by
      simp only [State.holdoverExpires, station, runs, due, isDue, late, decide_true, and_self, if_true]
    rw [expires, put _ (by rcases holds with is | is | is <;> rw [is] <;> exact nofun)]
    rfl

/-! ## Binding and enabling (R49, R50) -/

/-- The first number of a search in ascending order is the lowest that passes. -/
theorem find?_finRange_eq_some {n : Nat} {q : Fin n → Bool} {j : Fin n} (passes : q j = true)
    (lowest : ∀ k, q k = true → j ≤ k) : (List.finRange n).find? q = some j := by
  refine List.find?_eq_some_iff_getElem.mpr ⟨passes, j.val, by simp, by simp, fun k below => ?_⟩
  rw [List.getElem_finRange]
  cases found : q (Fin.cast List.length_finRange ⟨k, Nat.lt_trans below (by simp)⟩) with
  | false => simp
  | true => exact absurd (lowest _ found) (by simpa [Fin.le_def] using below)

theorem find?_finRange_eq_none {n : Nat} {q : Fin n → Bool} (none : ∀ k, q k ≠ true) :
    (List.finRange n).find? q = Option.none :=
  List.find?_eq_none.mpr fun k _ => none k

theorem rateOf_hz {r : Byte} {rate : Rate} (h : r.toNat = rate.hz) : rateOf r = some rate := by
  cases rate <;> simp only [rateOf, h, Rate.hz]

theorem rateOf_other {r : Byte} (h : r.toNat ∉ [20, 40, 50, 100, 200]) : rateOf r = none := by
  simp only [List.mem_cons, List.not_mem_nil, or_false, not_or] at h
  obtain ⟨n20, n40, n50, n100, n200⟩ := h
  unfold rateOf
  split
  · next e => exact absurd e n20
  · next e => exact absurd e n40
  · next e => exact absurd e n50
  · next e => exact absurd e n100
  · next e => exact absurd e n200
  · rfl

/-- A binding with a value outside its set (R49). -/
theorem makeBinding_bad {l a r c : Byte} (bad : 5 < l ∨ r.toNat ∉ [20, 40, 50, 100, 200] ∨ c = 0 ∨ 3 < c) :
    makeBinding l a r c = none := by
  have components : c = 0 ∨ 3 < c → ¬ (1 ≤ c.toNat ∧ c.toNat ≤ 3) := by
    rintro (rfl | many) ⟨some, few⟩
    · exact absurd some (by decide)
    · exact absurd (BitVec.lt_def.mp many) (Nat.not_lt.mpr few)
  unfold makeBinding
  split
  · next k rate link isRate =>
    rcases bad with above | other | c
    · rw [linkOf_above above] at link; cases link
    · rw [rateOf_other other] at isRate; cases isRate
    · exact if_neg (components c)
  · rfl

/-- A binding with each value in its set (R49). -/
theorem makeBinding_good {k : LinkId} {rate : Rate} {a r c : Byte} (isRate : r.toNat = rate.hz) (some : 1 ≤ c)
    (few : c ≤ 3) : makeBinding (linkByte k) a r c =
      Option.some { link := k, address := a, rate := rate, components := c.toNat } := by
  unfold makeBinding
  rw [linkOf_linkByte, rateOf_hz isRate]
  exact if_pos ⟨BitVec.le_def.mp some, BitVec.le_def.mp few⟩

/-- The binding's fields are the bytes carried, with the period (R49). -/
theorem Binding.fields_carried {k : LinkId} {rate : Rate} {a r c : Byte} (isRate : r.toNat = rate.hz) :
    0 :: ({ link := k, address := a, rate := rate, components := c.toNat } : Binding).fields =
      [0, linkByte k, a, r, c] ++ be 4 (1000000000 / rate.hz) := by
  have rateByte : be 1 rate.hz = [r] := by rw [← isRate]; simp [be]
  have componentByte : be 1 c.toNat = [c] := by simp [be]
  have period : rate.period = 1000000000 / rate.hz := by cases rate <;> rfl
  rw [Binding.fields, rateByte, componentByte, period]
  rfl

/-- The stations that hold a pair are those the search for a holder looks at (R50). -/
theorem holder_test (s : State) (i j : StationId) (b : Binding) :
    (decide (j ≠ i) && (s.station j).enabled &&
      match (s.station j).binding with
      | some c => decide (c.link = b.link) && decide (c.address = b.address)
      | none => false) = true ↔
    j ≠ i ∧ (s.station j).enabled = true ∧
      ∃ c, (s.station j).binding = some c ∧ b.link = c.link ∧ b.address = c.address := by
  cases (s.station j).binding with
  | none => simp
  | some c => simp [and_assoc, @eq_comm _ b.link, @eq_comm _ b.address]

theorem State.holder_eq_some {s : State} {i j : StationId} {x : Station} {b : Binding} (binding : x.binding = some b)
    (holds : j ≠ i ∧ (s.station j).enabled = true ∧ sharePair x (s.station j))
    (lowest : ∀ k, k ≠ i ∧ (s.station k).enabled = true ∧ sharePair x (s.station k) → j ≤ k) :
    s.holder i b = some j := by
  have pair (k : StationId) : sharePair x (s.station k) ↔
      ∃ c, (s.station k).binding = some c ∧ b.link = c.link ∧ b.address = c.address := by
    constructor
    · rintro ⟨b', c, isB, bound, link, address⟩
      cases binding.symm.trans isB
      exact ⟨c, bound, link, address⟩
    · rintro ⟨c, bound, link, address⟩
      exact ⟨b, c, binding, bound, link, address⟩
  refine find?_finRange_eq_some ((holder_test s i j b).mpr ?_) fun k passes => lowest k ?_
  · rwa [← pair]
  · rw [pair]; exact (holder_test s i k b).mp passes

theorem State.holder_free {s : State} {i : StationId} {x : Station} {b : Binding} (binding : x.binding = some b)
    (free : ∀ j, ¬ (j ≠ i ∧ (s.station j).enabled = true ∧ sharePair x (s.station j))) : s.holder i b = none := by
  refine find?_finRange_eq_none fun k passes => free k ?_
  obtain ⟨other, enabled, c, bound, link, address⟩ := (holder_test s i k b).mp passes
  exact ⟨other, enabled, b, c, binding, bound, link, address⟩

section Binding

variable {s : State} {i : StationId} {x : Station}

theorem State.answerStationEnable_disabled (isX : s.station i = x) (disabled : x.enabled = false) :
    s.answerStationEnable (stationByte i) = match x.binding with
      | none => (s, [7])
      | some b =>
        match s.holder i b with
        | some j => (s, [15, stationByte j])
        | none => (s.setStation i x.enable, [0]) := by
  rw [State.answerStationEnable, State.onStation_stationByte, isX, disabled, if_neg Bool.false_ne_true,
    State.modStation_of_eq isX]
  rfl

theorem State.answerStationBind_disabled (isX : s.station i = x) (disabled : x.enabled = false) (l a r c : Byte) :
    s.answerStationBind (stationByte i) l a r c = match makeBinding l a r c with
      | none => (s, [4])
      | some b => (s.setStation i { x with binding := some b, backfillStamp := none, probeStamp := none },
          0 :: b.fields) := by
  rw [State.answerStationBind, State.onStation_stationByte, isX, if_neg (by rw [disabled]; exact nofun)]
  cases makeBinding l a r c with
  | none => rfl
  | some b => dsimp only; rw [State.modStation_of_eq isX]; rfl

end Binding

/-- Settles O50, by the tests of the two requests in their order. -/
theorem stationsAreBoundAndEnabled : Obligations.StationsAreBoundAndEnabled := by
  intro dt p tag b l a r c s takes role u
  have station (i : StationId) : u.station i = s.station i := State.requested_station s dt p i
  refine ⟨fun above => ⟨?_, ?_⟩, fun i isI => ?_⟩
  · exact exec_answered (r := .stationBind b l a r c) rfl takes (.inr role) (State.onStation_above above u _)
  · exact exec_answered (r := .stationEnable b) rfl takes (.inr role) (State.onStation_above above u _)
  subst isI
  intro x
  refine ⟨fun enabled => ⟨?_, ?_⟩, fun disabled => ⟨fun bad => ?_, fun k rate link isRate some few => ?_, fun unbound => ?_,
    fun bd binding => ⟨fun j holds lowest => ?_, fun free => ?_⟩⟩⟩
  · exact exec_answered (r := .stationBind _ l a r c) rfl takes (.inr role)
      ((State.onStation_stationByte u i _).trans (if_pos (by rw [station]; exact enabled)))
  · exact exec_answered (r := .stationEnable _) rfl takes (.inr role)
      ((State.onStation_stationByte u i _).trans (if_pos (by rw [station]; exact enabled)))
  · have answer := State.answerStationBind_disabled (station i) disabled l a r c
    rw [makeBinding_bad bad] at answer
    exact exec_answered (r := .stationBind _ l a r c) rfl takes (.inr role) answer
  · subst link
    have answer := State.answerStationBind_disabled (station i) disabled (linkByte k) a r c
    rw [makeBinding_good isRate some few] at answer
    dsimp only at answer
    rw [Binding.fields_carried isRate] at answer
    exact exec_answered (r := .stationBind _ (linkByte k) a r c) rfl takes (.inr role) answer
  · have answer := State.answerStationEnable_disabled (station i) disabled
    rw [unbound] at answer
    exact exec_answered (r := .stationEnable _) rfl takes (.inr role) answer
  · have answer := State.answerStationEnable_disabled (station i) disabled
    have holder : u.holder i bd = Option.some j := State.holder_eq_some binding (by rw [station]; exact holds)
      fun k => by rw [station]; exact lowest k
    rw [binding] at answer
    dsimp only at answer
    rw [holder] at answer
    exact exec_answered (r := .stationEnable _) rfl takes (.inr role) answer
  · have answer := State.answerStationEnable_disabled (station i) disabled
    have holder : u.holder i bd = none := State.holder_free binding fun j => by rw [station]; exact free j
    rw [binding] at answer
    dsimp only at answer
    rw [holder] at answer
    exact exec_answered (r := .stationEnable _) rfl takes (.inr role) answer

end Sys2Proof.Machine
end

section
/-! PROOF. Kinds raised at the ports, what a change of the timebase leaves alone, and the pulses, messages and windows of
the references: O23 and O25. -/

namespace Sys2Proof.Machine

/-! ## Kinds raised (R184, R185) -/

/-- A port whose notice set has grown by kinds that its mask passes, and whose forced-free count may have grown. -/
def Port.Raised (x y : Port) : Prop :=
  ∃ b k, y = { x with notices := x.notices ||| (b &&& x.mask), forcedFrees := k }

namespace Port.Raised

theorem refl (x : Port) : Port.Raised x x := ⟨0, x.forcedFrees, by simp⟩

theorem trans {x y z : Port} (h : Port.Raised x y) (k : Port.Raised y z) : Port.Raised x z := by
  obtain ⟨a, m, rfl⟩ := h
  obtain ⟨b, n, rfl⟩ := k
  refine ⟨a ||| b, n, ?_⟩
  simp only [Port.mk.injEq, true_and, and_true]
  rw [BitVec.or_assoc, ← BitVec.and_or_distrib_right]

theorem raise (x : Port) (k : NoticeKind) : Port.Raised x (x.raise k) := ⟨k.bit, x.forcedFrees, rfl⟩

theorem line {x y : Port} (h : Port.Raised x y) : y.line = x.line := by
  obtain ⟨_, _, rfl⟩ := h
  rfl

theorem mask {x y : Port} (h : Port.Raised x y) : y.mask = x.mask := by
  obtain ⟨_, _, rfl⟩ := h
  rfl

end Port.Raised

/-- Both ports have only had kinds raised. -/
def Raises (s t : State) : Prop := ∀ p, Port.Raised (s.port p) (t.port p)

/-- A kind has been raised at both ports. -/
def KindRaised (bit : BitVec 8) (s t : State) : Prop :=
  ∀ p, (t.port p).notices &&& bit = ((s.port p).notices ||| (s.port p).mask) &&& bit

section Raises

variable {s t u : State}

theorem Raises.refl (s : State) : Raises s s := fun p => .refl (s.port p)

theorem Raises.trans (h : Raises s t) (k : Raises t u) : Raises s u := fun p => (h p).trans (k p)

theorem Raises.of_port (same : ∀ p, t.port p = s.port p) : Raises s t := fun p => by rw [same p]; exact .refl _

theorem Raises.raise (s : State) (k : NoticeKind) : Raises s (s.raise k) := fun p => by
  cases p <;> exact .raise _ k

theorem Raises.raiseIf (s : State) (b : Bool) (k : NoticeKind) : Raises s (s.raiseIf b k) := by
  unfold State.raiseIf
  split
  · exact .raise s k
  · exact .refl s

theorem Raises.foldl {α : Type} {f : State → α → State} (h : ∀ s x, Raises s (f s x)) :
    ∀ (l : List α) (s : State), Raises s (l.foldl f s)
  | [], s => .refl s
  | x :: xs, s => (h s x).trans (Raises.foldl h xs (f s x))

theorem KindRaised.raise (s : State) (k : NoticeKind) : KindRaised k.bit s (s.raise k) := fun p => by
  have raised : ((s.raise k).port p).notices = (s.port p).notices ||| (k.bit &&& (s.port p).mask) := by cases p <;> rfl
  rw [raised, BitVec.and_or_distrib_right, BitVec.and_or_distrib_right, BitVec.and_comm k.bit, BitVec.and_assoc,
    BitVec.and_self]

/-- A raised kind stays raised. -/
theorem KindRaised.after {bit : BitVec 8} (h : KindRaised bit s t) (k : Raises t u) (before : Raises s t) :
    KindRaised bit s u := fun p => by
  obtain ⟨b, n, isU⟩ := k p
  have notices : (u.port p).notices = (t.port p).notices ||| (b &&& (t.port p).mask) := by rw [isU]
  rw [notices, (before p).mask, BitVec.and_or_distrib_right, h p]
  ext i
  simp only [BitVec.getElem_or, BitVec.getElem_and]
  cases (s.port p).notices[i] <;> cases (s.port p).mask[i] <;> cases b[i] <;> cases bit[i] <;> rfl

/-- What was raised before does not hinder. -/
theorem KindRaised.before {bit : BitVec 8} (k : Raises s t) (h : KindRaised bit t u) : KindRaised bit s u := fun p => by
  obtain ⟨b, n, isT⟩ := k p
  have notices : (t.port p).notices = (s.port p).notices ||| (b &&& (s.port p).mask) := by rw [isT]
  rw [h p, notices, (k p).mask]
  ext i
  simp only [BitVec.getElem_or, BitVec.getElem_and]
  cases (s.port p).notices[i] <;> cases (s.port p).mask[i] <;> cases b[i] <;> rfl

/-- A port whose line sends at the event's end what it sent before has chosen nothing (R184). -/
theorem Port.choose_of_line {x : Port} {now : Nat} (same : (x.choose now).line = x.line) : x.choose now = x := by
  cases line : x.line with
  | free =>
    cases reply : x.reply with
    | some f =>
      rw [Port.choose_reply now line reply] at same
      exact absurd (same.trans line) nofun
    | none =>
      by_cases raised : x.notices = 0
      · exact Port.choose_nothing now line reply raised
      · rw [Port.choose_notice now line reply raised] at same
        exact absurd (same.trans line) nofun
  | reply => simp only [Port.choose, line]
  | notice set t0 => simp only [Port.choose, line]

/-- The event's end keeps a raised kind in the set of a port whose line goes on as before. -/
theorem KindRaised.endEvent {bit : BitVec 8} (h : KindRaised bit s t) (raises : Raises s t) (p : PortId)
    (same : (t.endEvent.port p).line = (s.port p).line) :
    (t.endEvent.port p).notices &&& bit = ((s.port p).notices ||| (s.port p).mask) &&& bit := by
  rw [State.endEvent_port] at same ⊢
  rw [Port.choose_of_line (same.trans (raises p).line.symm)]
  exact h p

end Raises

/-! ## What a change of the timebase leaves alone -/

/-- Only the timebase, the links and the ports' notice sets differ. -/
structure HubFrame (s t : State) : Prop where
  stations : t.stations = s.stations
  reservations : t.reservations = s.reservations
  assembler : t.assembler = s.assembler
  store : t.store = s.store
  held : t.held = s.held
  raises : Raises s t

namespace HubFrame

variable {s t u : State}

theorem refl (s : State) : HubFrame s s := ⟨rfl, rfl, rfl, rfl, rfl, .refl s⟩

theorem trans (h : HubFrame s t) (k : HubFrame t u) : HubFrame s u :=
  ⟨k.stations.trans h.stations, k.reservations.trans h.reservations, k.assembler.trans h.assembler,
    k.store.trans h.store, k.held.trans h.held, h.raises.trans k.raises⟩

theorem modTimebase (s : State) (f : Timebase → Timebase) : HubFrame s (s.modTimebase f) :=
  ⟨rfl, rfl, rfl, rfl, rfl, .of_port (State.modTimebase_port s f)⟩

theorem advance (s : State) (dt : Nat) : HubFrame s (s.advance dt) := modTimebase s _

theorem raise (s : State) (k : NoticeKind) : HubFrame s (s.raise k) := ⟨rfl, rfl, rfl, rfl, rfl, .raise s k⟩

theorem raiseIf (s : State) (b : Bool) (k : NoticeKind) : HubFrame s (s.raiseIf b k) := by
  unfold State.raiseIf
  split
  · exact raise s k
  · exact refl s

theorem modLink (s : State) (l : LinkId) (f : Link → Link) : HubFrame s (s.modLink l f) :=
  ⟨rfl, rfl, rfl, rfl, rfl, .of_port (State.modLink_port s l f)⟩

theorem abandonProbe (s : State) (l : LinkId) : HubFrame s (s.abandonProbe l) := by
  unfold State.abandonProbe
  split
  · exact (modLink s l _).trans (raiseIf _ _ _)
  · exact refl s

theorem abandonProbe_foldl (ls : List LinkId) (s : State) : HubFrame s (ls.foldl State.abandonProbe s) := by
  induction ls generalizing s with
  | nil => exact refl s
  | cons l ls ih => exact (abandonProbe s l).trans (ih _)

theorem abandonProbes (s : State) : HubFrame s s.abandonProbes := abandonProbe_foldl _ s

theorem setHubState (s : State) (h : HubState) : HubFrame s (s.setHubState h) := by
  unfold State.setHubState
  split
  · exact refl s
  · exact ((modTimebase s _).trans (raise _ _)).trans (abandonProbes _)

theorem enterHoldover (s : State) : HubFrame s s.enterHoldover := by
  unfold State.enterHoldover
  split
  · exact setHubState s _
  · exact refl s

theorem setSelection (s : State) (x : Option RefId) : HubFrame s (s.setSelection x) := by
  unfold State.setSelection
  split
  · exact refl s
  · exact (modTimebase s _).trans (raise _ _)

theorem fallback (s : State) (r : RefId) : HubFrame s (s.fallback r) := by
  unfold State.fallback
  split
  · exact setSelection s _
  · exact enterHoldover s

theorem afterRef (s : State) (r : RefId) (before : RefState) : HubFrame s (s.afterRef r before) := by
  unfold State.afterRef
  dsimp only
  split
  · exact (raiseIf s _ _).trans (fallback _ r)
  · split
    · exact (raiseIf s _ _).trans (setSelection _ _)
    · exact raiseIf s _ _

end HubFrame

/-- Hub time stepped to a target before the hub's state follows (R17). -/
def State.stepTime (s : State) (target : Int) : State :=
  let step := target - s.timebase.hubTime
  match s.timebase.hubState with
  | .unset => s.modTimebase fun t => { t with hubTime := target, lastStep := 0 }
  | .holdover => s.modTimebase fun t => { t with hubTime := target, lastStep := step }
  | .referenced =>
    let large := decide (s.timebase.stepLimit < step.natAbs)
    (s.modTimebase fun t =>
      { t with hubTime := target, lastStep := step
               largeSteps := if large then bump t.largeSteps else t.largeSteps }).raiseIf large .reference

theorem State.stepHub_eq (s : State) (second : Nat) :
    s.stepHub second = ((s.stepTime ((second : Int) * nsPerSecond)).setHubState .referenced).closeDeadlines := rfl

theorem HubFrame.stepTime (s : State) (target : Int) : HubFrame s (s.stepTime target) := by
  unfold State.stepTime
  dsimp only
  split
  · exact .modTimebase s _
  · exact .modTimebase s _
  · exact (HubFrame.modTimebase s _).trans (.raiseIf _ _ _)

/-! ## A timebase after a change of one reference -/

namespace Timebase

theorem afterRef_ref (t : Timebase) (r q : RefId) (before : RefState) : (t.afterRef r before).ref q = t.ref q := by
  unfold afterRef fellBack heldOver
  split
  · split
    · cases q <;> rfl
    · split <;> cases q <;> rfl
  · split <;> cases q <;> rfl

theorem stepped_ref (t : Timebase) (target : Int) (q : RefId) : (t.stepped target).ref q = t.ref q := by
  cases q <;> rfl

/-- What a change of a reference's state leaves of the timebase besides selection and hub state. -/
structure SameClock (t u : Timebase) : Prop where
  oscNs : u.oscNs = t.oscNs
  hubTime : u.hubTime = t.hubTime
  lastStep : u.lastStep = t.lastStep
  largeSteps : u.largeSteps = t.largeSteps
  autoSelect : u.autoSelect = t.autoSelect
  stepLimit : u.stepLimit = t.stepLimit
  grid : u.grid = t.grid

theorem SameClock.setRef (t : Timebase) (r : RefId) (x : Reference) : SameClock t (t.setRef r x) := by
  cases r <;> exact ⟨rfl, rfl, rfl, rfl, rfl, rfl, rfl⟩

theorem SameClock.trans {t u v : Timebase} (h : SameClock t u) (k : SameClock u v) : SameClock t v :=
  ⟨k.oscNs.trans h.oscNs, k.hubTime.trans h.hubTime, k.lastStep.trans h.lastStep, k.largeSteps.trans h.largeSteps,
    k.autoSelect.trans h.autoSelect, k.stepLimit.trans h.stepLimit, k.grid.trans h.grid⟩

theorem SameClock.afterRef (t : Timebase) (r : RefId) (before : RefState) : SameClock t (t.afterRef r before) := by
  unfold Timebase.afterRef fellBack heldOver
  split
  · split
    · exact ⟨rfl, rfl, rfl, rfl, rfl, rfl, rfl⟩
    · split <;> exact ⟨rfl, rfl, rfl, rfl, rfl, rfl, rfl⟩
  · split <;> exact ⟨rfl, rfl, rfl, rfl, rfl, rfl, rfl⟩

end Timebase

/-- Hub time goes on with the oscillator outside UNSET (R6). -/
theorem State.advance_hubTime (s : State) (dt : Nat) : (s.advance dt).timebase.hubTime =
    if s.timebase.hubState = .unset then s.timebase.hubTime else s.timebase.hubTime + dt := by
  split
  · next unset => simp [State.advance, State.modTimebase, unset]
  · next set => exact State.advance_hubTime_of_set dt set

/-! ## Messages and windows (R8, R12, R16) -/

theorem State.refMessage_off {s : State} {r : RefId} (off : (s.timebase.ref r).state = .off) (intact locked : Bool)
    (second : Nat) : s.modRef r (Reference.message intact locked second) = s := by
  have same : (s.timebase.ref r).message intact locked second = s.timebase.ref r := if_pos off
  rw [State.modRef, State.modTimebase, same]
  cases r <;> rfl

/-- The window of a USABLE reference runs out (R12). -/
theorem Reference.windowOut_usable {x : Reference} (usable : x.state = .usable) : x.windowOut = { x with
    state := .fault, run := 0, stages := 0, missedPulses := bump x.missedPulses, faults := bump x.faults
    window := none } := by
  simp only [Reference.windowOut, usable]
  rfl

theorem Reference.windowOut_stabilizing {x : Reference} (stabilizing : x.state = .stabilizing) : x.windowOut = { x with
    state := .absent, run := 0, stages := 0, missedPulses := bump x.missedPulses, window := none } := by
  simp only [Reference.windowOut, stabilizing]
  rfl

/-- A change into FAULT raises REFERENCE (R19). -/
theorem State.afterRef_fault {s : State} {r : RefId} {before : RefState} (fault : (s.timebase.ref r).state = .fault)
    (other : before ≠ .fault) : KindRaised 0x10 s (s.afterRef r before) := by
  have raised : KindRaised 0x10 s (s.raise .reference) := .raise s .reference
  have first : s.raiseIf (decide ((s.timebase.ref r).state ≠ before) && (decide ((s.timebase.ref r).state = .usable) ||
      decide ((s.timebase.ref r).state = .fault))) .reference = s.raise .reference := by
    simp [State.raiseIf, fault, Ne.symm other]
  unfold State.afterRef
  dsimp only
  rw [first]
  split
  · exact raised.after (HubFrame.fallback _ r).raises (.raise _ _)
  · split
    · exact raised.after (HubFrame.setSelection _ _).raises (.raise _ _)
    · exact raised

/-- A window that is due runs out, and the change of its reference brings what it brings (R12, R16). -/
theorem State.windowExpiry_due {s : State} {r : RefId} {d : Nat} (window : (s.timebase.ref r).window = some d)
    (due : d ≤ s.partTime) : s.windowExpiry r =
      (s.modTimebase fun t => t.setRef r (s.timebase.ref r).windowOut).afterRef r (s.timebase.ref r).state := by
  unfold State.windowExpiry
  dsimp only
  rw [window, if_pos (show s.isDue (some d) = true from decide_eq_true due)]
  rfl

theorem State.windowExpiry_early {s : State} {r : RefId} {d : Nat} (window : (s.timebase.ref r).window = some d)
    (early : s.partTime < d) : s.windowExpiry r = s := by
  unfold State.windowExpiry
  dsimp only
  rw [window, if_neg (by simpa [State.isDue] using early)]

/-- A reference that neither was nor becomes USABLE or FAULT brings nothing with its change (R15, R16, R19). -/
theorem State.afterRef_quiet {s : State} {r : RefId} {before : RefState} (usable : before ≠ .usable)
    (now : (s.timebase.ref r).state ≠ .usable) (fault : (s.timebase.ref r).state ≠ .fault) : s.afterRef r before = s := by
  simp [State.afterRef, State.raiseIf, usable, now, fault]

@[simp] theorem otherRef_ne (r : RefId) : r ≠ otherRef r := by cases r <;> exact nofun

/-- The timebase after its reference r has left USABLE for the state that y has (R16). -/
theorem Timebase.afterRef_left {t : Timebase} {r : RefId} {y : Reference} (left : y.state ≠ .usable) :
    (t.setRef r y).afterRef r .usable =
      if t.selection = some r then
        if (t.ref (otherRef r)).state = .usable then { t.setRef r y with selection := some (otherRef r) }
        else (t.setRef r y).heldOver
      else t.setRef r y := by
  have other : (t.setRef r y).ref (otherRef r) = t.ref (otherRef r) := by
    rw [Timebase.ref_setRef, if_neg (otherRef_ne r)]
  simp [Timebase.afterRef, Timebase.fellBack, Timebase.ref_setRef, left]

/-- Settles O25, by the message's three cases and the window's state. -/
theorem messagesAndMissedPulses : Obligations.MessagesAndMissedPulses := by
  refine ⟨fun dt r intact locked second s running => ?_, fun dt r d s running window => ⟨fun early => ?_,
    fun due stabilizing => ?_, fun due usable => ?_⟩⟩
  · refine State.event_of_eq (body := fun s => s.modRef r (Reference.message intact locked second)) running ?_
    have isRef : (s.advance dt).timebase.ref r = s.timebase.ref r := State.advance_ref s dt r
    split
    · next off => exact State.refMessage_off (by rwa [isRef]) intact locked second
    · next on =>
      split
      · next taken =>
        refine State.modTimebase_congr (congrArg ((s.advance dt).timebase.setRef r) ?_)
        simp [Reference.message, on, taken]
      · next bad =>
        refine State.modTimebase_congr (congrArg ((s.advance dt).timebase.setRef r) ?_)
        have bad : ¬ (intact && locked) = true := by simpa using bad
        simp only [Reference.message, isRef, on, bad, if_false]
        rfl
  · refine State.event_of_eq (body := (State.windowExpiry · r)) running ?_
    exact State.windowExpiry_early (by rwa [State.advance_ref]) early
  · refine State.event_of_eq (body := (State.windowExpiry · r)) running ?_
    rw [State.windowExpiry_due (d := d) (by rwa [State.advance_ref]) due, State.advance_ref, stabilizing,
      Reference.windowOut_stabilizing stabilizing]
    have now : ((s.advance dt).modTimebase fun t => t.setRef r { s.timebase.ref r with
      state := .absent, run := 0, stages := 0, missedPulses := bump (s.timebase.ref r).missedPulses
      window := none }).timebase.ref r = _ := Timebase.setRef_self (s.advance dt).timebase r _
    exact State.afterRef_quiet nofun (by rw [now]; exact nofun) (by rw [now]; exact nofun)
  · refine ⟨_, State.event_of_eq (body := (State.windowExpiry · r)) running
      ((State.windowExpiry_due (d := d) (by rwa [State.advance_ref]) due).trans
        (by rw [State.advance_ref, usable, Reference.windowOut_usable usable])), ?_⟩
    generalize isY : ({ s.timebase.ref r with
      state := .fault, run := 0, stages := 0, missedPulses := bump (s.timebase.ref r).missedPulses
      faults := bump (s.timebase.ref r).faults, window := none } : Reference) = y
    have fault : y.state = .fault := by rw [← isY]
    have changed : HubFrame s (((s.advance dt).modTimebase fun t => t.setRef r y).afterRef r .usable) :=
      ((HubFrame.advance s dt).trans (.modTimebase _ _)).trans (.afterRef _ r _)
    have timebase : (((s.advance dt).modTimebase fun t => t.setRef r y).afterRef r .usable).timebase =
        ((s.advance dt).timebase.setRef r y).afterRef r .usable := State.afterRef_timebase _ r _
    have clock : Timebase.SameClock (s.advance dt).timebase (((s.advance dt).timebase.setRef r y).afterRef r .usable) :=
      (Timebase.SameClock.setRef _ r y).trans (.afterRef _ r _)
    have isSelection : (s.advance dt).timebase.selection = s.timebase.selection := rfl
    have isHub : (s.advance dt).timebase.hubState = s.timebase.hubState := rfl
    have left := Timebase.afterRef_left (t := (s.advance dt).timebase) (r := r) (y := y) (by rw [fault]; exact nofun)
    rw [isSelection, State.advance_ref] at left
    simp only [State.endEvent_timebase, timebase, State.endEvent_stations, State.endEvent_assembler, changed.stations,
      changed.assembler, Timebase.afterRef_ref, clock.hubTime, clock.lastStep, clock.grid, true_and]
    refine ⟨Timebase.setRef_self _ r y, ?_, State.advance_hubTime s dt, rfl, rfl, fun p same => ?_, fun selected usable' => ?_,
      fun selected other => ?_, fun unselected => ?_⟩
    · rw [Timebase.ref_setRef, if_neg (otherRef_ne r), State.advance_ref]
    · refine KindRaised.endEvent ?_ changed.raises p same
      refine KindRaised.before ((HubFrame.advance s dt).trans (.modTimebase _ _)).raises (State.afterRef_fault ?_ nofun)
      exact (congrArg Reference.state (Timebase.setRef_self (s.advance dt).timebase r y)).trans fault
    · rw [left, if_pos selected, if_pos usable']
      exact ⟨rfl, Timebase.setRef_hubState _ r y⟩
    · rw [left, if_pos selected, if_neg other]
      unfold Timebase.heldOver
      simp only [Timebase.setRef_hubState, isHub]
      split
      · exact ⟨(Timebase.setRef_selection _ r y).trans selected, rfl⟩
      · exact ⟨(Timebase.setRef_selection _ r y).trans selected, Timebase.setRef_hubState _ r y⟩
    · rw [left, if_neg unselected]
      exact ⟨Timebase.setRef_selection _ r y, Timebase.setRef_hubState _ r y⟩

/-! ## Pulses (R9 to R11) -/

/-- A good pulse, as the statements write it (R9). -/
theorem Reference.good_iff {x : Reference} {now second : Nat} (pending : x.pendingSecond = some second) :
    x.good now = true ↔ x.lastGood = some (second - 1) ∧ 1 ≤ second ∧ 999900000 ≤ now - x.lastPulse ∧
      now - x.lastPulse ≤ 1000100000 := by
  unfold Reference.good
  rw [pending]
  cases last : x.lastGood with
  | none => simp
  | some g =>
    simp only [Bool.and_eq_true, decide_eq_true_eq, goodInterval, Option.some.injEq]
    omega

theorem Reference.good_of_none {x : Reference} (none : x.pendingSecond = none) (now : Nat) : x.good now = false := by
  simp only [Reference.good, none]

theorem RefState.running_iff (st : RefState) : st.running = true ↔ st = .stabilizing ∨ st = .usable := by
  cases st <;> simp [RefState.running]

section Pulse

variable {x : Reference} {now ms second : Nat}

theorem Reference.pulse_good (running : x.state.running = true) (pending : x.pendingSecond = some second)
    (good : x.good now = true) : x.pulse now ms = { x with
      run := min (x.run + 1) 64
      stages := x.stages ||| runStage (min (x.run + 1) 64)
      state := if x.depth ≤ min (x.run + 1) 64 then .usable else .stabilizing
      lastGood := some second, goodPulses := bump x.goodPulses
      lastPulse := now, pendingSecond := none, window := some (ms + 1500) } := by
  have runs : (if x.depth ≤ min (x.run + 1) runMax then RefState.usable else .stabilizing).running = true := by
    split <;> rfl
  simp only [Reference.pulse, Reference.judgePulse, running, good, if_true, Reference.advanceRun, pending, runs]
  rfl

theorem Reference.pulse_restart (stabilizing : x.state = .stabilizing) (pending : x.pendingSecond = some second)
    (bad : ¬ x.good now = true) : x.pulse now ms = { x with
      run := 1, stages := 0, lastGood := some second, badPulses := bump x.badPulses
      lastPulse := now, pendingSecond := none, window := some (ms + 1500) } := by
  simp [Reference.pulse, Reference.judgePulse, RefState.running, bad, Reference.breakRun, Reference.startRun, pending,
    stabilizing, pulseWindow]

theorem Reference.pulse_absent (stabilizing : x.state = .stabilizing) (silent : x.pendingSecond = none) :
    x.pulse now ms = { x with
      run := 0, stages := 0, state := .absent, badPulses := bump x.badPulses, lastPulse := now, window := none } := by
  simp [Reference.pulse, Reference.judgePulse, RefState.running, Reference.good_of_none silent, Reference.breakRun,
    Reference.endRun, silent, stabilizing]

theorem Reference.pulse_fault (usable : x.state = .usable) (bad : ¬ x.good now = true) : x.pulse now ms = { x with
      run := 0, stages := 0, state := .fault, faults := bump x.faults, badPulses := bump x.badPulses
      lastPulse := now, pendingSecond := none, window := none } := by
  simp [Reference.pulse, Reference.judgePulse, RefState.running, bad, Reference.breakRun, Reference.endRun, usable]

theorem Reference.pulse_start (idle : x.state.running = false) (pending : x.pendingSecond = some second) :
    x.pulse now ms = { x with
      run := 1, stages := 0, state := .stabilizing, lastGood := some second
      goodPulses := bump x.goodPulses, lastPulse := now, pendingSecond := none, window := some (ms + 1500) } := by
  have judged : x.judgePulse now = { x.startRun with goodPulses := bump x.goodPulses } := by
    rw [Reference.judgePulse, if_neg (by rw [idle]; exact nofun)]
    simp only [pending]
  rw [Reference.pulse, judged]
  simp only [Reference.startRun, pending]
  rfl

theorem Reference.pulse_idle (idle : x.state.running = false) (silent : x.pendingSecond = none) :
    x.pulse now ms = { x with badPulses := bump x.badPulses, lastPulse := now, window := none } := by
  have judged : x.judgePulse now = { x with badPulses := bump x.badPulses } := by
    rw [Reference.judgePulse, if_neg (by rw [idle]; exact nofun)]
    simp only [silent]
  rw [Reference.pulse, judged]
  simp only [idle, silent, Bool.false_eq_true, if_false]

end Pulse

/-- The state after a pulse on reference r, before hub time may step (R9 to R11, R15, R16). -/
def State.pulsed (s : State) (r : RefId) : State :=
  (s.modTimebase fun t => t.setRef r ((s.timebase.ref r).pulse s.timebase.oscNs s.partTime)).afterRef r
    (s.timebase.ref r).state

theorem State.pulse_off {s : State} {r : RefId} (off : (s.timebase.ref r).state = .off) : s.pulse r = s := if_pos off

/-- The condition under which a pulse on reference r at second `second` steps hub time (R17). -/
def State.pulseSteps (s : State) (r : RefId) (second : Nat) : Prop :=
  (s.timebase.ref r).pendingSecond = some second ∧ (s.timebase.ref r).state.running = true ∧
    (s.timebase.ref r).good s.timebase.oscNs = true ∧ (s.pulsed r).timebase.selection = some r ∧
    ((s.pulsed r).timebase.ref r).state = .usable

theorem State.pulse_steps {s : State} {r : RefId} {second : Nat} (steps : s.pulseSteps r second) :
    s.pulse r = (s.pulsed r).stepHub second := by
  obtain ⟨pending, running, good, selected, usable⟩ := steps
  have on : (s.timebase.ref r).state ≠ .off := fun off => by rw [off] at running; cases running
  unfold State.pulse
  dsimp only
  rw [if_neg on, pending]
  refine if_pos ?_
  rw [running, good]
  exact (Bool.and_eq_true _ _).mpr ⟨decide_eq_true selected, decide_eq_true usable⟩

theorem State.pulse_stays {s : State} {r : RefId} (on : (s.timebase.ref r).state ≠ .off)
    (stays : ∀ second, ¬ s.pulseSteps r second) : s.pulse r = s.pulsed r := by
  unfold State.pulse
  dsimp only
  rw [if_neg on]
  split
  · next second pending =>
    refine if_neg fun steps => stays second ?_
    simp only [Bool.and_eq_true, decide_eq_true_eq] at steps
    obtain ⟨⟨⟨running, good⟩, selected⟩, usable⟩ := steps
    exact ⟨pending, running, good, selected, usable⟩
  · rfl

theorem State.pulse_cases {s : State} {r : RefId} (on : (s.timebase.ref r).state ≠ .off) :
    s.pulse r = s.pulsed r ∨ ∃ second, s.pulse r = (s.pulsed r).stepHub second := by
  by_cases steps : ∃ second, s.pulseSteps r second
  · obtain ⟨second, steps⟩ := steps
    exact .inr ⟨second, State.pulse_steps steps⟩
  · exact .inl (State.pulse_stays on fun second h => steps ⟨second, h⟩)

theorem State.pulsed_frame (s : State) (r : RefId) : HubFrame s (s.pulsed r) :=
  (HubFrame.modTimebase s _).trans (.afterRef _ r _)

theorem State.pulsed_timebase (s : State) (r : RefId) : (s.pulsed r).timebase =
    (s.timebase.setRef r ((s.timebase.ref r).pulse s.timebase.oscNs s.partTime)).afterRef r (s.timebase.ref r).state :=
  State.afterRef_timebase _ r _

theorem State.pulsed_clock (s : State) (r : RefId) : Timebase.SameClock s.timebase (s.pulsed r).timebase := by
  rw [State.pulsed_timebase]
  exact (Timebase.SameClock.setRef _ r _).trans (.afterRef _ r _)

theorem State.pulsed_ref (s : State) (r q : RefId) : (s.pulsed r).timebase.ref q =
    if r = q then (s.timebase.ref r).pulse s.timebase.oscNs s.partTime else s.timebase.ref q := by
  rw [State.pulsed_timebase, Timebase.afterRef_ref, Timebase.ref_setRef]

/-- What a step of hub time leaves of stations and reservations (R17, R158). -/
theorem State.stepHub_rest (s : State) (second : Nat) :
    (s.stepHub second).stations = s.stations ∧ (s.stepHub second).reservations = s.reservations := by
  have moved := (HubFrame.stepTime s ((second : Int) * nsPerSecond)).trans (.setHubState _ .referenced)
  have closed := State.closeDeadlines_frame ((s.stepTime ((second : Int) * nsPerSecond)).setHubState .referenced)
  rw [State.stepHub_eq]
  exact ⟨closed.stations.trans moved.stations, closed.reservations.trans moved.reservations⟩

/-- What every pulse on an enabled reference does (R9). -/
theorem State.pulse_on {s : State} {r : RefId} (on : (s.timebase.ref r).state ≠ .off) :
    (s.pulse r).timebase.oscNs = s.timebase.oscNs ∧
    (∀ q, (s.pulse r).timebase.ref q =
      if r = q then (s.timebase.ref r).pulse s.timebase.oscNs s.partTime else s.timebase.ref q) ∧
    (s.pulse r).stations = s.stations ∧ (s.pulse r).reservations = s.reservations ∧
    (s.pulse r).timebase.grid = s.timebase.grid ∧ (s.pulse r).timebase.stepLimit = s.timebase.stepLimit ∧
    (s.pulse r).timebase.autoSelect = s.timebase.autoSelect := by
  have clock := s.pulsed_clock r
  have frame := s.pulsed_frame r
  obtain stays | ⟨second, steps⟩ := State.pulse_cases on
  · rw [stays]
    exact ⟨clock.oscNs, s.pulsed_ref r, frame.stations, frame.reservations, clock.grid, clock.stepLimit, clock.autoSelect⟩
  · obtain ⟨stations, reservations⟩ := (s.pulsed r).stepHub_rest second
    rw [steps, State.stepHub_timebase]
    exact ⟨clock.oscNs, fun q => (Timebase.stepped_ref _ _ q).trans (s.pulsed_ref r q), stations.trans frame.stations,
      reservations.trans frame.reservations, clock.grid, clock.stepLimit, clock.autoSelect⟩

/-- Settles O23, by the cases of a pulse on its reference. -/
theorem pulsesMoveTheRun : Obligations.PulsesMoveTheRun := by
  refine ⟨fun dt r s running off => ?_, fun dt r s running on => ?_⟩
  · exact State.event_of_eq (body := (State.pulse · r)) running (State.pulse_off (by rwa [State.advance_ref]))
  obtain ⟨oscNs, ref, stations, reservations, grid, stepLimit, autoSelect⟩ :=
    State.pulse_on (s := s.advance dt) (r := r) (by rwa [State.advance_ref])
  refine ⟨_, State.event_of_eq (body := (State.pulse · r)) running rfl, oscNs, ?_, stations, reservations, grid, stepLimit,
    autoSelect, ?_⟩
  · rw [State.endEvent_timebase, ref, if_neg (otherRef_ne r), State.advance_ref]
  have own : ((s.advance dt).pulse r).endEvent.timebase.ref r =
      (s.timebase.ref r).pulse (s.timebase.oscNs + dt) ((s.timebase.oscNs + dt) / 1000000) := by
    rw [State.endEvent_timebase, ref, if_pos rfl, State.advance_ref]
    rfl
  rw [own]
  have idle {st : RefState} (h : st = .absent ∨ st = .fault) : st.running = false := by rcases h with rfl | rfl <;> rfl
  refine ⟨fun second pending state good => ?_, fun second pending state bad => ?_, fun none state => ?_,
    fun state bad => ?_, fun second pending state => ?_, fun none state => ?_⟩
  · exact Reference.pulse_good ((RefState.running_iff _).mpr state) pending ((Reference.good_iff pending).mpr good)
  · exact Reference.pulse_restart state pending (mt (Reference.good_iff pending).mp bad)
  · exact Reference.pulse_absent state none
  · refine Reference.pulse_fault state fun good => ?_
    cases pending : (s.timebase.ref r).pendingSecond with
    | none => rw [Reference.good_of_none pending] at good; cases good
    | some second => exact bad second pending ((Reference.good_iff pending).mp good)
  · exact Reference.pulse_start (idle state) pending
  · exact Reference.pulse_idle (idle state) none

end Sys2Proof.Machine
end

section
/-! PROOF. The closing of epochs while no link waits (R157 to R159): what it makes of every epoch of the table, on
completion (O45), at the deadline (O26) and when hub time steps (O24). -/

namespace Sys2Proof.Machine

/-! ## One epoch closed -/

theorem Epoch.isClosed_eq_false_iff (e : Epoch) : e.isClosed = false ↔ e.state = .forming := by
  unfold Epoch.isClosed
  cases e.state <;> simp

theorem Epoch.isClosed_iff (e : Epoch) : e.isClosed = true ↔ e.state ≠ .forming := by
  rw [ne_eq, ← Epoch.isClosed_eq_false_iff, Bool.not_eq_false]

/-- A port still needs an epoch that is not fully released (R161). -/
theorem Epoch.wanted_iff (e : Epoch) : (∃ p, e.needed.has p = true ∧ e.released.has p = false) ↔ e.fullyReleased = false := by
  unfold Epoch.fullyReleased PortSet.within
  constructor
  · rintro ⟨p, needed, released⟩
    cases p
    · simp [PortSet.has] at needed released; simp [needed, released]
    · simp [PortSet.has] at needed released; simp [needed, released]
  · intro h
    rcases (Bool.and_eq_false_iff).mp h with first | second
    · exact ⟨.mp0, by simpa [PortSet.has] using first⟩
    · exact ⟨.mp1, by simpa [PortSet.has] using second⟩

section Close

variable {s : State} {cause : EpochState} {n : Nat}

theorem State.closed_table (s : State) (cause : EpochState) (n : Nat) : (s.closed cause n).assembler.table =
    s.assembler.table.map fun e => if e.number = n then { e with state := cause } else e :=
  Assembler.countClose_table _ _

theorem State.closed_numbers (s : State) (cause : EpochState) (n : Nat) : (s.closed cause n).numbers = s.numbers := by
  rw [State.numbers, State.closed_table, List.map_map]
  exact List.map_congr_left fun e _ => by dsimp only [Function.comp]; split <;> rfl

theorem State.closed_mark (s : State) (cause : EpochState) (n : Nat) :
    (s.closed cause n).assembler.freedMark = s.assembler.freedMark := by
  cases cause <;> rfl

theorem State.freeEpoch_numbers (s : State) (n : Nat) : (s.freeEpoch n).numbers.Sublist s.numbers := by
  rw [State.numbers, State.freeEpoch_table]
  exact List.filter_sublist.map _

/-- A freed mark at or above a number (R161). -/
def MarkedTo (mark : Option Nat) (n : Nat) : Prop := ∃ m, mark = some m ∧ n ≤ m

theorem MarkedTo.raiseMark {mark : Option Nat} {n : Nat} (h : MarkedTo mark n) (k : Nat) :
    MarkedTo (raiseMark mark k) n := by
  obtain ⟨m, rfl, low⟩ := h
  exact ⟨max m k, rfl, Nat.le_trans low (Nat.le_max_left m k)⟩

theorem markedTo_raiseMark (mark : Option Nat) (n : Nat) : MarkedTo (Machine.raiseMark mark n) n := by
  cases mark with
  | none => exact ⟨n, rfl, Nat.le_refl n⟩
  | some m => exact ⟨max m n, rfl, Nat.le_max_right m n⟩

theorem State.freeEpoch_mark {k : Nat} (s : State) (n : Nat) (marked : MarkedTo s.assembler.freedMark k) :
    MarkedTo (s.freeEpoch n).assembler.freedMark k := by
  cases found : s.epoch? n with
  | none => rwa [State.freeEpoch_of_none found]
  | some e => rw [State.freeEpoch_of_some found]; exact marked.raiseMark _

/-- The table of an epoch closed, with its numbers and the freed mark (R159). -/
structure ClosedTo (cause : EpochState) (n : Nat) (s t : State) : Prop where
  others : ∀ e ∈ s.assembler.table, e.number ≠ n → e ∈ t.assembler.table
  numbers : t.numbers.Sublist s.numbers
  marked : ∀ k, MarkedTo s.assembler.freedMark k → MarkedTo t.assembler.freedMark k

theorem ClosedTo.refl (s : State) : ClosedTo cause n s s := ⟨fun _ mem _ => mem, .refl _, fun _ h => h⟩

theorem State.shut_closedTo (s : State) (cause : EpochState) (e : Epoch) : ClosedTo cause e.number s (s.shut cause e) := by
  have others : ∀ x ∈ s.assembler.table, x.number ≠ e.number → x ∈ (s.closed cause e.number).assembler.table := by
    intro x mem other
    rw [State.closed_table]
    exact List.mem_map.mpr ⟨x, mem, if_neg other⟩
  unfold State.shut
  split
  · refine ⟨fun x mem other => ?_, ?_, fun k marked => State.freeEpoch_mark _ _ (by rwa [State.closed_mark])⟩
    · rw [State.freeEpoch_table]
      exact List.mem_filter.mpr ⟨others x mem other, decide_eq_true other⟩
    · exact (State.closed_numbers s cause e.number) ▸ State.freeEpoch_numbers _ _
  · exact ⟨others, by rw [State.closed_numbers], fun k marked => by rwa [State.closed_mark]⟩

theorem State.closeEpoch_closedTo (idle : s.store.waiting = []) (cause : EpochState) (n : Nat) :
    ClosedTo cause n s (s.closeEpoch cause n) := by
  cases found : s.epoch? n with
  | none => rw [State.closeEpoch_of_none found]; exact .refl s
  | some e =>
    cases closed : e.isClosed with
    | true => rw [State.closeEpoch_of_closed found closed]; exact .refl s
    | false =>
      rw [State.closeEpoch_forming found closed, if_pos idle, ← (State.epoch?_some found).2]
      exact s.shut_closedTo cause e

/-- What a FORMING epoch becomes: CLOSED with its cause while a port needs it, freed otherwise (R159). -/
theorem State.closeEpoch_own {e : Epoch} (idle : s.store.waiting = []) (sound : s.assembler.sound)
    (mem : e ∈ s.assembler.table) (forming : e.isClosed = false) (cause : EpochState) :
    (e.fullyReleased = false → { e with state := cause } ∈ (s.closeEpoch cause e.number).assembler.table) ∧
    (e.fullyReleased = true → e.number ∉ (s.closeEpoch cause e.number).numbers ∧
      MarkedTo (s.closeEpoch cause e.number).assembler.freedMark e.number) := by
  rw [State.closeEpoch_forming (State.epoch?_of_mem sound mem) forming, if_pos idle, State.shut]
  have own : { e with state := cause } ∈ (s.closed cause e.number).assembler.table := by
    rw [State.closed_table]
    exact List.mem_map.mpr ⟨e, mem, if_pos rfl⟩
  refine ⟨fun wanted => ?_, fun released => ?_⟩
  · rw [if_neg (by rw [wanted]; exact nofun)]
    exact own
  · rw [if_pos released]
    refine ⟨?_, ?_⟩
    · rw [State.numbers, State.freeEpoch_table]
      simp
    · cases found : (s.closed cause e.number).epoch? e.number with
      | none => exact absurd rfl (State.epoch?_none.mp found { e with state := cause } own)
      | some x =>
        rw [State.freeEpoch_of_some found, ← (State.epoch?_some found).2]
        exact markedTo_raiseMark _ _

end Close

/-! ## Epochs closed in a row -/

/-- The epochs `es` of the table closed with a cause: each stays CLOSED while a port needs it and is freed otherwise, and
every other epoch is as it was (R159). -/
structure AllClosed (cause : EpochState) (es : List Epoch) (s t : State) : Prop where
  others : ∀ e ∈ s.assembler.table, (∀ x ∈ es, x.number ≠ e.number) → e ∈ t.assembler.table
  numbers : t.numbers.Sublist s.numbers
  marked : ∀ k, MarkedTo s.assembler.freedMark k → MarkedTo t.assembler.freedMark k
  kept : ∀ e ∈ es, e.fullyReleased = false → { e with state := cause } ∈ t.assembler.table
  freed : ∀ e ∈ es, e.fullyReleased = true → e.number ∉ t.numbers ∧ MarkedTo t.assembler.freedMark e.number

theorem State.closeAll (cause : EpochState) (es : List Epoch) : ∀ {s : State}, s.assembler.sound → s.store.waiting = [] →
    (∀ e ∈ es, e ∈ s.assembler.table ∧ e.isClosed = false) → es.Pairwise (fun x y => x.number ≠ y.number) →
    AllClosed cause es s ((es.map Epoch.number).foldl (State.closeEpoch cause) s) := by
  induction es with
  | nil => exact fun _ _ _ _ => ⟨fun _ mem _ => mem, .refl _, fun _ h => h, nofun, nofun⟩
  | cons e es ih =>
    intro s sound idle mem distinct
    obtain ⟨apart, rest⟩ := List.pairwise_cons.mp distinct
    obtain ⟨isIn, forming⟩ := mem e (by simp)
    have one := State.closeEpoch_closedTo idle cause e.number
    have own := State.closeEpoch_own idle sound isIn forming cause
    have all := ih (Assembler.sound_of_sublist one.numbers sound) ((State.closeEpoch_storeKeeps cause s e.number).waiting ▸ idle)
      (fun x isX => ⟨one.others x (mem x (by simp [isX])).1 (Ne.symm (apart x isX)), (mem x (by simp [isX])).2⟩) rest
    refine ⟨fun x isX other => ?_, all.numbers.trans one.numbers, fun k h => all.marked k (one.marked k h),
      fun x isX wanted => ?_, fun x isX released => ?_⟩
    · exact all.others x (one.others x isX (Ne.symm (other e (by simp)))) fun y isY => other y (by simp [isY])
    · rcases List.mem_cons.mp isX with rfl | later
      · exact all.others _ (own.1 wanted) fun y isY => Ne.symm (apart y isY)
      · exact all.kept x later wanted
    · rcases List.mem_cons.mp isX with rfl | later
      · obtain ⟨gone, marked⟩ := own.2 released
        exact ⟨fun back => gone (all.numbers.subset back), all.marked _ marked⟩
      · exact all.freed x later released

/-- Epochs of a table told apart by a test, closed: what becomes of each epoch (R157 to R159). -/
theorem State.closeAll_filter {s t : State} {cause : EpochState} {test : Epoch → Bool} (sound : s.assembler.sound)
    (idle : s.store.waiting = []) (forming : ∀ e, test e = true → e.isClosed = false)
    (isT : t = ((s.assembler.table.filter test).map Epoch.number).foldl (State.closeEpoch cause) s)
    {e : Epoch} (mem : e ∈ s.assembler.table) :
    (test e = false → e ∈ t.assembler.table) ∧
    (test e = true → e.fullyReleased = false → { e with state := cause } ∈ t.assembler.table) ∧
    (test e = true → e.fullyReleased = true → (∀ x ∈ t.assembler.table, x.number ≠ e.number) ∧
      ∃ m, t.assembler.freedMark = some m ∧ e.number ≤ m) := by
  have all := State.closeAll cause (s.assembler.table.filter test) sound idle
    (fun x isX => ⟨(List.mem_filter.mp isX).1, forming x (List.mem_filter.mp isX).2⟩)
    ((sound.2.imp fun h => Nat.ne_of_lt h).sublist List.filter_sublist)
  rw [← isT] at all
  refine ⟨fun out => all.others e mem fun x isX same => ?_, fun hit wanted => ?_, fun hit released => ?_⟩
  · obtain ⟨isIn, passes⟩ := List.mem_filter.mp isX
    rw [epoch_unique sound.2 isIn mem same, out] at passes
    cases passes
  · exact all.kept e (List.mem_filter.mpr ⟨mem, hit⟩) wanted
  · obtain ⟨gone, marked⟩ := all.freed e (List.mem_filter.mpr ⟨mem, hit⟩) released
    exact ⟨fun x isX same => gone (List.mem_map.mpr ⟨x, isX, same⟩), marked⟩

/-! ## Completion (R157) -/

theorem Station.covers_iff (x : Station) (t : Int) :
    x.covers t = true ↔ x.tracker.gaps = [] ∧ ∃ c, x.tracker.covered = some c ∧ t ≤ c := by
  unfold Station.covers
  cases covered : x.tracker.covered with
  | none => simp
  | some c => simp [and_comm]

theorem State.complete_iff (s : State) (g : Grid) (e : Epoch) : s.complete g e = true ↔
    e.state = .forming ∧ ∀ i, inSet e.expected i = true →
      (s.station i).tracker.gaps = [] ∧ ∃ c, (s.station i).tracker.covered = some c ∧ g.epochEnd e.number ≤ c := by
  have all : (allStations.all fun i => !inSet e.expected i || (s.station i).covers (g.epochEnd e.number)) = true ↔
      ∀ i, inSet e.expected i = true → (s.station i).covers (g.epochEnd e.number) = true := by
    simp only [allStations, List.all_eq_true, List.mem_finRange, true_implies, Bool.or_eq_true, Bool.not_eq_true']
    exact forall_congr' fun i => by cases inSet e.expected i <;> simp
  rw [State.complete, Bool.and_eq_true, Bool.not_eq_true', Epoch.isClosed_eq_false_iff, all]
  simp only [Station.covers_iff]

/-- The end of an epoch in full (R144). -/
theorem Grid.epochEnd_eq (g : Grid) (n : Nat) : g.epochEnd n = ((g.o : Int) + n * g.e + g.e) * 1000000000 := by
  rw [Grid.epochEnd, Grid.epochStart, nsPerSecond]
  ring

theorem State.evalCompletion_of_grid {s : State} {g : Grid} (grid : s.timebase.grid = some g) :
    s.evalCompletion = ((s.assembler.table.filter (s.complete g)).map Epoch.number).foldl
      (State.closeEpoch .closedComplete) s := by
  simp only [State.evalCompletion, grid]

/-- Settles O45: completion closes the epochs that are complete. -/
theorem completionClosesCoveredEpochs : Obligations.CompletionClosesCoveredEpochs := by
  intro g s grid sound idle t
  have frame := s.evalCompletion_frame
  refine ⟨frame.stations, frame.links, frame.timebase, frame.reservations, fun e mem => ?_⟩
  intro complete wanted
  obtain ⟨others, kept, freed⟩ := State.closeAll_filter sound idle
    (fun x h => (Epoch.isClosed_eq_false_iff x).mpr ((State.complete_iff s g x).mp h).1) (State.evalCompletion_of_grid grid) mem
  have isComplete : complete ↔ s.complete g e = true := by
    rw [State.complete_iff, Grid.epochEnd_eq]
  rw [isComplete]
  refine ⟨fun h => others (by simpa using h), fun h want => kept h ((Epoch.wanted_iff e).mp want), fun h no => freed h ?_⟩
  rwa [show wanted ↔ e.fullyReleased = false from Epoch.wanted_iff e, Bool.not_eq_false] at no

/-! ## Deadlines (R158) -/

/-- The deadline of an epoch in full (R22). -/
theorem Grid.deadline_eq (g : Grid) (n : Nat) : g.deadline n = (g.o + n * g.e + g.e + g.l : Int) * 1000000000 := by
  rw [Grid.deadline, Grid.epochEnd_eq, nsPerSecond]
  ring

theorem State.deadlineReached_iff (s : State) (g : Grid) (e : Epoch) : s.deadlineReached g e = true ↔
    e.state = .forming ∧ (g.o + e.number * g.e + g.e + g.l : Int) * 1000000000 ≤ s.timebase.hubTime := by
  rw [State.deadlineReached, Bool.and_eq_true, Bool.not_eq_true', Epoch.isClosed_eq_false_iff, decide_eq_true_eq,
    Grid.deadline_eq]

theorem State.closeDeadlines_unset {s : State} (unset : s.timebase.hubState = .unset) : s.closeDeadlines = s := by
  unfold State.closeDeadlines
  split
  · rfl
  · exact if_pos unset

theorem State.closeDeadlines_noGrid {s : State} (noGrid : s.timebase.grid = none) : s.closeDeadlines = s := by
  simp only [State.closeDeadlines, noGrid]

theorem State.closeDeadlines_of_set {s : State} {g : Grid} (grid : s.timebase.grid = some g)
    (set : s.timebase.hubState ≠ .unset) : s.closeDeadlines =
      ((s.assembler.table.filter (s.deadlineReached g)).map Epoch.number).foldl (State.closeEpoch .closedDeadline) s := by
  simp only [State.closeDeadlines, grid]
  exact if_neg set

/-- What the deadlines make of every epoch, in the terms of the statements (R158, R159). -/
theorem State.closeDeadlines_spec {s : State} {g : Grid} {now : Int} (grid : s.timebase.grid = some g)
    (set : s.timebase.hubState ≠ .unset) (sound : s.assembler.sound) (idle : s.store.waiting = [])
    (isNow : s.timebase.hubTime = now) {e : Epoch} (mem : e ∈ s.assembler.table) :
    let reached : Prop := e.state = .forming ∧ (g.o + e.number * g.e + g.e + g.l : Int) * 1000000000 ≤ now
    let wanted : Prop := ∃ p, e.needed.has p = true ∧ e.released.has p = false
    (¬ reached → e ∈ s.closeDeadlines.assembler.table) ∧
    (reached → wanted → { e with state := .closedDeadline } ∈ s.closeDeadlines.assembler.table) ∧
    (reached → ¬ wanted → (∀ x ∈ s.closeDeadlines.assembler.table, x.number ≠ e.number) ∧
      ∃ m, s.closeDeadlines.assembler.freedMark = some m ∧ e.number ≤ m) := by
  intro reached wanted
  obtain ⟨others, kept, freed⟩ := State.closeAll_filter sound idle
    (fun x h => (Epoch.isClosed_eq_false_iff x).mpr ((State.deadlineReached_iff s g x).mp h).1)
    (State.closeDeadlines_of_set grid set) mem
  have isReached : reached ↔ s.deadlineReached g e = true := by
    rw [State.deadlineReached_iff, isNow]
  rw [isReached]
  refine ⟨fun h => others (by simpa using h), fun h want => kept h ((Epoch.wanted_iff e).mp want), fun h no => freed h ?_⟩
  rwa [show wanted ↔ e.fullyReleased = false from Epoch.wanted_iff e, Bool.not_eq_false] at no

/-- Settles O26: the deadlines reached at the command's moment. -/
theorem deadlinesCloseEpochs : Obligations.DeadlinesCloseEpochs := by
  intro dt g s running grid idle sound
  have frame := (s.advance dt).closeDeadlines_frame
  refine ⟨_, State.event_of_eq (body := State.closeDeadlines) running rfl, frame.timebase, frame.links, frame.stations,
    frame.reservations, fun unset => ?_, fun set e mem => ?_⟩
  · rw [State.closeDeadlines_unset (s := s.advance dt) unset]
    exact ⟨rfl, rfl⟩
  · exact State.closeDeadlines_spec (s := s.advance dt) grid set sound idle (State.advance_hubTime_of_set dt set) mem

end Sys2Proof.Machine
end

section
/-! PROOF. A pulse and the hub (R15 to R17, R19, R44, R158): when hub time steps, when the selection moves and when the hub
holds over; O24. -/

namespace Sys2Proof.Machine

/-! ## Kinds raised by closing epochs -/

theorem Raises.freeEpoch (s : State) (n : Nat) : Raises s (s.freeEpoch n) := by
  refine .of_port fun p => ?_
  cases found : s.epoch? n with
  | none => rw [State.freeEpoch_of_none found]
  | some e => rw [State.freeEpoch_of_some found]; cases p <;> rfl

theorem Port.Raised.countForced (x : Port) (waited : Bool) : Port.Raised x (x.countForced waited) := by
  unfold Port.countForced
  split
  · exact ⟨0, bump x.forcedFrees, by simp⟩
  · exact .refl x

theorem Raises.forceFree (s : State) (n : Nat) : Raises s (s.forceFree n) := by
  cases found : s.epoch? n with
  | none => rw [State.forceFree_of_none found]; exact .refl s
  | some e =>
    have counted : Raises s (s.countForced e) := fun p => by cases p <;> exact .countForced _ _
    have freed : Raises (s.countForced e) (((s.countForced e).without e).modStore fun t =>
        { t with forcedFrees := bump t.forcedFrees }) := .of_port fun p => by cases p <;> rfl
    rw [State.forceFree_of_some found]
    exact (counted.trans freed).trans (.raise _ _)

theorem Raises.forceForSlots : ∀ (fuel : Nat) (s : State), Raises s (s.forceForSlots fuel)
  | 0, s => .refl s
  | fuel + 1, s => by
    unfold State.forceForSlots
    split
    · split
      · exact (Raises.forceFree s _).trans (Raises.forceForSlots fuel _)
      · exact .refl s
    · exact .refl s

theorem Raises.closed (s : State) (cause : EpochState) (n : Nat) : Raises s (s.closed cause n) :=
  (Raises.of_port fun p => by cases p <;> rfl :
    Raises s ((s.modEpoch n fun x => { x with state := cause }).modAssembler fun a => a.countClose cause)).trans (.raise _ _)

/-- A FORMING epoch that closes raises EPOCH (R159). -/
theorem KindRaised.closeEpoch {s : State} {cause : EpochState} {n : Nat} {e : Epoch} (found : s.epoch? n = some e)
    (forming : e.isClosed = false) : KindRaised 0x01 s (s.closeEpoch cause n) := by
  have counted : Raises s ((s.modEpoch e.number fun x => { x with state := cause }).modAssembler
      fun a => a.countClose cause) := .of_port fun p => by cases p <;> rfl
  have closed : KindRaised 0x01 s (s.closed cause e.number) := .before counted (.raise _ .epoch)
  have shut : KindRaised 0x01 s (s.shut cause e) := by
    unfold State.shut
    split
    · exact closed.after (.freeEpoch _ _) (.closed s cause _)
    · exact closed
  have raises : Raises s (s.shut cause e) := by
    unfold State.shut
    split
    · exact (Raises.closed s cause _).trans (.freeEpoch _ _)
    · exact .closed s cause _
  rw [State.closeEpoch_forming found forming]
  split
  · exact shut
  · exact shut.after (.forceForSlots _ _) raises

theorem Raises.closeEpoch (s : State) (cause : EpochState) (n : Nat) : Raises s (s.closeEpoch cause n) := by
  cases found : s.epoch? n with
  | none => rw [State.closeEpoch_of_none found]; exact .refl s
  | some e =>
    cases closed : e.isClosed with
    | true => rw [State.closeEpoch_of_closed found closed]; exact .refl s
    | false =>
      have shut : Raises s (s.shut cause e) := by
        unfold State.shut
        split
        · exact (Raises.closed s cause _).trans (.freeEpoch _ _)
        · exact .closed s cause _
      rw [State.closeEpoch_forming found closed]
      split
      · exact shut
      · exact shut.trans (.forceForSlots _ _)

theorem Raises.closeDeadlines (s : State) : Raises s s.closeDeadlines := by
  unfold State.closeDeadlines
  split
  · exact .refl s
  · split
    · exact .refl s
    · exact .foldl (fun s n => .closeEpoch s _ n) _ s

/-- An epoch whose deadline is reached raises EPOCH (R158, R159). -/
theorem KindRaised.closeDeadlines {s : State} {g : Grid} {e : Epoch} (grid : s.timebase.grid = some g)
    (set : s.timebase.hubState ≠ .unset) (sound : s.assembler.sound) (mem : e ∈ s.assembler.table)
    (reached : s.deadlineReached g e = true) : KindRaised 0x01 s s.closeDeadlines := by
  rw [State.closeDeadlines_of_set grid set]
  have isIn : e ∈ s.assembler.table.filter (s.deadlineReached g) := List.mem_filter.mpr ⟨mem, reached⟩
  cases due : s.assembler.table.filter (s.deadlineReached g) with
  | nil => rw [due] at isIn; cases isIn
  | cons x xs =>
    obtain ⟨isX, passes⟩ := List.mem_filter.mp (due ▸ List.mem_cons_self : x ∈ s.assembler.table.filter _)
    have forming := (Epoch.isClosed_eq_false_iff x).mpr ((State.deadlineReached_iff s g x).mp passes).1
    exact (KindRaised.closeEpoch (State.epoch?_of_mem sound isX) forming).after
      (.foldl (fun s n => .closeEpoch s _ n) _ _) (.closeEpoch s _ _)

/-! ## Probes abandoned and links kept (R6, R44) -/

theorem abandonProbe_foldl_link (ls : List LinkId) (s : State) (m : LinkId) : (ls.foldl State.abandonProbe s).link m =
    if m ∈ ls then { s.link m with probe := none } else s.link m := by
  induction ls generalizing s with
  | nil => simp
  | cons l ls ih =>
    rw [List.foldl_cons, ih, State.abandonProbe_link]
    by_cases here : l = m
    · subst here; simp
    · simp [here, Ne.symm here]

theorem State.abandonProbes_link (s : State) (m : LinkId) : s.abandonProbes.link m = { s.link m with probe := none } :=
  (abandonProbe_foldl_link allLinks s m).trans (if_pos (List.mem_finRange m))

/-- Entering another hub state abandons every probe (R44). -/
theorem State.setHubState_link (s : State) (h : HubState) (m : LinkId) : (s.setHubState h).link m =
    if s.timebase.hubState = h then s.link m else { s.link m with probe := none } := by
  unfold State.setHubState
  split
  · rfl
  · rw [State.abandonProbes_link]
    rfl

theorem KindRaised.setHubState {s : State} {h : HubState} (other : s.timebase.hubState ≠ h) :
    KindRaised 0x10 s (s.setHubState h) := by
  rw [State.setHubState, if_neg other]
  refine KindRaised.after ?_ (HubFrame.abandonProbes _).raises ((HubFrame.modTimebase s _).trans (.raise _ _)).raises
  exact .before (HubFrame.modTimebase s _).raises (.raise _ .reference)

theorem KindRaised.setSelection {s : State} {x : Option RefId} (other : s.timebase.selection ≠ x) :
    KindRaised 0x10 s (s.setSelection x) := by
  rw [State.setSelection, if_neg other]
  exact .before (HubFrame.modTimebase s _).raises (.raise _ .reference)

/-- A requested probe that is abandoned raises PROBE (R44, R103). -/
theorem KindRaised.abandonProbe_foldl {l : LinkId} {y : ProbeSlot} (requested : y.requested = true) (ls : List LinkId) :
    ∀ {s : State}, l ∈ ls → (s.link l).probe = some y → KindRaised 0x80 s (ls.foldl State.abandonProbe s) := by
  induction ls with
  | nil => exact fun mem => absurd mem (List.not_mem_nil)
  | cons k ls ih =>
    intro s mem probe
    rw [List.foldl_cons]
    by_cases here : k = l
    · subst here
      have ended : s.abandonProbe k = (s.modLink k fun y => { y with probe := none }).raise .probe := by
        simp only [State.abandonProbe, probe, State.probeEnded, State.raiseIf, requested, if_true]
      have raised : KindRaised 0x80 s (s.abandonProbe k) := by
        rw [ended]
        exact .before (HubFrame.modLink s k _).raises (.raise _ .probe)
      exact raised.after (HubFrame.abandonProbe_foldl ls _).raises (HubFrame.abandonProbe s k).raises
    · refine .before (HubFrame.abandonProbe s k).raises (ih ((List.mem_cons.mp mem).resolve_left (Ne.symm here)) ?_)
      rw [State.abandonProbe_link, if_neg here, probe]

theorem KindRaised.setHubState_probe {s : State} {h : HubState} {l : LinkId} {y : ProbeSlot}
    (other : s.timebase.hubState ≠ h) (probe : (s.link l).probe = some y) (requested : y.requested = true) :
    KindRaised 0x80 s (s.setHubState h) := by
  rw [State.setHubState, if_neg other]
  exact .before ((HubFrame.modTimebase s _).trans (.raise _ _)).raises
    (KindRaised.abandonProbe_foldl requested allLinks (List.mem_finRange l) probe)

/-! ## The state of a reference after a pulse (R11) -/

theorem Reference.pulse_usable_iff {x : Reference} {now ms : Nat} : (x.pulse now ms).state = .usable ↔
    x.state.running = true ∧ x.good now = true ∧ x.depth ≤ min (x.run + 1) 64 := by
  cases pending : x.pendingSecond with
  | none =>
    have bad := Reference.good_of_none pending now
    rw [bad]
    simp only [Bool.false_eq_true, false_and, and_false, iff_false]
    cases state : x.state with
    | stabilizing => rw [Reference.pulse_absent state pending]; exact nofun
    | usable => rw [Reference.pulse_fault state (by rw [bad]; exact nofun)]; exact nofun
    | off => rw [Reference.pulse_idle (by rw [state]; rfl) pending, state]; exact nofun
    | absent => rw [Reference.pulse_idle (by rw [state]; rfl) pending, state]; exact nofun
    | fault => rw [Reference.pulse_idle (by rw [state]; rfl) pending, state]; exact nofun
  | some second =>
    cases running : x.state.running with
    | false => rw [Reference.pulse_start running pending]; simp
    | true =>
      cases good : x.good now with
      | true =>
        rw [Reference.pulse_good running pending good]
        dsimp only
        split <;> simp [*]
      | false =>
        have bad : ¬ x.good now = true := by rw [good]; exact nofun
        simp only [Bool.false_eq_true, false_and, and_false, iff_false]
        rcases (RefState.running_iff _).mp running with state | state
        · rw [Reference.pulse_restart state pending bad, state]; exact nofun
        · rw [Reference.pulse_fault state bad]; exact nofun

/-- Some pulse's second is good, in the terms of the statements (R9). -/
theorem Reference.exists_good_iff {x : Reference} {now : Nat} :
    (∃ second, x.pendingSecond = some second ∧ x.lastGood = some (second - 1) ∧ 1 ≤ second ∧
      999900000 ≤ now - x.lastPulse ∧ now - x.lastPulse ≤ 1000100000) ↔ x.good now = true := by
  constructor
  · rintro ⟨second, pending, good⟩
    exact (Reference.good_iff pending).mpr good
  · intro good
    cases pending : x.pendingSecond with
    | none => rw [Reference.good_of_none pending] at good; cases good
    | some second => exact ⟨second, rfl, (Reference.good_iff pending).mp good⟩

/-! ## The selection after a pulse (R15, R16) -/

/-- A reference that is or becomes USABLE and is or becomes selected is selected, and the hub keeps its state (R15). -/
theorem Timebase.afterRef_follows {t : Timebase} {r : RefId} {y : Reference} {before : RefState}
    (usable : y.state = .usable) (follows : t.selection = some r ∨
      (before ≠ .usable ∧ t.autoSelect = true ∧ ∀ q, t.selection = some q → (t.ref q).state ≠ .usable)) :
    ((t.setRef r y).afterRef r before).selection = some r ∧
      ((t.setRef r y).afterRef r before).hubState = t.hubState := by
  have own : ((t.setRef r y).ref r).state = .usable := by rw [Timebase.setRef_self, usable]
  unfold Timebase.afterRef
  rw [if_neg fun h => h.2.1 own]
  split
  · exact ⟨rfl, Timebase.setRef_hubState t r y⟩
  · next kept =>
    refine ⟨?_, Timebase.setRef_hubState t r y⟩
    rw [Timebase.setRef_selection]
    rcases follows with selected | ⟨left, auto, unserved⟩
    · exact selected
    · by_contra other
      refine kept ⟨left, own, ?_, (Timebase.unserved_iff _).mpr ?_⟩
      · cases r <;> exact auto
      · rintro ⟨q, selected, served⟩
        rw [Timebase.setRef_selection] at selected
        rw [Timebase.ref_setRef] at served
        split at served
        · next same => exact other (same ▸ selected)
        · exact unserved q selected served

/-- A reference that brings neither a fallback nor a selection keeps selection and hub state (R15, R16). -/
theorem Timebase.afterRef_kept {t : Timebase} {r : RefId} {before : RefState}
    (left : ¬ (before = .usable ∧ (t.ref r).state ≠ .usable ∧ t.selection = some r))
    (became : ¬ (before ≠ .usable ∧ (t.ref r).state = .usable ∧ t.autoSelect = true ∧ t.unserved = true)) :
    t.afterRef r before = t := by
  rw [Timebase.afterRef, if_neg left, if_neg became]

/-- Without a fallback to HOLDOVER, a change of a reference touches no link. -/
theorem State.afterRef_links {s : State} {r : RefId} {before : RefState}
    (stays : ¬ (before = .usable ∧ (s.timebase.ref r).state ≠ .usable ∧ s.timebase.selection = some r) ∨
      (s.timebase.ref (otherRef r)).state = .usable ∨ s.timebase.hubState ≠ .referenced) :
    (s.afterRef r before).links = s.links := by
  have selected (u : State) (x : Option RefId) : (u.setSelection x).links = u.links := by
    unfold State.setSelection
    split <;> rfl
  unfold State.afterRef
  dsimp only
  rw [State.raiseIf_timebase]
  split
  · next fell =>
    have kept := stays.resolve_left fun h => h fell
    unfold State.fallback State.enterHoldover
    rw [State.raiseIf_timebase]
    split
    · rw [selected, State.raiseIf_links]
    · next other => rw [if_neg (kept.resolve_left other), State.raiseIf_links]
  · split
    · rw [selected, State.raiseIf_links]
    · rw [State.raiseIf_links]

/-- The raising of REFERENCE on entering USABLE or FAULT (R19). -/
theorem KindRaised.afterRef {s : State} {r : RefId} {before : RefState} (moved : (s.timebase.ref r).state ≠ before)
    (enters : (s.timebase.ref r).state = .usable ∨ (s.timebase.ref r).state = .fault) :
    KindRaised 0x10 s (s.afterRef r before) := by
  have raised : KindRaised 0x10 s (s.raise .reference) := .raise s .reference
  have first : s.raiseIf (decide ((s.timebase.ref r).state ≠ before) && (decide ((s.timebase.ref r).state = .usable) ||
      decide ((s.timebase.ref r).state = .fault))) .reference = s.raise .reference := by
    rcases enters with is | is <;> rw [is] at moved ⊢ <;> simp [State.raiseIf, moved]
  unfold State.afterRef
  dsimp only
  rw [first]
  split
  · exact raised.after (HubFrame.fallback _ r).raises (.raise _ _)
  · split
    · exact raised.after (HubFrame.setSelection _ _).raises (.raise _ _)
    · exact raised

/-! ## A step of hub time (R17, R158) -/

section Step

variable {s : State} {second : Nat}

theorem State.stepTime_links (s : State) (target : Int) : (s.stepTime target).links = s.links := by
  unfold State.stepTime
  dsimp only
  split
  · rfl
  · rfl
  · rw [State.raiseIf_links]; rfl

theorem State.stepTime_hubState (s : State) (target : Int) :
    (s.stepTime target).timebase.hubState = s.timebase.hubState := by
  unfold State.stepTime
  dsimp only
  split
  · rfl
  · rfl
  · rw [State.raiseIf_timebase]; rfl

/-- Hub time stepped and the hub REFERENCED, before the deadlines are looked at (R17). -/
def State.rebased (s : State) (second : Nat) : State := (s.stepTime ((second : Int) * nsPerSecond)).setHubState .referenced

theorem State.rebased_frame (s : State) (second : Nat) : HubFrame s (s.rebased second) :=
  (HubFrame.stepTime s _).trans (.setHubState _ _)

theorem State.rebased_timebase (s : State) (second : Nat) :
    (s.rebased second).timebase = s.timebase.stepped ((second : Int) * nsPerSecond) :=
  (State.closeDeadlines_frame (s.rebased second)).timebase.symm.trans (State.stepHub_timebase s second)

theorem Raises.stepHub (s : State) (second : Nat) : Raises s (s.stepHub second) :=
  (s.rebased_frame second).raises.trans (.closeDeadlines _)

/-- A hub that enters REFERENCED abandons every probe, and no link is touched otherwise (R6, R44). -/
theorem State.stepHub_link (s : State) (second : Nat) (l : LinkId) : (s.stepHub second).link l =
    if s.timebase.hubState = .referenced then s.link l else { s.link l with probe := none } := by
  have links : (s.stepHub second).link l = (s.rebased second).link l :=
    congrArg (fun x => x.get l) (State.closeDeadlines_frame (s.rebased second)).links
  have kept : (s.stepTime ((second : Int) * nsPerSecond)).link l = s.link l :=
    congrArg (fun x => x.get l) (State.stepTime_links s _)
  rw [links, State.rebased, State.setHubState_link, State.stepTime_hubState, kept]

/-- Entering REFERENCED and a large step raise REFERENCE (R19). -/
theorem KindRaised.stepHub (moved : s.timebase.hubState ≠ .referenced ∨
    s.timebase.largeStep ((second : Int) * nsPerSecond) = true) : KindRaised 0x10 s (s.stepHub second) := by
  have stepped := (HubFrame.stepTime s ((second : Int) * nsPerSecond)).raises
  refine KindRaised.after (t := s.rebased second) ?_ (.closeDeadlines _) (s.rebased_frame second).raises
  by_cases other : s.timebase.hubState = .referenced
  · have large := moved.resolve_left (not_not_intro other)
    simp only [Timebase.largeStep, other, decide_true, Bool.true_and] at large
    refine KindRaised.after ?_ (HubFrame.setHubState _ _).raises stepped
    unfold State.stepTime
    simp only [other, large, State.raiseIf, if_true]
    exact .before (HubFrame.modTimebase s _).raises (.raise _ .reference)
  · exact .before stepped (.setHubState (by rwa [State.stepTime_hubState]))

/-- A requested probe that the step ends raises PROBE (R44, R103). -/
theorem KindRaised.stepHub_probe {l : LinkId} {y : ProbeSlot} (other : s.timebase.hubState ≠ .referenced)
    (probe : (s.link l).probe = some y) (requested : y.requested = true) : KindRaised 0x80 s (s.stepHub second) := by
  refine KindRaised.after (t := s.rebased second) ?_ (.closeDeadlines _) (s.rebased_frame second).raises
  refine .before (HubFrame.stepTime s _).raises (.setHubState_probe (l := l) ?_ ?_ requested)
  · rwa [State.stepTime_hubState]
  · rw [State.link, State.stepTime_links]
    exact probe

theorem State.stepHub_noGrid (noGrid : s.timebase.grid = none) :
    (s.stepHub second).assembler = s.assembler ∧ (s.stepHub second).store = s.store := by
  have same : s.stepHub second = s.rebased second :=
    State.closeDeadlines_noGrid (s := s.rebased second) (by rw [State.rebased_timebase]; exact noGrid)
  rw [same]
  exact ⟨(s.rebased_frame second).assembler, (s.rebased_frame second).store⟩

/-- What a step of hub time makes of every epoch (R158, R159). -/
theorem State.stepHub_epochs {g : Grid} (grid : s.timebase.grid = some g) (idle : s.store.waiting = [])
    (sound : s.assembler.sound) {e : Epoch} (mem : e ∈ s.assembler.table) :
    let reached : Prop := e.state = .forming ∧
      (g.o + e.number * g.e + g.e + g.l : Int) * 1000000000 ≤ second * 1000000000
    let wanted : Prop := ∃ p, e.needed.has p = true ∧ e.released.has p = false
    let t := s.stepHub second
    (¬ reached → e ∈ t.assembler.table) ∧
    (reached → KindRaised 0x01 s t) ∧
    (reached → wanted → { e with state := .closedDeadline } ∈ t.assembler.table) ∧
    (reached → ¬ wanted → (∀ x ∈ t.assembler.table, x.number ≠ e.number) ∧
      ∃ m, t.assembler.freedMark = some m ∧ e.number ≤ m) := by
  intro reached wanted
  have frame := s.rebased_frame second
  have isGrid : (s.rebased second).timebase.grid = some g := by rw [State.rebased_timebase]; exact grid
  have isSet : (s.rebased second).timebase.hubState ≠ .unset := by rw [State.rebased_timebase]; exact nofun
  have isNow : (s.rebased second).timebase.hubTime = (second : Int) * 1000000000 := by rw [State.rebased_timebase]; rfl
  rw [← frame.assembler] at sound mem
  obtain ⟨others, kept, freed⟩ := State.closeDeadlines_spec isGrid isSet sound (by rw [frame.store]; exact idle) isNow mem
  refine ⟨others, fun h => .before frame.raises (.closeDeadlines isGrid isSet sound mem ?_), kept, freed⟩
  rwa [State.deadlineReached_iff, isNow]

end Step

/-! ## The hub at a pulse (R15 to R17) -/

section Hub

variable {s : State} {r : RefId}

theorem State.pulsed_own (s : State) (r : RefId) : (s.pulsed r).timebase.ref r =
    (s.timebase.ref r).pulse s.timebase.oscNs s.partTime := (s.pulsed_ref r r).trans (if_pos rfl)

/-- A reference that stays or becomes USABLE, selected or chosen by auto-select (R15). -/
def State.follows (s : State) (r : RefId) : Prop :=
  s.timebase.selection = some r ∨ ((s.timebase.ref r).state = .stabilizing ∧ s.timebase.autoSelect = true ∧
    ∀ q, s.timebase.selection = some q → (s.timebase.ref q).state ≠ .usable)

theorem State.pulsed_follows (usable : ((s.timebase.ref r).pulse s.timebase.oscNs s.partTime).state = .usable)
    (follows : s.follows r) : (s.pulsed r).timebase.selection = some r ∧
      (s.pulsed r).timebase.hubState = s.timebase.hubState ∧ (s.pulsed r).links = s.links := by
  have after := Timebase.afterRef_follows (before := (s.timebase.ref r).state) usable
    (follows.imp_right fun ⟨state, chosen⟩ => ⟨by rw [state]; exact nofun, chosen⟩)
  rw [State.pulsed_timebase]
  refine ⟨after.1, after.2, State.afterRef_links (.inl fun left => left.2.1 ?_)⟩
  exact (congrArg Reference.state (Timebase.setRef_self s.timebase r _)).trans usable

/-- A reference that becomes USABLE or becomes selected raises REFERENCE (R19). -/
theorem KindRaised.pulsed (state : (s.timebase.ref r).state = .stabilizing)
    (usable : ((s.timebase.ref r).pulse s.timebase.oscNs s.partTime).state = .usable) :
    KindRaised 0x10 s (s.pulsed r) := by
  have own := (congrArg Reference.state (Timebase.setRef_self s.timebase r
    ((s.timebase.ref r).pulse s.timebase.oscNs s.partTime))).trans usable
  refine .before (HubFrame.modTimebase s _).raises (.afterRef ?_ (.inl own))
  rw [state]
  exact fun same => absurd (own.symm.trans same) nofun

/-- A pulse that does not leave its reference USABLE and selected (R17). -/
theorem State.pulse_unstepped (on : (s.timebase.ref r).state ≠ .off)
    (not : (s.pulsed r).timebase.selection = some r →
      ¬ ((s.timebase.ref r).pulse s.timebase.oscNs s.partTime).state = .usable) : s.pulse r = s.pulsed r :=
  State.pulse_stays on fun _ ⟨_, _, _, selected, usable⟩ => not selected (by rwa [State.pulsed_own] at usable)

/-- The state in which a USABLE reference is left: STABILIZING by a good pulse under a raised depth, FAULT by a bad one
(R11). -/
theorem Reference.pulse_left {x : Reference} {now ms : Nat} (usable : x.state = .usable)
    (left : (x.pulse now ms).state ≠ .usable) : (x.pulse now ms).state = if x.good now = true then .stabilizing else .fault := by
  split
  · next good =>
    cases pending : x.pendingSecond with
    | none => rw [Reference.good_of_none pending] at good; cases good
    | some second =>
      rw [Reference.pulse_good ((RefState.running_iff _).mpr (.inr usable)) pending good] at left ⊢
      dsimp only at left ⊢
      exact if_neg fun deep => left (if_pos deep)
  · next bad => rw [Reference.pulse_fault usable bad]

end Hub

section Fallback

variable {s : State} {r : RefId}

/-- The fallback raises REFERENCE when it selects the other reference or starts holdover (R16, R19). -/
theorem KindRaised.fallback (selected : s.timebase.selection = some r)
    (falls : (s.timebase.ref (otherRef r)).state = .usable ∨ s.timebase.hubState = .referenced) :
    KindRaised 0x10 s (s.fallback r) := by
  unfold State.fallback
  split
  · refine .setSelection fun same => ?_
    exact otherRef_ne r (Option.some.inj (selected.symm.trans same))
  · next unserved =>
    have referenced := falls.resolve_left unserved
    rw [State.enterHoldover, if_pos referenced]
    exact .setHubState (by rw [referenced]; exact nofun)

/-- The state after a pulse that takes the selected reference out of USABLE (R16). -/
theorem State.pulsed_left (usable : (s.timebase.ref r).state = .usable) (selected : s.timebase.selection = some r)
    (left : ((s.timebase.ref r).pulse s.timebase.oscNs s.partTime).state ≠ .usable) :
    ∃ b, s.pulsed r = ((s.modTimebase fun t =>
      t.setRef r ((s.timebase.ref r).pulse s.timebase.oscNs s.partTime)).raiseIf b .reference).fallback r := by
  have own : ((s.timebase.setRef r ((s.timebase.ref r).pulse s.timebase.oscNs s.partTime)).ref r).state ≠ .usable := by
    rwa [Timebase.setRef_self]
  unfold State.pulsed State.afterRef
  dsimp only
  rw [State.raiseIf_timebase, usable]
  exact ⟨_, if_pos ⟨rfl, own, (Timebase.setRef_selection _ r _).trans selected⟩⟩

variable (y : Reference) (b : Bool)

theorem State.fallback_other (served : (s.timebase.ref (otherRef r)).state = .usable) :
    let t := ((s.modTimebase fun t => t.setRef r y).raiseIf b .reference).fallback r
    t.timebase.selection = some (otherRef r) ∧ t.timebase.hubState = s.timebase.hubState ∧ t.links = s.links := by
  have other : ((s.timebase.setRef r y).ref (otherRef r)).state = .usable := by
    rwa [Timebase.ref_setRef, if_neg (otherRef_ne r)]
  have isOther : ((((s.modTimebase fun t => t.setRef r y).raiseIf b .reference).timebase).ref (otherRef r)).state =
      .usable := by rwa [State.raiseIf_timebase]
  dsimp only
  rw [State.fallback, if_pos isOther, State.setSelection_timebase, State.raiseIf_timebase]
  refine ⟨rfl, Timebase.setRef_hubState _ r y, ?_⟩
  unfold State.setSelection
  split
  · rw [State.raiseIf_links]; rfl
  · show (((s.modTimebase fun t => t.setRef r y).raiseIf b .reference)).links = s.links
    rw [State.raiseIf_links]; rfl

theorem State.fallback_holdover (selected : s.timebase.selection = some r)
    (unserved : (s.timebase.ref (otherRef r)).state ≠ .usable) :
    let t := ((s.modTimebase fun t => t.setRef r y).raiseIf b .reference).fallback r
    t.timebase.selection = some r ∧
      (s.timebase.hubState = .referenced → t.timebase.hubState = .holdover ∧
        ∀ l, t.link l = { s.link l with probe := none }) ∧
      (s.timebase.hubState ≠ .referenced → t.timebase.hubState = s.timebase.hubState ∧ t.links = s.links) := by
  have other : ((s.timebase.setRef r y).ref (otherRef r)).state ≠ .usable := by
    rwa [Timebase.ref_setRef, if_neg (otherRef_ne r)]
  have isOther : ((((s.modTimebase fun t => t.setRef r y).raiseIf b .reference).timebase).ref (otherRef r)).state ≠
      .usable := by rwa [State.raiseIf_timebase]
  have isHub : ((s.modTimebase fun t => t.setRef r y).raiseIf b .reference).timebase.hubState = s.timebase.hubState := by
    rw [State.raiseIf_timebase]
    exact Timebase.setRef_hubState _ r y
  have isSelected : ((s.modTimebase fun t => t.setRef r y).raiseIf b .reference).timebase.selection = some r := by
    rw [State.raiseIf_timebase]
    exact (Timebase.setRef_selection _ r y).trans selected
  have isLinks : ((s.modTimebase fun t => t.setRef r y).raiseIf b .reference).links = s.links := by
    rw [State.raiseIf_links]; rfl
  dsimp only
  rw [State.fallback, if_neg isOther, State.enterHoldover, isHub]
  refine ⟨?_, fun referenced => ?_, fun free => ?_⟩
  · split
    · rw [State.setHubState_timebase]; exact isSelected
    · exact isSelected
  · rw [if_pos referenced, State.setHubState_timebase]
    refine ⟨rfl, fun l => ?_⟩
    rw [State.setHubState_link, isHub, if_neg (by rw [referenced]; exact nofun), State.link, isLinks]
    rfl
  · rw [if_neg free]
    exact ⟨isHub, isLinks⟩

end Fallback

/-- Settles O24, by whether the pulse steps the hub, takes the selected reference out of USABLE, or does neither. -/
theorem goodPulseStepsTheHub : Obligations.GoodPulseStepsTheHub := by
  intro dt r s running x now carried good follows stays
  have isX : (s.advance dt).timebase.ref r = x := State.advance_ref s dt r
  have follows_iff : (s.advance dt).follows r ↔ follows := by
    unfold State.follows
    simp only [State.advance_ref]
    exact Iff.rfl
  have good_iff : (∃ second, good second) ↔ x.good now = true := Reference.exists_good_iff
  have frame : HubFrame s ((s.advance dt).pulsed r) := (HubFrame.advance s dt).trans ((s.advance dt).pulsed_frame r)
  have clock := (s.advance dt).pulsed_clock r
  have hubTime : ((s.advance dt).pulsed r).timebase.hubTime = carried := clock.hubTime.trans (s.advance_hubTime dt)
  have usable_iff : (x.pulse now (s.advance dt).partTime).state = .usable ↔
      x.state.running = true ∧ x.good now = true ∧ x.depth ≤ min (x.run + 1) 64 := Reference.pulse_usable_iff
  refine ⟨fun second state isGood deep isFollowed => ?_, fun selected usable left => ?_, fun unstepped unfallen => ?_⟩
  · intro step
    have isUsable := usable_iff.mpr ⟨(RefState.running_iff _).mpr state, good_iff.mp ⟨second, isGood⟩, deep⟩
    have nowUsable : (((s.advance dt).timebase.ref r).pulse now (s.advance dt).partTime).state = .usable := by
      rwa [isX]
    obtain ⟨isSelected, hub, links⟩ := State.pulsed_follows nowUsable (follows_iff.mpr isFollowed)
    have steps : (s.advance dt).pulseSteps r second := by
      refine ⟨?_, ?_, ?_, isSelected, ?_⟩
      · rw [isX]; exact isGood.1
      · rw [isX]; exact (RefState.running_iff _).mpr state
      · rw [isX]; exact good_iff.mp ⟨second, isGood⟩
      · rwa [State.pulsed_own]
    have isHub : ((s.advance dt).pulsed r).timebase.hubState = s.timebase.hubState := hub
    have isLink (l : LinkId) : ((s.advance dt).pulsed r).link l = s.link l := congrArg (fun y => y.get l) links
    have raises : Raises s (((s.advance dt).pulsed r).stepHub second) := frame.raises.trans (.stepHub _ second)
    refine ⟨_, State.event_of_eq (body := (State.pulse · r)) running (State.pulse_steps steps), ?_⟩
    simp only [State.endEvent_timebase, State.stepHub_timebase, State.endEvent_assembler]
    refine ⟨isSelected, rfl, rfl, ?_, ?_, fun l => ?_, fun moved => ?_, fun other ⟨l, y, probe, requested⟩ => ?_,
      fun noGrid => ?_, fun g grid idle sound e mem => ?_⟩
    · simp only [Timebase.stepped, Timebase.stepTo, isHub, hubTime]
      rfl
    · simp only [Timebase.stepped, Timebase.largeStep, isHub, hubTime, clock.stepLimit, clock.largeSteps,
        Bool.and_eq_true, decide_eq_true_eq]
      rfl
    · rw [State.endEvent_link, State.stepHub_link, isHub, isLink]
    · refine KindRaised.endEvent ?_ raises
      by_cases stabilizing : x.state = .stabilizing
      · refine .before (HubFrame.advance s dt).raises (KindRaised.after (.pulsed ?_ nowUsable) (.stepHub _ second)
          (State.pulsed_frame _ r).raises)
        rwa [isX]
      · refine .before frame.raises (.stepHub ?_)
        rcases moved with other | is | unselected | large
        · exact .inl (by rwa [isHub])
        · exact absurd is stabilizing
        · exact absurd isFollowed fun h => h.elim unselected fun h => stabilizing h.1
        · by_cases other : s.timebase.hubState = .referenced
          · refine .inr ?_
            simp only [Timebase.largeStep, isHub, hubTime, clock.stepLimit, other, decide_true, Bool.true_and,
              decide_eq_true_eq]
            exact large
          · exact .inl (by rwa [isHub])
    · refine KindRaised.endEvent (.before frame.raises (.stepHub_probe (l := l) (y := y) ?_ ?_ requested)) raises
      · rwa [isHub]
      · rwa [isLink]
    · obtain ⟨assembler, store⟩ := State.stepHub_noGrid (s := (s.advance dt).pulsed r) (second := second)
        (clock.grid.trans noGrid)
      have kept (u : State) : u.endEvent.store.slots = u.store.slots := rfl
      rw [kept, store, frame.store]
      exact ⟨assembler.trans frame.assembler, rfl⟩
    · rw [← frame.assembler] at sound mem
      obtain ⟨others, raised, kept, freed⟩ := State.stepHub_epochs (second := second) (clock.grid.trans grid)
        (by rw [frame.store]; exact idle) sound mem
      exact ⟨others, fun h => KindRaised.endEvent (.before frame.raises (raised h)) raises, kept, freed⟩
  · have isLeft : (x.pulse now (s.advance dt).partTime).state ≠ .usable := fun h => by
      obtain ⟨isRunning, isGood, deep⟩ := usable_iff.mp h
      exact left ⟨.inr usable, good_iff.mpr isGood, deep⟩
    have nowLeft : (((s.advance dt).timebase.ref r).pulse now (s.advance dt).partTime).state ≠ .usable := by rwa [isX]
    have same : (s.advance dt).pulse r = (s.advance dt).pulsed r :=
      State.pulse_unstepped (by rw [isX, usable]; exact nofun) fun _ => nowLeft
    have own := Reference.pulse_left usable isLeft
    have isRef : (((s.advance dt).pulsed r).timebase.ref r).state = if x.good now = true then .stabilizing else .fault := by
      rw [State.pulsed_own, isX]
      exact own
    obtain ⟨b, falls⟩ := State.pulsed_left (s := s.advance dt) (by rwa [isX]) selected nowLeft
    have isOther : (s.advance dt).timebase.ref (otherRef r) = s.timebase.ref (otherRef r) := State.advance_ref s dt _
    refine ⟨_, State.event_of_eq (body := (State.pulse · r)) running same, ?_⟩
    simp only [State.endEvent_timebase, State.endEvent_assembler, State.endEvent_links, State.endEvent_link, isRef, good_iff]
    refine ⟨hubTime, clock.lastStep, clock.largeSteps, frame.assembler, fun h => if_pos h, fun h => if_neg h,
      fun served => ?_, fun unserved => ?_, fun moved => KindRaised.endEvent ?_ frame.raises⟩
    · rw [falls]
      exact State.fallback_other _ b (by rwa [isOther])
    · rw [falls]
      exact State.fallback_holdover _ b selected (by rwa [isOther])
    · refine .before (HubFrame.advance s dt).raises ?_
      by_cases bad : x.good now = true
      · rw [falls]
        have before : HubFrame (s.advance dt) (((s.advance dt).modTimebase fun t => t.setRef r
            (((s.advance dt).timebase.ref r).pulse (s.advance dt).timebase.oscNs (s.advance dt).partTime)).raiseIf b
            .reference) := (HubFrame.modTimebase _ _).trans (.raiseIf _ _ _)
        refine .before before.raises (.fallback ?_ ?_)
        · rw [State.raiseIf_timebase]
          exact (Timebase.setRef_selection _ r _).trans selected
        · rw [State.raiseIf_timebase]
          refine moved.imp (fun served => ?_) fun h => ?_
          · refine (congrArg Reference.state ((Timebase.ref_setRef _ r (otherRef r) _).trans
              (if_neg (otherRef_ne r)))).trans ?_
            rwa [isOther]
          · exact (Timebase.setRef_hubState _ r _).trans (h.resolve_right (not_not_intro bad))
      · refine .before (HubFrame.modTimebase _ _).raises (State.afterRef_fault ?_ ?_)
        · refine (congrArg Reference.state (Timebase.setRef_self (s.advance dt).timebase r _)).trans ?_
          rw [isX]
          exact own.trans (if_neg bad)
        · rw [isX, usable]; exact nofun
  · by_cases off : x.state = .off
    · refine ⟨_, State.event_of_eq (body := (State.pulse · r)) running (State.pulse_off (by rwa [isX])), ?_⟩
      exact ⟨rfl, rfl, s.advance_hubTime dt, rfl, rfl, rfl, rfl⟩
    have notUsable (isFollowed : follows) : (x.pulse now (s.advance dt).partTime).state ≠ .usable := fun h => by
      obtain ⟨isRunning, isGood, deep⟩ := usable_iff.mp h
      exact unstepped ⟨⟨(RefState.running_iff _).mp isRunning, good_iff.mpr isGood, deep⟩, isFollowed⟩
    have isPulse : ((s.advance dt).timebase.ref r).pulse (s.advance dt).timebase.oscNs (s.advance dt).partTime =
        x.pulse now (s.advance dt).partTime := by rw [isX]; rfl
    have own : ((s.advance dt).timebase.setRef r (x.pulse now (s.advance dt).partTime)).ref r =
        x.pulse now (s.advance dt).partTime := Timebase.setRef_self _ r _
    have isSelection : ((s.advance dt).timebase.setRef r (x.pulse now (s.advance dt).partTime)).selection =
        s.timebase.selection := Timebase.setRef_selection (s.advance dt).timebase r _
    have left : ¬ (x.state = .usable ∧ (((s.advance dt).timebase.setRef r (x.pulse now (s.advance dt).partTime)).ref r).state
        ≠ .usable ∧ ((s.advance dt).timebase.setRef r (x.pulse now (s.advance dt).partTime)).selection = some r) :=
      fun ⟨usable, _, selected⟩ => unfallen ⟨isSelection.symm.trans selected, usable⟩
    have became : ¬ (x.state ≠ .usable ∧ (((s.advance dt).timebase.setRef r (x.pulse now (s.advance dt).partTime)).ref
        r).state = .usable ∧ ((s.advance dt).timebase.setRef r (x.pulse now (s.advance dt).partTime)).autoSelect = true ∧
        ((s.advance dt).timebase.setRef r (x.pulse now (s.advance dt).partTime)).unserved = true) := by
      rintro ⟨before, usable, auto, unserved⟩
      rw [own] at usable
      refine notUsable ?_ usable
      by_cases selected : s.timebase.selection = some r
      · exact .inl selected
      refine .inr ⟨((RefState.running_iff _).mp (usable_iff.mp usable).1).resolve_right before, ?_, fun q isQ served => ?_⟩
      · rw [← auto]
        cases r <;> rfl
      · have apart : r ≠ q := fun same => selected (same ▸ isQ)
        refine (Timebase.unserved_iff _).mp unserved ⟨q, isSelection.trans isQ, ?_⟩
        rw [Timebase.ref_setRef, if_neg apart, State.advance_ref]
        exact served
    have timebase : ((s.advance dt).pulsed r).timebase =
        (s.advance dt).timebase.setRef r (x.pulse now (s.advance dt).partTime) := by
      rw [State.pulsed_timebase, isPulse, isX]
      exact Timebase.afterRef_kept left became
    have links : ((s.advance dt).pulsed r).links = s.links := by
      refine State.afterRef_links (.inl ?_)
      rw [isPulse, isX]
      exact left
    have same : (s.advance dt).pulse r = (s.advance dt).pulsed r := by
      refine State.pulse_unstepped (by rwa [isX]) fun selected => ?_
      rw [timebase, isSelection] at selected
      rw [isPulse]
      exact notUsable (.inl selected)
    refine ⟨_, State.event_of_eq (body := (State.pulse · r)) running same, ?_⟩
    simp only [State.endEvent_timebase, State.endEvent_assembler, State.endEvent_links]
    refine ⟨?_, ?_, hubTime, clock.lastStep, clock.largeSteps, links, frame.assembler⟩
    · rw [timebase, isSelection]
    · rw [timebase]
      exact Timebase.setRef_hubState (s.advance dt).timebase r _

end Sys2Proof.Machine
end

section
/-! PROOF. Outbound grants of a link (R39, R40, R43) and the opening of bursts (R30): O29, O34, O35. -/

namespace Sys2Proof.Machine

/-! ## Bytes outside a burst (R26, R30) -/

theorem State.contentByte_idle {s : State} {l : LinkId} (idle : (s.link l).burst = none) (x : Byte) :
    s.contentByte l x = s := by
  simp only [State.contentByte, idle]

theorem State.closeBurst_idle {s : State} {l : LinkId} (idle : (s.link l).burst = none) : s.closeBurst l = s := by
  simp only [State.closeBurst, idle]

theorem State.cutBurst_idle {s : State} {l : LinkId} (idle : (s.link l).burst = none) : s.cutBurst l = s := by
  simp only [State.cutBurst, idle]

theorem noDelimiter_cons {x : Byte} {xs : List Byte} :
    noDelimiter (x :: xs) = true ↔ (x ≠ openByte ∧ x ≠ closeByte) ∧ noDelimiter xs = true := by
  simp only [noDelimiter, List.all_cons, Bool.and_eq_true, decide_eq_true_eq, openByte, closeByte]

theorem State.linkByte_content (l : LinkId) (s : State) {x : Byte} (noOpen : x ≠ openByte) (noClose : x ≠ closeByte) :
    State.linkByte l s x = s.contentByte l x := by
  rw [State.linkByte, if_neg noOpen, if_neg noClose]

theorem State.linkByte_open (l : LinkId) (s : State) : State.linkByte l s openByte = s.openBurst l := if_pos rfl

theorem State.linkByte_close (l : LinkId) (s : State) : State.linkByte l s closeByte = s.closeBurst l :=
  (if_neg (by decide)).trans (if_pos rfl)

/-- Bytes outside a burst change nothing (R30). -/
theorem State.linkByte_foldl_idle {s : State} {l : LinkId} (idle : (s.link l).burst = none) :
    ∀ {bytes : List Byte}, noDelimiter bytes = true → bytes.foldl (State.linkByte l) s = s
  | [], _ => rfl
  | x :: xs, clean => by
    obtain ⟨⟨noOpen, noClose⟩, rest⟩ := noDelimiter_cons.mp clean
    rw [List.foldl_cons, State.linkByte_content l s noOpen noClose, State.contentByte_idle idle,
      State.linkByte_foldl_idle idle rest]

theorem State.linkBytes_off {s : State} {l : LinkId} (off : (s.link l).state = .off) (bytes : List Byte) :
    s.linkBytes l bytes = s := if_pos off

theorem State.linkBytes_on {s : State} {l : LinkId} (on : (s.link l).state ≠ .off) (bytes : List Byte) :
    s.linkBytes l bytes = bytes.foldl (State.linkByte l) s := if_neg on

/-- Bytes outside a burst, and one more after them (R30). -/
theorem State.linkBytes_idle {s : State} {l : LinkId} (on : (s.link l).state ≠ .off) (idle : (s.link l).burst = none)
    {bytes : List Byte} (clean : noDelimiter bytes = true) (last : Byte) :
    s.linkBytes l (bytes ++ [last]) = State.linkByte l s last := by
  rw [State.linkBytes_on on, List.foldl_append, State.linkByte_foldl_idle idle clean]
  rfl

/-- Settles O29. -/
theorem openingDelimiterStampsTheBurst : Obligations.OpeningDelimiterStampsTheBurst := by
  intro dt l bytes s running clean
  refine ⟨fun on idle => ⟨?_, ?_, ?_⟩, fun off => ⟨?_, ?_, ?_, ?_⟩⟩
  · refine State.event_of_eq (body := fun s => s.linkBytes l (bytes ++ [openByte])) running ?_
    rw [State.linkBytes_idle (s := s.advance dt) on idle clean, State.linkByte_open, State.openBurst,
      State.cutBurst_idle (s := s.advance dt) idle]
    rfl
  · refine State.event_of_eq (body := fun s => s.linkBytes l (bytes ++ [closeByte])) running ?_
    rw [State.linkBytes_idle (s := s.advance dt) on idle clean, State.linkByte_close,
      State.closeBurst_idle (s := s.advance dt) idle]
  · refine State.event_of_eq (body := fun s => s.linkBytes l bytes) running ?_
    rw [State.linkBytes_on (s := s.advance dt) on, State.linkByte_foldl_idle (s := s.advance dt) idle clean]
  · exact State.event_of_eq (body := fun s => s.linkBytes l (bytes ++ [openByte])) running
      (State.linkBytes_off (s := s.advance dt) off _)
  · exact State.event_of_eq (body := fun s => s.linkBytes l (bytes ++ [closeByte])) running
      (State.linkBytes_off (s := s.advance dt) off _)
  · exact State.event_of_eq (body := fun s => s.linkBytes l bytes) running
      (State.linkBytes_off (s := s.advance dt) off _)
  · exact State.event_of_eq (body := fun s => s.carrierFalls l bytes) running (if_pos off)

/-! ## The station granted first (R40, R43) -/

/-- The better of the best station so far and the next: the lower stamp, the earlier station where they are equal. -/
def earlier (stamp : StationId → Option (BitVec 64)) (best : Option StationId) (i : StationId) : Option StationId :=
  match best with
  | none => some i
  | some j => if (stamp i).getD 0 < (stamp j).getD 0 then some i else some j

theorem leastRecent_of_stamped {stamp : StationId → Option (BitVec 64)} {l : List StationId}
    (stamped : (l.find? fun i => (stamp i).isNone) = none) : leastRecent stamp l = l.foldl (earlier stamp) none := by
  rw [leastRecent, stamped]
  rfl

section Earlier

variable {stamp : StationId → Option (BitVec 64)} {i : StationId}

theorem earlier_foldl_kept : ∀ {l : List StationId}, (∀ j ∈ l, (stamp i).getD 0 ≤ (stamp j).getD 0) →
    l.foldl (earlier stamp) (some i) = some i
  | [], _ => rfl
  | j :: l, least => by
    have kept : earlier stamp (some i) j = some i := if_neg (BitVec.not_lt.mpr (least j (by simp)))
    rw [List.foldl_cons, kept]
    exact earlier_foldl_kept fun k mem => least k (by simp [mem])

theorem earlier_foldl_found : ∀ {l : List StationId} {best : Option StationId}, l.Pairwise (· < ·) → i ∈ l →
    (∀ b, best = some b → (stamp i).getD 0 < (stamp b).getD 0) →
    (∀ j ∈ l, (stamp i).getD 0 < (stamp j).getD 0 ∨ ((stamp i).getD 0 = (stamp j).getD 0 ∧ i ≤ j)) →
    l.foldl (earlier stamp) best = some i
  | j :: l, best, sorted, mem, worse, least => by
    obtain ⟨below, sorted⟩ := List.pairwise_cons.mp sorted
    rw [List.foldl_cons]
    by_cases here : j = i
    · subst here
      have taken : earlier stamp best j = some j := by
        cases best with
        | none => rfl
        | some b => exact if_pos (worse b rfl)
      rw [taken]
      exact earlier_foldl_kept fun k isIn => (least k (by simp [isIn])).elim BitVec.le_of_lt fun h => h.1 ▸ BitVec.le_refl _
    · have later : i ∈ l := (List.mem_cons.mp mem).resolve_left (Ne.symm here)
      refine earlier_foldl_found sorted later (fun b isB => ?_) fun k isIn => least k (by simp [isIn])
      have head : (stamp i).getD 0 < (stamp j).getD 0 :=
        (least j (by simp)).resolve_right fun h => absurd (below i later) (not_lt.mpr h.2)
      cases best with
      | none => rw [← Option.some.inj isB]; exact head
      | some c =>
        rw [earlier] at isB
        split at isB
        · rw [← Option.some.inj isB]; exact head
        · rw [← Option.some.inj isB]; exact worse c rfl

end Earlier

/-- The station served first is granted (R40, R43). -/
theorem leastRecent_of_servedFirst {stamp : StationId → Option (BitVec 64)} {may : StationId → Prop}
    {test : StationId → Bool} {i : StationId} (isTest : ∀ j, test j = true ↔ may j) (first : servedFirst stamp may i) :
    leastRecent stamp (allStations.filter test) = some i := by
  obtain ⟨own, ⟨unstamped, lowest⟩ | ⟨n, isN, least⟩⟩ := first
  · have found : ((allStations.filter test).find? fun j => (stamp j).isNone) = some i := by
      rw [List.find?_filter]
      refine find?_finRange_eq_some ?_ fun k passes => ?_
      · simp [(isTest i).mpr own, unstamped]
      · simp only [decide_eq_true_eq, Option.isNone_iff_eq_none] at passes
        exact lowest k ((isTest k).mp passes.1) passes.2
    rw [leastRecent, found]
  · have stamped : ((allStations.filter test).find? fun j => (stamp j).isNone) = none := by
      refine List.find?_eq_none.mpr fun j mem => ?_
      obtain ⟨m, isM, _⟩ := least j ((isTest j).mp (List.mem_filter.mp mem).2)
      simp [isM]
    rw [leastRecent_of_stamped stamped]
    refine earlier_foldl_found ((List.pairwise_lt_finRange _).filter _)
      (List.mem_filter.mpr ⟨List.mem_finRange i, (isTest i).mpr own⟩) nofun fun j mem => ?_
    obtain ⟨m, isM, before⟩ := least j ((isTest j).mp (List.mem_filter.mp mem).2)
    simpa [isN, isM] using before

theorem leastRecent_of_none {stamp : StationId → Option (BitVec 64)} {may : StationId → Prop}
    {test : StationId → Bool} (isTest : ∀ j, test j = true ↔ may j) (absent : ∀ j, ¬ may j) :
    leastRecent stamp (allStations.filter test) = none := by
  have empty : allStations.filter test = [] :=
    List.filter_eq_nil_iff.mpr fun j _ passes => absent j ((isTest j).mp passes)
  rw [empty]
  rfl

/-- A station that may be served is granted or another one goes first. -/
theorem leastRecent_isSome {stamp : StationId → Option (BitVec 64)} {l : List StationId} (nonempty : l ≠ []) :
    (leastRecent stamp l).isSome = true := by
  cases found : l.find? fun i => (stamp i).isNone with
  | some i => rw [leastRecent, found]; rfl
  | none =>
    rw [leastRecent_of_stamped found]
    have kept : ∀ (l : List StationId) (i : StationId), (l.foldl (earlier stamp) (some i)).isSome = true := by
      intro l
      induction l with
      | nil => exact fun _ => rfl
      | cons j l ih =>
        intro i
        rw [List.foldl_cons, earlier]
        split
        · exact ih j
        · exact ih i
    cases l with
    | nil => exact absurd rfl nonempty
    | cons i l => exact kept l i

/-! ## Grants (R39, R40, R43) -/

theorem State.boundTo_iff (s : State) (l : LinkId) (i : StationId) :
    s.boundTo l i = true ↔ ∃ bd, (s.station i).binding = some bd ∧ bd.link = l := by
  unfold State.boundTo
  cases (s.station i).binding <;> simp

theorem State.served_iff (s : State) (l : LinkId) (i : StationId) : s.served l i = true ↔
    (s.station i).enabled = true ∧ ∃ bd, (s.station i).binding = some bd ∧ bd.link = l := by
  rw [State.served, Bool.and_eq_true, State.boundTo_iff]

theorem Tracker.oldestOpen_isSome (t : Tracker) : t.oldestOpen.isSome = true ↔ ∃ g ∈ t.gaps, g.request = none := by
  simp [Tracker.oldestOpen]

theorem LinkState.sends_iff (x : LinkState) : x.sends = true ↔ x = .up ∨ x = .silent := by
  cases x <;> simp [LinkState.sends]

theorem LinkState.sends_eq_false_iff (x : LinkState) : x.sends = false ↔ x = .off ∨ x = .down := by
  cases x <;> simp [LinkState.sends]

theorem Link.canSend_iff (x : Link) : x.canSend = true ↔ (x.state = .up ∨ x.state = .silent) ∧ x.outbound = none := by
  rw [Link.canSend, Bool.and_eq_true, LinkState.sends_iff, Option.isNone_iff_eq_none]

/-- A link on which nothing may be sent. -/
theorem Link.canSend_eq_false {x : Link} (h : x.state = .off ∨ x.state = .down ∨ x.outbound ≠ none) :
    x.canSend = false := by
  refine Bool.eq_false_iff.mpr fun can => ?_
  obtain ⟨sends, free⟩ := (Link.canSend_iff x).mp can
  rcases h with is | is | busy
  · rw [is] at sends; simp at sends
  · rw [is] at sends; simp at sends
  · exact busy free

section Grants

variable {s : State} {l : LinkId}

/-- A station that is due a probe on link l (R43). -/
def State.probeDueOn (s : State) (l : LinkId) (j : StationId) : Prop :=
  (s.station j).enabled = true ∧ (∃ bd, (s.station j).binding = some bd ∧ bd.link = l) ∧ (s.station j).mark.due = true

/-- A station whose gap may be requested on link l (R40). -/
def State.mayBackfill (s : State) (l : LinkId) (j : StationId) : Prop :=
  (s.station j).enabled = true ∧ (∃ bd, (s.station j).binding = some bd ∧ bd.link = l) ∧
    (s.station j).config.backfill = true ∧ ∃ g ∈ (s.station j).tracker.gaps, g.request = none

theorem State.probeDueOn_iff (j : StationId) :
    (s.served l j && (s.station j).mark.due) = true ↔ s.probeDueOn l j := by
  rw [Bool.and_eq_true, State.served_iff, and_assoc]
  exact Iff.rfl

theorem State.mayBackfill_iff (j : StationId) :
    (s.served l j && (s.station j).config.backfill && (s.station j).tracker.oldestOpen.isSome) = true ↔
      s.mayBackfill l j := by
  rw [Bool.and_eq_true, Bool.and_eq_true, State.served_iff, Tracker.oldestOpen_isSome, and_assoc, and_assoc]
  exact Iff.rfl

theorem State.probeCandidate_of_first {i : StationId} (can : (s.link l).canSend = true) (empty : (s.link l).probe = none)
    (first : servedFirst (fun j => (s.station j).probeStamp) (s.probeDueOn l) i) : s.probeCandidate l = some i := by
  rw [State.probeCandidate, can, empty]
  exact leastRecent_of_servedFirst State.probeDueOn_iff first

theorem State.probeCandidate_none (h : (s.link l).canSend = false ∨ (s.link l).probe ≠ none ∨ ∀ j, ¬ s.probeDueOn l j) :
    s.probeCandidate l = none := by
  unfold State.probeCandidate
  split
  · next open_ =>
    obtain ⟨can, empty⟩ := (Bool.and_eq_true _ _).mp open_
    rcases h with cannot | busy | absent
    · rw [cannot] at can; cases can
    · exact absurd (Option.isNone_iff_eq_none.mp empty) busy
    · exact leastRecent_of_none State.probeDueOn_iff absent
  · rfl

theorem State.probeCandidate_isSome {j : StationId} (can : (s.link l).canSend = true) (empty : (s.link l).probe = none)
    (due : s.probeDueOn l j) : (s.probeCandidate l).isSome = true := by
  rw [State.probeCandidate, can, empty]
  exact leastRecent_isSome (List.ne_nil_of_mem
    (List.mem_filter.mpr ⟨List.mem_finRange j, (State.probeDueOn_iff j).mpr due⟩))

theorem State.backfillCandidate_of_first {i : StationId} (can : (s.link l).canSend = true)
    (empty : (s.link l).backfill = none) (noProbe : ¬ ((s.link l).probe = none ∧ ∃ j, s.probeDueOn l j))
    (first : servedFirst (fun j => (s.station j).backfillStamp) (s.mayBackfill l) i) :
    s.backfillCandidate l = some i := by
  have free : s.probeCandidate l = none := by
    by_cases probe : (s.link l).probe = none
    · exact State.probeCandidate_none (.inr (.inr fun j due => noProbe ⟨probe, j, due⟩))
    · exact State.probeCandidate_none (.inr (.inl probe))
  rw [State.backfillCandidate, can, empty, free]
  exact leastRecent_of_servedFirst State.mayBackfill_iff first

theorem State.backfillCandidate_none (h : (s.link l).canSend = false ∨ (s.link l).backfill ≠ none ∨
    ((s.link l).probe = none ∧ ∃ j, s.probeDueOn l j) ∨ ∀ j, ¬ s.mayBackfill l j) : s.backfillCandidate l = none := by
  unfold State.backfillCandidate
  split
  · next open_ =>
    simp only [Bool.and_eq_true, Option.isNone_iff_eq_none] at open_
    obtain ⟨⟨can, empty⟩, noProbe⟩ := open_
    rcases h with cannot | busy | ⟨probe, j, due⟩ | absent
    · rw [cannot] at can; cases can
    · exact absurd empty busy
    · have granted := State.probeCandidate_isSome can probe due
      rw [noProbe] at granted
      cases granted
    · exact leastRecent_of_none State.mayBackfill_iff absent
  · rfl

end Grants

theorem Station.address_of_bound {x : Station} {bd : Binding} (bound : x.binding = some bd) : x.address = bd.address := by
  rw [Station.address, bound]

theorem find?_open_gap {before after : List Gap} {g : Gap} (taken : ∀ h ∈ before, h.request ≠ none)
    (isOpen : g.request = none) : (before ++ g :: after).find? (fun h => h.request.isNone) = some g := by
  rw [List.find?_append, List.find?_eq_none.mpr fun h mem => by simpa using taken h mem]
  simp [isOpen]

/-- The first OPEN gap of a list is the one requested (R83). -/
theorem requestOldest_eq {before after : List Gap} {g : Gap} (identifier : Byte) (taken : ∀ h ∈ before, h.request ≠ none)
    (isOpen : g.request = none) : requestOldest identifier (before ++ g :: after) =
      before ++ { g with request := some identifier } :: after := by
  induction before with
  | nil => exact if_pos (by rw [isOpen]; rfl)
  | cons h before ih =>
    have other : ¬ h.request.isNone = true := by simpa using taken h (by simp)
    rw [List.cons_append, requestOldest, if_neg other, ih fun k mem => taken k (by simp [mem])]
    rfl

/-- Settles O34. -/
theorem backfillIsGrantedInTurn : Obligations.BackfillIsGrantedInTurn := by
  intro dt l s running x may probing
  refine ⟨fun idle => ?_, fun i bd before after g sends free empty noProbe first bound gaps taken isOpen => ?_⟩
  · refine State.event_of_eq (body := (State.tryBackfill · l)) running ?_
    have nobody : (s.advance dt).backfillCandidate l = none := by
      refine State.backfillCandidate_none ?_
      rcases idle with is | is | is | is | is | is
      · exact .inl (Link.canSend_eq_false (.inl is))
      · exact .inl (Link.canSend_eq_false (.inr (.inl is)))
      · exact .inl (Link.canSend_eq_false (.inr (.inr is)))
      · exact .inr (.inl is)
      · exact .inr (.inr (.inl is))
      · exact .inr (.inr (.inr is))
    simp only [State.tryBackfill, nobody]
  · refine State.event_of_eq (body := (State.tryBackfill · l)) running ?_
    have granted : (s.advance dt).backfillCandidate l = some i :=
      State.backfillCandidate_of_first ((Link.canSend_iff _).mpr ⟨sends, free⟩) empty noProbe first
    have oldest : ((s.advance dt).station i).tracker.oldestOpen = some g := by
      rw [Tracker.oldestOpen, State.advance_station, gaps]
      exact find?_open_gap taken isOpen
    simp only [State.tryBackfill, granted, oldest]
    unfold State.grantBackfill
    simp only [State.modLink_eq, State.modStation_eq, State.setLink_station, State.advance_station, State.advance_link,
      Station.address_of_bound bound, gaps, requestOldest_eq _ taken isOpen]
    rfl

theorem MarkUnit.sent_eq (interval now : Nat) (m : MarkUnit) : m.sent interval now = { m with
    due := false, requested := false, lastSent := some now, schedule := m.schedule.map fun _ => now + interval * 1000 } := by
  unfold MarkUnit.sent
  cases m.schedule <;> rfl

/-- Settles O35. -/
theorem probesAreGrantedAndExpire : Obligations.ProbesAreGrantedAndExpire := by
  intro dt l s running x now may
  refine ⟨?_, fun idle => ?_, fun i bd sends free empty first bound => ?_, fun pr probe => ?_⟩
  · exact State.event_of_eq (body := fun s => s.modLink l fun x => { x with outbound := none }) running rfl
  · refine State.event_of_eq (body := (State.tryProbe · l)) running ?_
    have nobody : (s.advance dt).probeCandidate l = none := by
      refine State.probeCandidate_none ?_
      rcases idle with is | is | is | is | is
      · exact .inl (Link.canSend_eq_false (.inl is))
      · exact .inl (Link.canSend_eq_false (.inr (.inl is)))
      · exact .inl (Link.canSend_eq_false (.inr (.inr is)))
      · exact .inr (.inl is)
      · exact .inr (.inr is)
    simp only [State.tryProbe, nobody]
  · refine State.event_of_eq (body := (State.tryProbe · l)) running ?_
    have granted : (s.advance dt).probeCandidate l = some i :=
      State.probeCandidate_of_first ((Link.canSend_iff _).mpr ⟨sends, free⟩) empty first
    simp only [State.tryProbe, granted]
    unfold State.grantProbe
    simp only [State.modLink_eq, State.modStation_eq, State.setLink_station, State.advance_station, State.advance_link,
      Station.address_of_bound bound, MarkUnit.sent_eq]
    rfl
  have probe : (s.link l).probe = some pr := probe
  refine ⟨fun early => ?_, fun due => ?_⟩
  · refine State.event_of_eq (body := (State.probeExpires · l)) running ?_
    have notDue : ¬ (s.advance dt).isDue (some pr.expiry) = true := by simpa [State.isDue] using early
    simp only [State.probeExpires, State.advance_link, probe, if_neg notDue]
  · refine State.event_of_eq (body := (State.probeExpires · l)) running ?_
    have isDue : (s.advance dt).isDue (some pr.expiry) = true := by simpa [State.isDue] using due
    have still : (((s.advance dt).countLink l fun c => { c with probeExpiries := bump c.probeExpiries }).link l).probe =
        some pr := by rw [State.countLink, State.modLink_self]; exact probe
    simp only [State.probeExpires, State.advance_link, probe, if_pos isDue]
    unfold State.abandonProbe
    rw [still]
    simp only [State.probeEnded, State.modLink_eq, State.countLink_eq, State.setLink_self, State.setLink_setLink,
      State.advance_link]
    rfl

end Sys2Proof.Machine
end

section
/-! PROOF. Entries at the head of an inbound queue (R37): discarded entries, the endings of backfill requests (O36),
RESTART (O43), LINK_UP and LINK_DOWN (O44) and ECHO entries (O47). -/

namespace Sys2Proof.Machine

/-! ## The head of a queue (R37) -/

section Head

variable {s : State} {l : LinkId} {e : Entry} {rest : List Entry}

theorem State.head?_of_open (isOpen : (s.link l).blocked = false) (queue : (s.link l).queue = e :: rest) :
    s.head? l = some e := by
  rw [State.head?, isOpen, queue]
  rfl

theorem State.popHead_eq (queue : (s.link l).queue = e :: rest) :
    s.popHead l = s.modLink l fun x => { x with queue := rest } := by
  unfold State.popHead
  simp only [State.modLink_eq, queue, List.tail_cons]

/-- An entry of a disabled station is discarded and counted (R37). -/
theorem State.ifEnabled_disabled {i : StationId} (disabled : (s.station i).enabled = false)
    (queue : (s.link l).queue = e :: rest) (f : State → State) : s.ifEnabled l i f = s.modLink l fun x => { x with
      queue := rest, counters := { x.counters with disabledEntries := bump x.counters.disabledEntries } } := by
  rw [State.ifEnabled, if_neg (by rw [disabled]; exact nofun), State.popHead_eq queue, State.countDisabled,
    State.countLink, State.modLink_modLink]

theorem State.ifEnabled_enabled {i : StationId} (enabled : (s.station i).enabled = true) (f : State → State) :
    s.ifEnabled l i f = f s := if_pos enabled

end Head

/-! ## The ending of a backfill request (R41, R42, R81) -/

theorem bumpBy_zero (n : Nat) : bumpBy n 0 = n := if_pos rfl

/-- What an ending makes of one gap; none is abandoned (R81). -/
def Gap.answered (limit : Nat) (identifier : Byte) (e : Ending) (g : Gap) : Option Gap :=
  if g.request = some identifier then g.ended limit e else some g

/-- A station with a request of its gaps ended (R81). -/
def Station.requestEnded (identifier : Byte) (e : Ending) (x : Station) : Station :=
  { x with
    tracker := { x.tracker with gaps := x.tracker.gaps.filterMap (Gap.answered x.config.attempts identifier e) }
    counters := { x.counters with
      gapsAbandoned := bumpBy x.counters.gapsAbandoned
        (x.tracker.gaps.countP fun g => (Gap.answered x.config.attempts identifier e g).isNone) } }

theorem State.endRequest_eq (s : State) (i : StationId) (identifier : Byte) (e : Ending) :
    s.endRequest i identifier e = (s.setStation i ((s.station i).requestEnded identifier e)).raiseIf
      (decide (0 < (s.station i).tracker.gaps.countP fun g =>
        (Gap.answered (s.station i).config.attempts identifier e g).isNone)) .gap := by
  unfold State.endRequest
  dsimp only
  rw [State.countAbandoned, Bool.true_and, State.modTracker_eq, State.count_eq, State.setStation_self,
    State.setStation_setStation]
  rfl

theorem State.endBackfill_eq {s : State} {l : LinkId} {b : BackfillSlot} (flight : (s.link l).backfill = some b)
    (e : Ending) : s.endBackfill l e =
      (s.setLink l { s.link l with backfill := none }).endRequest b.station b.identifier e := by
  simp only [State.endBackfill, flight]
  rfl

/-- What an ending that counts an attempt makes of a gap, in the terms of the statements (R81). -/
theorem Gap.answered_eq (limit : Nat) (identifier : Byte) {e : Ending} {believed : Bool} (g : Gap)
    (isEnding : (believed = true ∧ e = .partly) ∨ (believed = false ∧ (e = .complete ∨ e = .refused ∨ e = .timeout))) :
    Gap.answered limit identifier e g =
      if g.request ≠ some identifier then some g
      else if believed = true ∧ g.damaged = false then none
      else if limit ≤ g.attempts + 1 then none
      else some { g with attempts := g.attempts + 1, request := none, damaged := false } := by
  unfold Gap.answered
  by_cases own : g.request = some identifier
  · rw [if_pos own, if_neg (not_not_intro own)]
    rcases isEnding with ⟨rfl, rfl⟩ | ⟨rfl, rfl | rfl | rfl⟩
    · cases damaged : g.damaged <;> simp [Gap.ended, Gap.reopen, damaged]
    · rw [if_neg (fun h => nomatch h.1)]; rfl
    · rw [if_neg (fun h => nomatch h.1)]; rfl
    · rw [if_neg (fun h => nomatch h.1)]; rfl
  · rw [if_neg own, if_pos own]

/-- Settles O36. -/
theorem backfillRequestsEnd : Obligations.BackfillRequestsEnd := by
  refine ⟨fun dt l i identifier st rest s running empty isOpen queue enabled => ?_, fun dt l b s running flight => ?_⟩
  · refine State.event_of_eq (body := (State.headFillEnd · l)) running ?_
    have free : (((s.advance dt).modLink l fun x => { x with queue := rest }).link l).backfill = none := by
      rw [State.modLink_self]; exact empty
    simp only [State.headFillEnd, State.head?_of_open (s := s.advance dt) isOpen queue]
    rw [State.ifEnabled_enabled (s := s.advance dt) enabled, State.popHead_eq (s := s.advance dt) queue]
    simp only [State.fillEnds, free, State.countLink, State.modLink_modLink]
  intro x y again kept told emptied
  have flight : (s.link l).backfill = some b := flight
  -- the ending of the request on a link changed in other fields
  have ends {e : Ending} {believed : Bool} (z : Link) (isEnding : (believed = true ∧ e = .partly) ∨
      (believed = false ∧ (e = .complete ∨ e = .refused ∨ e = .timeout))) (still : z.backfill = some b) :
      (((s.advance dt).setLink l z).endBackfill l e).evalCompletion =
        told believed ((s.advance dt).setLink l { z with backfill := none }) := by
    have isKept : Gap.answered y.config.attempts b.identifier e = kept believed :=
      funext fun g => Gap.answered_eq _ _ g isEnding
    rw [State.endBackfill_eq (by rw [State.setLink_self]; exact still), State.setLink_self, State.setLink_setLink,
      State.endRequest_eq, State.setLink_station, State.advance_station]
    show State.evalCompletion (State.raiseIf (State.setStation _ _ (y.requestEnded b.identifier e)) (decide
      (0 < y.tracker.gaps.countP fun g => (Gap.answered y.config.attempts b.identifier e g).isNone)) .gap) = _
    rw [Station.requestEnded, isKept]
  refine ⟨fun due => ?_, fun early => ?_, fun i identifier st rest isOpen queue => ⟨fun enabled own station => ?_,
    fun enabled other => ?_, fun disabled => ?_⟩⟩
  · refine State.event_of_eq (body := (State.responseTimesOut · l)) running ?_
    have isDue : (s.advance dt).isDue (some b.due) = true := decide_eq_true due
    have out : (s.advance dt).responseTimesOut l = (((s.advance dt).countLink l fun c =>
        { c with responseTimeouts := bump c.responseTimeouts }).endBackfill l .timeout).evalCompletion := by
      simp only [State.responseTimesOut, State.advance_link, flight, if_pos isDue]
    rw [out]
    exact ends { x with counters := { x.counters with responseTimeouts := bump x.counters.responseTimeouts } }
      (.inr ⟨rfl, .inr (.inr rfl)⟩) flight
  · refine State.event_of_eq (body := (State.responseTimesOut · l)) running ?_
    have notDue : ¬ (s.advance dt).isDue (some b.due) = true := by simpa [State.isDue] using early
    simp only [State.responseTimesOut, State.advance_link, flight, if_neg notDue]
  · refine State.event_of_eq (body := (State.headFillEnd · l)) running ?_
    have busy : (((s.advance dt).modLink l fun x => { x with queue := rest }).link l).backfill = some b := by
      rw [State.modLink_self]; exact flight
    have matched : b.matched i identifier = true := by simp [BackfillSlot.matched, own, station]
    simp only [State.headFillEnd, State.head?_of_open (s := s.advance dt) isOpen queue]
    rw [State.ifEnabled_enabled (s := s.advance dt) enabled, State.popHead_eq (s := s.advance dt) queue]
    simp only [State.fillEnds, busy, if_pos matched]
    refine ends { x with queue := rest } ?_ flight
    cases st <;> simp [FillStatus.ending]
  · refine State.event_of_eq (body := (State.headFillEnd · l)) running ?_
    have busy : (((s.advance dt).modLink l fun x => { x with queue := rest }).link l).backfill = some b := by
      rw [State.modLink_self]; exact flight
    have matched : ¬ b.matched i identifier = true := by
      rw [BackfillSlot.matched, Bool.and_eq_true, decide_eq_true_eq, decide_eq_true_eq]
      exact fun ⟨same, station⟩ => other.elim (fun h => h same.symm) fun h => h station.symm
    simp only [State.headFillEnd, State.head?_of_open (s := s.advance dt) isOpen queue]
    rw [State.ifEnabled_enabled (s := s.advance dt) enabled, State.popHead_eq (s := s.advance dt) queue]
    simp only [State.fillEnds, busy, if_neg matched, State.countLink, State.modLink_modLink]
    rfl
  · refine State.event_of_eq (body := (State.headFillEnd · l)) running ?_
    simp only [State.headFillEnd, State.head?_of_open (s := s.advance dt) isOpen queue]
    exact State.ifEnabled_disabled (s := s.advance dt) disabled queue _

/-! ## RESTART (R86) -/

/-- The slots left when each of a list of slots is freed (R170). -/
theorem State.freeSlots_eq (ks : List Nat) (s : State) : s.freeSlots ks =
    s.modStore fun t => { t with slots := t.slots.filter fun x => ks.all fun k => decide (k ≠ x.number) } := by
  induction ks generalizing s with
  | nil =>
    have all : s.store.slots.filter (fun _ => true) = s.store.slots := List.filter_true _
    simp [State.freeSlots, State.modStore]
  | cons k ks ih =>
    have both (x : Slot) : ((ks.all fun k => decide (k ≠ x.number)) && decide (x.number ≠ k)) =
        ((k :: ks).all fun k => decide (k ≠ x.number)) := by
      rw [List.all_cons, Bool.and_comm, decide_eq_decide.mpr (ne_comm (a := x.number))]
    have step : s.freeSlots (k :: ks) = (s.freeSlot k).freeSlots ks := rfl
    rw [step, ih]
    simp only [State.freeSlot, State.modStore, List.filter_filter, both]

theorem State.raiseIf_removeExpected (s : State) (b : Bool) (k : NoticeKind) (out : StationSet) :
    (s.raiseIf b k).removeExpected out = (s.removeExpected out).raiseIf b k := by
  cases b <;> rfl

theorem State.raiseIf_invalidateReservation (s : State) (b : Bool) (k : NoticeKind) (i : StationId) :
    (s.raiseIf b k).invalidateReservation i = (s.invalidateReservation i).raiseIf b k := by
  rw [State.invalidateReservation_eq, State.invalidateReservation_eq]
  cases b <;> rfl

/-- Stations are taken out of the FORMING epochs' expected sets (R156). -/
theorem State.removeExpected_eq (s : State) (out : StationSet) : s.removeExpected out = s.modAssembler fun a =>
    { a with table := a.table.map fun e =>
        if e.state = .forming then { e with expected := e.expected &&& ~~~out } else e } := by
  have each (e : Epoch) : (if e.isClosed then e else { e with expected := e.expected &&& ~~~out }) =
      if e.state = .forming then { e with expected := e.expected &&& ~~~out } else e := by
    cases closed : e.isClosed with
    | true => rw [if_pos rfl, if_neg ((Epoch.isClosed_iff e).mp closed)]
    | false => rw [if_neg nofun, if_pos ((Epoch.isClosed_eq_false_iff e).mp closed)]
  unfold State.removeExpected
  simp only [each]

/-- Tracking returned to "before the first record" (R52, R86). -/
theorem State.clearTracking_eq (s : State) (i : StationId) : s.clearTracking i =
    (s.freeSlots ((s.station i).tracker.hold.map Held.slot)).setStation i (s.station i).cleared := by
  unfold State.clearTracking
  dsimp only
  rw [State.countAbandoned, Bool.false_and, State.raiseIf, if_neg nofun, State.count_eq, State.modTracker_eq,
    State.setStation_self, State.setStation_setStation, State.freeSlots_station]
  rfl

/-- A station's clock returned to UNSET (R124). -/
theorem State.unsetClock_eq (s : State) (i : StationId) : s.unsetClock i =
    (s.setStation i { s.station i with clock := Clock.initial }).raiseIf
      (decide ((s.station i).clock.state ≠ .unset)) .station := by
  rw [State.unsetClock, State.putClock, decide_eq_decide.mpr (ne_comm (b := (s.station i).clock.state))]
  rfl

/-- A station as a RESTART entry leaves it (R86). -/
def Station.restarted (x : Station) : Station := { x.cleared with expectation := none, clock := Clock.initial }

theorem State.restartStation_eq (s : State) (i : StationId) : s.restartStation i =
    (((((s.freeSlots ((s.station i).tracker.hold.map Held.slot)).setStation i (s.station i).restarted).removeExpected
      (stationBit i)).invalidateReservation i).raiseIf (decide ((s.station i).clock.state ≠ .unset)) .station).evalCompletion := by
  unfold State.restartStation
  dsimp only
  rw [State.clearTracking_eq, State.invalidateExpectation, State.modStation_eq, State.setStation_self,
    State.setStation_setStation, State.unsetClock_eq, State.setStation_self, State.setStation_setStation,
    State.raiseIf_removeExpected, State.raiseIf_invalidateReservation]
  rfl

/-- Settles O43. -/
theorem restartClearsTheStation : Obligations.RestartClearsTheStation := by
  intro dt l i rest s running isOpen queue x cleared
  refine ⟨fun enabled => ?_, fun disabled => ?_⟩
  · refine State.event_of_eq (body := (State.headRestart · l)) running ?_
    simp only [State.headRestart, State.head?_of_open (s := s.advance dt) isOpen queue]
    rw [State.ifEnabled_enabled (s := s.advance dt) enabled, State.popHead_eq (s := s.advance dt) queue,
      State.restartStation_eq, State.freeSlots_eq, State.removeExpected_eq, State.invalidateReservation_eq]
    simp only [List.all_map, State.modLink_station, State.advance_station]
    rfl
  · refine State.event_of_eq (body := (State.headRestart · l)) running ?_
    simp only [State.headRestart, State.head?_of_open (s := s.advance dt) isOpen queue]
    exact State.ifEnabled_disabled (s := s.advance dt) disabled queue _

@[simp] theorem State.endEvent_slots (s : State) : s.endEvent.store.slots = s.store.slots := rfl

/-! ## LINK_UP and LINK_DOWN (R72, R156) -/

/-- The set of the stations that satisfy a test holds exactly those (R155). -/
theorem inSet_setOf (f : StationId → Bool) (i : StationId) : inSet (setOf f) i = f i := by
  have folded : ∀ (l : List StationId) (x : StationSet),
      inSet (l.foldl (fun x i => if f i then x ||| stationBit i else x) x) i = (inSet x i || (decide (i ∈ l) && f i)) := by
    intro l
    induction l with
    | nil => simp
    | cons j l ih =>
      intro x
      have one : inSet (if f j then x ||| stationBit j else x) i = (inSet x i || (decide (j = i) && f j)) := by
        split
        · next passes => rw [inSet, BitVec.getLsbD_or, stationBit_getLsbD, passes, Bool.and_true]; rfl
        · next fails => rw [Bool.eq_false_iff.mpr fails, Bool.and_false, Bool.or_false]
      rw [List.foldl_cons, ih, one]
      by_cases here : i = j
      · subst here
        cases f i <;> simp
      · simp [here, Ne.symm here]
  rw [setOf, folded]
  simp [inSet, allStations]

theorem State.refreshHold_frame (l : LinkId) (s : State) (j : StationId) :
    (s.refreshHold l j).links = s.links ∧ (s.refreshHold l j).timebase = s.timebase ∧
    (s.refreshHold l j).assembler = s.assembler ∧ (s.refreshHold l j).store = s.store ∧
    (s.refreshHold l j).reservations = s.reservations := by
  unfold State.refreshHold
  split <;> exact ⟨rfl, rfl, rfl, rfl, rfl⟩

/-- A station whose hold timer is started again (R72). -/
def Station.held (now : Nat) (x : Station) : Station :=
  { x with tracker := { x.tracker with holdDue := some (now + x.config.holdTime * 1000) } }

theorem State.refreshHold_station (l : LinkId) (s : State) (j i : StationId) : (State.refreshHold l s j).station i =
    if j = i ∧ s.served l i = true ∧ (s.station i).tracker.hold ≠ [] then (s.station i).held s.partTime
    else s.station i := by
  unfold State.refreshHold
  by_cases here : j = i
  · subst here
    by_cases holds : s.served l j = true ∧ (s.station j).tracker.hold ≠ []
    · rw [if_pos holds, if_pos ⟨rfl, holds⟩, State.startHold, State.modStation_self]
      rfl
    · rw [if_neg holds, if_neg fun h => holds h.2]
  · refine Eq.trans ?_ (if_neg fun h => here h.1).symm
    split
    · exact State.modStation_ne _ _ here
    · rfl

/-- The hold timers of a list of stations started again (R72). -/
theorem refreshHold_foldl (l : LinkId) (is : List StationId) : ∀ (s : State), is.Nodup →
    let t := is.foldl (State.refreshHold l) s
    (t.links = s.links ∧ t.timebase = s.timebase ∧ t.assembler = s.assembler ∧ t.store = s.store ∧
      t.reservations = s.reservations) ∧
    ∀ i, t.station i = if i ∈ is ∧ s.served l i = true ∧ (s.station i).tracker.hold ≠ [] then
      (s.station i).held s.partTime else s.station i := by
  induction is with
  | nil => exact fun s _ => ⟨⟨rfl, rfl, rfl, rfl, rfl⟩, fun i => by simp⟩
  | cons j is ih =>
    intro s distinct
    obtain ⟨apart, rest⟩ := List.nodup_cons.mp distinct
    obtain ⟨⟨links, timebase, assembler, store, reservations⟩, stations⟩ := ih (State.refreshHold l s j) rest
    obtain ⟨links', timebase', assembler', store', reservations'⟩ := State.refreshHold_frame l s j
    refine ⟨⟨links.trans links', timebase.trans timebase', assembler.trans assembler', store.trans store',
      reservations.trans reservations'⟩, fun i => (stations i).trans ?_⟩
    have now : (State.refreshHold l s j).partTime = s.partTime := by rw [State.partTime, timebase']; rfl
    by_cases here : j = i
    · subst here
      rw [if_neg fun h => apart h.1, State.refreshHold_station]
      simp
    · have same : (State.refreshHold l s j).station i = s.station i := by
        rw [State.refreshHold_station, if_neg fun h => here h.1]
      have served : (State.refreshHold l s j).served l i = s.served l i := by
        simp only [State.served, State.boundTo, same]
      rw [same, served, now]
      simp [Ne.symm here]

/-- Settles O44. -/
theorem linkEntriesReachTheirStations : Obligations.LinkEntriesReachTheirStations := by
  intro dt l rest s running isOpen
  refine ⟨fun queue => ?_, fun cause queue => ⟨setOf (s.boundTo l), inSet_setOf _, ?_⟩⟩
  · have isBody : State.headLinkUp (s.advance dt) l = allStations.foldl (State.refreshHold l)
        ((s.advance dt).modLink l fun x => { x with queue := rest }) := by
      simp only [State.headLinkUp, State.head?_of_open (s := s.advance dt) isOpen queue]
      rw [State.popHead_eq (s := s.advance dt) queue]
    obtain ⟨⟨links, timebase, assembler, store, reservations⟩, stations⟩ := refreshHold_foldl l allStations
      ((s.advance dt).modLink l fun x => { x with queue := rest }) (List.nodup_finRange _)
    refine ⟨_, State.event_of_eq (body := (State.headLinkUp · l)) running isBody, ?_⟩
    generalize allStations.foldl (State.refreshHold l) ((s.advance dt).modLink l fun x => { x with queue := rest }) = t at *
    refine ⟨fun i => ?_, ?_, fun k other => ?_, timebase, assembler,
      (State.endEvent_slots t).trans (congrArg Store.slots store), reservations⟩
    · have holds : (i ∈ allStations ∧ ((s.advance dt).modLink l fun x => { x with queue := rest }).served l i = true ∧
          (((s.advance dt).modLink l fun x => { x with queue := rest }).station i).tracker.hold ≠ []) ↔
          ((s.station i).enabled && (s.boundTo l i) && !(s.station i).tracker.hold.isEmpty) = true := by
        simp only [allStations, List.mem_finRange, true_and, State.served, State.boundTo, State.modLink_station,
          State.advance_station, Bool.and_eq_true, Bool.not_eq_true', List.isEmpty_eq_false_iff]
      refine (State.endEvent_station t i).trans ((stations i).trans ?_)
      exact if_congr holds rfl rfl
    · rw [State.endEvent_link, State.link, links]
      exact State.modLink_self (s.advance dt) l _
    · rw [State.endEvent_link, State.link, links]
      exact State.modLink_ne (s.advance dt) _ (Ne.symm other)
  · refine State.event_of_eq (body := (State.headLinkDown · l)) running ?_
    simp only [State.headLinkDown, State.head?_of_open (s := s.advance dt) isOpen queue]
    rw [State.popHead_eq (s := s.advance dt) queue, State.removeExpected_eq]
    rfl

/-! ## ECHO (R98 to R102) -/

/-- Settles O47. -/
theorem echoesAreJudged : Obligations.EchoesAreJudged := by
  intro dt l i kr tau ts ta requested rest s running isOpen queue x popped rtt referenced kept
  have head := State.head?_of_open (s := s.advance dt) isOpen queue
  -- an entry of an enabled station is judged
  have judged {u : State} (enabled : x.enabled = true) (h : popped.judgeEcho i kr tau ts ta = u) :
      exec (.headEcho dt l) s = .next u.endEvent := by
    refine State.event_of_eq (body := (State.headEcho · l)) running ?_
    simp only [State.headEcho, head]
    rw [State.ifEnabled_enabled (s := s.advance dt) enabled, State.popHead_eq (s := s.advance dt) queue]
    exact h
  have isX : popped.station i = x := State.modLink_station _ _ _ i
  have isReferenced (h : referenced) : ¬ (ts.hub ≠ .referenced ∨ ta.hub ≠ .referenced) :=
    fun other => other.elim (fun k => k h.1) fun k => k h.2
  refine ⟨fun disabled => ?_, fun enabled other => judged enabled ?_, fun enabled both negative => judged enabled ?_,
    fun enabled both low slow => judged enabled ?_, fun enabled both low fast => ⟨fun source => judged enabled ?_,
    fun bd source bound => judged enabled ?_⟩⟩
  · refine State.event_of_eq (body := (State.headEcho · l)) running ?_
    simp only [State.headEcho, head]
    exact State.ifEnabled_disabled (s := s.advance dt) disabled queue _
  · rw [State.judgeEcho, if_pos (by by_contra h; exact other ⟨of_not_not fun k => h (.inl k), of_not_not fun k => h (.inr k)⟩),
      State.count_eq, isX]
  · rw [State.judgeEcho, if_neg (isReferenced both), if_pos negative, State.count_eq, isX]
  · rw [State.judgeEcho, if_neg (isReferenced both), if_neg (not_lt.mpr low), isX, if_pos slow, State.setRtt,
      State.modStation_eq, State.count_eq, State.setStation_self, State.setStation_setStation, isX]
  · rw [State.judgeEcho, if_neg (isReferenced both), if_neg (not_lt.mpr low), isX, if_neg (not_lt.mpr fast), source,
      State.setRtt, State.modStation_eq, isX]
  · have asymmetry : popped.asymmetryOf i = (s.link bd.link).asymmetry := by
      rw [State.asymmetryOf, isX, bound]
      show (popped.link bd.link).asymmetry = _
      rw [State.link_modLink]
      split
      · next same => subst same; rfl
      · rfl
    rw [State.judgeEcho, if_neg (isReferenced both), if_neg (not_lt.mpr low), isX, if_neg (not_lt.mpr fast), source,
      State.setRtt, State.modStation_eq, isX, asymmetry, Int.fdiv_eq_ediv_of_nonneg _ (by decide)]

end Sys2Proof.Machine
end

section
/-! PROOF. Mark points taken by a clock (R107 to R117): O46. -/

namespace Sys2Proof.Machine

/-! ## The case of a mark point (R107) -/

section Take

variable {cfg : StationConfig} {now period : Nat} {km : Counter40} {tm : Int} {c : Clock} {a : Anchor}

theorem Clock.usable_of_set (set : c.state ≠ .unset) : c.usable = c.anchor := by
  unfold Clock.usable
  cases state : c.state with
  | unset => exact absurd state set
  | acquiring => rfl
  | locked => rfl
  | holdover => rfl
  | free => rfl

/-- A first mark point anchors the clock (R108). -/
theorem Clock.take_unset (unset : c.state = .unset) : c.take cfg now period km tm =
    { MarkEffect.only (c.firstAnchor cfg now km tm) with reanchored := true } := by
  have unusable : c.usable = none := by simp only [Clock.usable, unset]
  simp only [Clock.take, unusable]

/-- A mark point at or below the anchor is stale (R109). -/
theorem Clock.take_stale (set : c.state ≠ .unset) (anchor : c.anchor = some a) (behind : counterDiff km a.k0 ≤ 0) :
    c.take cfg now period km tm = { MarkEffect.only c with stale := true } := by
  simp only [Clock.take, Clock.usable_of_set set, anchor, if_pos behind]

/-- A mark point within the span is judged by its residual (R111). -/
theorem Clock.take_judged (set : c.state ≠ .unset) (anchor : c.anchor = some a) (ahead : 1 ≤ counterDiff km a.k0)
    (near : counterDiff km a.k0 ≤ spanLimit) (bound : c.state ≠ .free) :
    c.take cfg now period km tm = c.judge cfg now period a km tm := by
  have notBehind : ¬ counterDiff km a.k0 ≤ 0 := by omega
  simp only [Clock.take, Clock.usable_of_set set, anchor, if_neg notBehind, if_neg (not_lt.mpr near), if_neg bound]

/-- A mark point beyond the span, or in FREE, re-anchors the clock (R110, R117). -/
theorem Clock.take_far (set : c.state ≠ .unset) (anchor : c.anchor = some a) (ahead : 1 ≤ counterDiff km a.k0)
    (far : spanLimit < counterDiff km a.k0 ∨ c.state = .free) : c.take cfg now period km tm =
      { MarkEffect.only { c.anchorAt km tm with
          state := .acquiring, residual := some 0
          holdoverDue := if c.state = .acquiring then c.holdoverDue else cfg.holdoverFrom now } with
        reanchored := true, step := decide (c.state = .locked ∨ c.state = .holdover) } := by
  have notBehind : ¬ counterDiff km a.k0 ≤ 0 := by omega
  simp only [Clock.take, Clock.usable_of_set set, anchor, if_neg notBehind]
  by_cases beyond : spanLimit < counterDiff km a.k0
  · rw [if_pos beyond, Clock.beyond]
    cases state : c.state with
    | unset => exact absurd state set
    | acquiring => simp only [Clock.reanchorStay, Clock.anchorAt, state]; rfl
    | locked => simp only [Clock.reanchorEnter, Clock.anchorAt, state]; rfl
    | holdover => simp only [Clock.reanchorEnter, Clock.anchorAt, state]; rfl
    | free => simp only [Clock.reanchorEnter, Clock.anchorAt, state]; rfl
  · have free := far.resolve_left beyond
    rw [if_neg beyond, if_pos free, free]
    rfl

/-- The residual of a mark point (R111). -/
def residualOf (period : Nat) (a : Anchor) (c : Clock) (km : Counter40) (tm : Int) : Int :=
  tm - modelTime period a.t0 c.rho (counterDiff km a.k0)

theorem Clock.judge_accepted (close : (residualOf period a c km tm).natAbs ≤ cfg.acceptLimit c.state) :
    c.judge cfg now period a km tm =
      { MarkEffect.only (c.update cfg now period a km (residualOf period a c km tm)) with accepted := true } :=
  if_pos close

theorem Clock.judge_outlier (far : cfg.acceptLimit c.state < (residualOf period a c km tm).natAbs) :
    c.judge cfg now period a km tm = c.outlier cfg now km tm (residualOf period a c km tm) := if_neg (not_le.mpr far)

theorem Clock.outlier_acquiring (e : Int) (acquiring : c.state = .acquiring) : c.outlier cfg now km tm e =
    { MarkEffect.only (c.reanchorStay km tm e) with reanchored := true, outlier := true } := by
  simp only [Clock.outlier, acquiring]

theorem Clock.outlier_held (e : Int) (bound : c.state = .locked ∨ c.state = .holdover)
    (few : c.outliers + 1 < cfg.outlierLimit) : c.outlier cfg now km tm e =
      { MarkEffect.only { c with outliers := c.outliers + 1, residual := some e } with outlier := true } := by
  rcases bound with state | state <;> simp only [Clock.outlier, state, if_neg (not_le.mpr few)]

theorem Clock.outlier_reanchors (e : Int) (bound : c.state = .locked ∨ c.state = .holdover)
    (many : cfg.outlierLimit ≤ c.outliers + 1) : c.outlier cfg now km tm e =
      { MarkEffect.only (c.reanchorEnter cfg now km tm e) with reanchored := true, outlier := true, step := true } := by
  rcases bound with state | state <;> simp only [Clock.outlier, state, if_pos many]

theorem StationConfig.acceptLimit_eq (cfg : StationConfig) (x : ClockState) :
    cfg.acceptLimit x = if x = .holdover then 4 * cfg.accept else cfg.accept := by
  cases x <;> rfl

theorem StationConfig.gainShift_eq (cfg : StationConfig) {x : ClockState} (set : x ≠ .unset) (bound : x ≠ .free) :
    cfg.gainShift x = if x = .acquiring then cfg.acqShift else cfg.trackShift := by
  cases x with
  | unset => exact absurd rfl set
  | free => exact absurd rfl bound
  | acquiring => rfl
  | locked => rfl
  | holdover => rfl

theorem acceptedState_eq (cfg : StationConfig) {x : ClockState} (count : Nat) (set : x ≠ .unset) (bound : x ≠ .free) :
    acceptedState cfg x count = if x = .acquiring ∧ count < cfg.depth then .acquiring else .locked := by
  cases x with
  | unset => exact absurd rfl set
  | free => exact absurd rfl bound
  | acquiring =>
    simp only [acceptedState, true_and]
    split
    · next deep => rw [if_neg (not_lt.mpr deep)]
    · next shallow => rw [if_pos (not_le.mp shallow)]
  | locked => rfl
  | holdover => rfl

theorem clampInt_eq {lo hi : Int} (order : lo ≤ hi) (n : Int) :
    clampInt lo hi n = if n < lo then lo else if hi < n then hi else n := by
  unfold clampInt
  omega

end Take

theorem State.raiseIf_of {s : State} {b : Bool} {k : NoticeKind} (h : b = true) : s.raiseIf b k = s.raise k := if_pos h

theorem State.raiseIf_not {s : State} {b : Bool} {k : NoticeKind} (h : b = false) : s.raiseIf b k = s :=
  if_neg (by rw [h]; exact nofun)

/-- The station and the notice after a mark point with a known effect (R108 to R117, R126). -/
theorem State.takeMark_eq {s : State} {i : StationId} {km : Counter40} {tm : Int} {x : Station} {m : MarkEffect}
    (isX : s.station i = x) (isM : x.clock.take x.config s.partTime x.period km tm = m) : s.takeMark i km tm =
      (s.setStation i (x.afterMark m)).raiseIf (m.step || decide (m.clock.state ≠ x.clock.state)) .station := by
  subst isX isM
  rfl

/-- Settles O46. -/
theorem marksMoveTheClock : Obligations.MarksMoveTheClock := by
  intro dt l i km p sec locked rest s running isOpen queue x c now popped tm passes
  have head := State.head?_of_open (s := s.advance dt) isOpen queue
  -- an entry of an enabled station is judged
  have judged {u : State} (enabled : x.enabled = true) (h : popped.judgeMark i km p sec locked = u) :
      exec (.headMark dt l) s = .next u.endEvent := by
    refine State.event_of_eq (body := (State.headMark · l)) running ?_
    simp only [State.headMark, head]
    rw [State.ifEnabled_enabled (s := s.advance dt) enabled, State.popHead_eq (s := s.advance dt) queue]
    exact h
  have isX : popped.station i = x := State.modLink_station _ _ _ i
  have passed (h : passes) : ¬ ((popped.station i).config.source = .probe ∨ (popped.station i).period ≤ p.toNat) := by
    rw [isX]
    rintro (source | late)
    · exact absurd (h.2.1.symm.trans source) nofun
    · exact absurd h.2.2 (not_lt.mpr late)
  -- a mark point with a known effect on the clock
  have taken {u : State} {m : MarkEffect} (h : passes) (lock : locked = true)
      (isM : c.take x.config now x.period km tm = m)
      (h' : (popped.setStation i (x.afterMark m)).raiseIf (m.step || decide (m.clock.state ≠ c.state)) .station = u) :
      exec (.headMark dt l) s = .next u.endEvent := by
    refine judged h.1 ?_
    rw [State.judgeMark, if_neg (passed h), if_neg (by rw [lock]; exact nofun)]
    exact (State.takeMark_eq isX isM).trans h'
  refine ⟨fun disabled => ?_, fun enabled fails => judged enabled ?_, fun pass unlocked => judged pass.1 ?_,
    fun pass lock unset => ?_, fun a pass lock set anchor => ?_⟩
  · refine State.event_of_eq (body := (State.headMark · l)) running ?_
    simp only [State.headMark, head]
    exact State.ifEnabled_disabled (s := s.advance dt) disabled queue _
  · have out : (popped.station i).config.source = .probe ∨ (popped.station i).period ≤ p.toNat := by
      rw [isX]
      by_contra h
      refine fails ⟨enabled, ?_, not_le.mp fun late => h (.inr late)⟩
      cases source : x.config.source with
      | probe => exact absurd (.inl source) h
      | sat => rfl
    rw [State.judgeMark, if_pos out, State.count_eq, isX]
  · rw [State.judgeMark, if_neg (passed pass), if_pos unlocked, State.count_eq, isX]
  · refine taken pass lock (Clock.take_unset unset) ?_
    exact State.raiseIf_of (decide_eq_true fun same => nomatch same.trans unset)
  intro delta model e limit anchored
  have isE : residualOf x.period a c km tm = e := rfl
  have isLimit : x.config.acceptLimit c.state = limit := StationConfig.acceptLimit_eq _ _
  refine ⟨fun behind => taken pass lock (Clock.take_stale set anchor behind) ?_, ?_, ?_, ?_, ?_⟩
  · exact State.raiseIf_not (decide_eq_false (not_not_intro rfl))
  · intro ahead near bound close shift rho count state
    refine taken pass lock ((Clock.take_judged set anchor ahead near bound).trans (Clock.judge_accepted ?_)) ?_
    · rw [isE, isLimit]; exact close
    have isShift : x.config.gainShift c.state = shift := StationConfig.gainShift_eq _ set bound
    have isState : acceptedState x.config c.state count = state := acceptedState_eq _ _ set bound
    have isRho : clampInt (-rhoLimit) rhoLimit rho = if rho < -100000 then -100000 else if 100000 < rho then 100000 else rho :=
      clampInt_eq (by decide) rho
    have updated : c.update x.config now x.period a km e = { c with
        state := state
        anchor := some { k0 := km, t0 := model + roundDiv e (2 ^ shift) }
        rho := if rho < -100000 then -100000 else if 100000 < rho then 100000 else rho
        count := count
        stages := c.stages ||| ladderStage count
        outliers := 0
        residual := some e
        silenceDue := if state = .locked then some (now + x.config.silence * 1000) else none
        holdoverDue := some (now + x.config.holdover * 60000) } := by
      rw [← isRho, ← isState]
      unfold Clock.update
      dsimp only
      rw [isShift]
      rfl
    rw [isE, updated]
    rfl
  · intro ahead near acquiring far
    refine taken pass lock ((Clock.take_judged set anchor ahead near (by rw [acquiring]; exact nofun)).trans
      ((Clock.judge_outlier ?_).trans (Clock.outlier_acquiring _ acquiring))) ?_
    · rw [isE, isLimit]; exact far
    have isClock : c.reanchorStay km tm e = anchored := by
      simp only [Clock.reanchorStay, Clock.anchorAt, acquiring]
      rfl
    rw [isE, isClock]
    exact State.raiseIf_not (decide_eq_false (not_not_intro acquiring.symm))
  · intro ahead near bound far
    have notFree : c.state ≠ .free := by rcases bound with is | is <;> rw [is] <;> exact nofun
    have outlier : c.take x.config now x.period km tm = c.outlier x.config now km tm e :=
      (Clock.take_judged set anchor ahead near notFree).trans (Clock.judge_outlier (by rw [isE, isLimit]; exact far))
    refine ⟨fun few => taken pass lock (outlier.trans (Clock.outlier_held _ bound few)) ?_,
      fun many => taken pass lock (outlier.trans (Clock.outlier_reanchors _ bound many)) ?_⟩
    · exact State.raiseIf_not (decide_eq_false (not_not_intro rfl))
    · exact State.raiseIf_of rfl
  · intro ahead far
    refine taken pass lock (Clock.take_far set anchor ahead far) ?_
    by_cases bound : c.state = .locked ∨ c.state = .holdover
    · have other : c.state ≠ .acquiring := by rcases bound with is | is <;> rw [is] <;> exact nofun
      rw [State.raiseIf_of (by rw [decide_eq_true bound]; rfl), State.raiseIf_of (decide_eq_true other)]
      simp only [Station.afterMark, MarkEffect.only, bumpIf, decide_eq_true bound, if_pos bound, if_true]
      rfl
    · refine (congrArg (State.raiseIf _ · _) (?_ : _ = decide (c.state ≠ .acquiring))).trans ?_
      · show (decide (c.state = .locked ∨ c.state = .holdover) || decide (ClockState.acquiring ≠ c.state)) = _
        rw [decide_eq_false bound, Bool.false_or]
        exact decide_eq_decide.mpr ne_comm
      · simp only [Station.afterMark, MarkEffect.only, bumpIf, decide_eq_false bound, if_neg bound, if_true]
        rfl

end Sys2Proof.Machine
end

section
/-! PROOF. Link ports lost, reset and configured (R25 to R29, R36, R42, R45): O27, O28, O33. -/

namespace Sys2Proof.Machine

/-! ## The state after a request's answer -/

theorem Port.choose_reply_field (x : Port) (now : Nat) : (x.choose now).reply = x.reply := by
  unfold Port.choose
  split
  · split
    · rfl
    · split <;> rfl
  · rfl
  · rfl

section Answered

variable (s : State) (p : PortId) (k : Byte) (tag : BitVec 16) (body : List Byte)

theorem State.answered_frame : (s.answered p k tag body).timebase = s.timebase ∧
    (s.answered p k tag body).links = s.links ∧ (s.answered p k tag body).stations = s.stations ∧
    (s.answered p k tag body).reservations = s.reservations ∧ (s.answered p k tag body).assembler = s.assembler ∧
    (s.answered p k tag body).store.slots = s.store.slots ∧
    (s.answered p k tag body).store.waiting = s.store.waiting := by
  cases p <;> exact ⟨rfl, rfl, rfl, rfl, rfl, rfl, rfl⟩

theorem State.answered_reply : ((s.answered p k tag body).port p).reply =
    some { kind := k + 0x80, tag := tag, body := body } := by
  rw [State.answered, State.endEvent_port, Port.choose_reply_field]
  cases p <;> rfl

end Answered

/-! ## What an operation of a link leaves alone -/

/-- Only links, stations and the ports' notice sets differ. -/
structure LinkFrame (s t : State) : Prop where
  timebase : t.timebase = s.timebase
  reservations : t.reservations = s.reservations
  assembler : t.assembler = s.assembler
  store : t.store = s.store
  held : t.held = s.held
  pending : t.pending = s.pending
  raises : Raises s t

namespace LinkFrame

variable {s t u : State}

theorem refl (s : State) : LinkFrame s s := ⟨rfl, rfl, rfl, rfl, rfl, rfl, .refl s⟩

theorem trans (h : LinkFrame s t) (k : LinkFrame t u) : LinkFrame s u :=
  ⟨k.timebase.trans h.timebase, k.reservations.trans h.reservations, k.assembler.trans h.assembler,
    k.store.trans h.store, k.held.trans h.held, k.pending.trans h.pending, h.raises.trans k.raises⟩

theorem partTime (h : LinkFrame s t) : t.partTime = s.partTime := by rw [State.partTime, h.timebase]; rfl

theorem setLink (s : State) (l : LinkId) (x : Link) : LinkFrame s (s.setLink l x) :=
  ⟨rfl, rfl, rfl, rfl, rfl, rfl, .of_port fun p => by cases p <;> rfl⟩

theorem modLink (s : State) (l : LinkId) (f : Link → Link) : LinkFrame s (s.modLink l f) := setLink s l _

theorem setStation (s : State) (i : StationId) (x : Station) : LinkFrame s (s.setStation i x) :=
  ⟨rfl, rfl, rfl, rfl, rfl, rfl, .of_port fun p => by cases p <;> rfl⟩

theorem raise (s : State) (k : NoticeKind) : LinkFrame s (s.raise k) := ⟨rfl, rfl, rfl, rfl, rfl, rfl, .raise s k⟩

theorem raiseIf (s : State) (b : Bool) (k : NoticeKind) : LinkFrame s (s.raiseIf b k) := by
  unfold State.raiseIf
  split
  · exact raise s k
  · exact refl s

theorem endRequest (s : State) (i : StationId) (identifier : Byte) (e : Ending) :
    LinkFrame s (s.endRequest i identifier e) := by
  rw [State.endRequest_eq]
  exact (setStation s i _).trans (raiseIf _ _ _)

theorem endBackfill (s : State) (l : LinkId) (e : Ending) : LinkFrame s (s.endBackfill l e) := by
  unfold State.endBackfill
  split
  · exact refl s
  · exact (modLink s l _).trans (endRequest _ _ _ _)

theorem abandonProbe (s : State) (l : LinkId) : LinkFrame s (s.abandonProbe l) := by
  unfold State.abandonProbe
  split
  · exact (modLink s l _).trans (raiseIf _ _ _)
  · exact refl s

theorem loseSlots (s : State) (l : LinkId) : LinkFrame s (s.loseSlots l) :=
  ((endBackfill s l _).trans (abandonProbe _ l)).trans (modLink _ l _)

theorem pushControl (s : State) (l : LinkId) (e : Entry) : LinkFrame s (s.pushControl l e) := by
  unfold State.pushControl
  split
  · exact modLink s l _
  · exact (modLink s l _).trans (raise _ _)

theorem pushMasked (s : State) (l : LinkId) (passes : Bool) (e : Entry) : LinkFrame s (s.pushMasked l passes e) := by
  unfold State.pushMasked
  split
  · exact pushControl s l e
  · exact refl s

theorem damageRequest (s : State) (l : LinkId) (cause : DamageCause) : LinkFrame s (s.damageRequest l cause) := by
  unfold State.damageRequest
  split
  · exact refl s
  · split
    · exact refl s
    · exact (modLink s l _).trans (setStation _ _ _)

end LinkFrame

/-! ## Control entries queued (R36) -/

theorem State.pushMasked_link (s : State) (l : LinkId) (passes : Bool) (e : Entry) (m : LinkId) :
    (s.pushMasked l passes e).link m = if l = m then (s.link l).withControl passes e else s.link m := by
  unfold State.pushMasked State.pushControl Link.withControl
  cases passes with
  | false =>
    rw [if_neg nofun, if_pos rfl]
    split
    · next same => rw [same]
    · rfl
  | true =>
    simp only [if_true, Bool.true_eq_false, if_false]
    split
    · exact State.link_modLink s l m _
    · rw [State.raise_link, State.countLink, State.link_modLink]

theorem State.pushMasked_stations (s : State) (l : LinkId) (passes : Bool) (e : Entry) :
    (s.pushMasked l passes e).stations = s.stations := by
  unfold State.pushMasked State.pushControl
  split
  · split <;> rfl
  · rfl

/-- With LINK raised besides, a control entry lost raises nothing more (R36). -/
theorem State.pushMasked_raise (s : State) (l : LinkId) (passes : Bool) (e : Entry) :
    (s.pushMasked l passes e).raise .link = (s.setLink l ((s.link l).withControl passes e)).raise .link := by
  unfold State.pushMasked State.pushControl Link.withControl
  cases passes with
  | false => rw [if_neg nofun, if_pos rfl, State.setLink_link]
  | true =>
    simp only [if_true, Bool.true_eq_false, if_false]
    split
    · rfl
    · rw [State.raise_raise]; rfl

/-! ## The request of a lost link (R42, R81) -/

theorem Station.requestEnded_linkLost (x : Station) (identifier : Byte) : x.requestEnded identifier .linkLost =
    { x with tracker := { x.tracker with
        gaps := x.tracker.gaps.map fun g =>
          if g.request = some identifier then { g with request := none, damaged := false } else g } } := by
  have each : Gap.answered x.config.attempts identifier .linkLost = some ∘ fun g =>
      if g.request = some identifier then { g with request := none, damaged := false } else g := by
    funext g
    unfold Gap.answered
    dsimp only [Function.comp]
    split <;> rfl
  have nobody : (x.tracker.gaps.countP fun g =>
      (Gap.answered x.config.attempts identifier .linkLost g).isNone) = 0 := by
    rw [each]
    exact List.countP_eq_zero.mpr fun _ _ => nofun
  rw [Station.requestEnded, nobody, bumpBy_zero, each, List.filterMap_eq_map]

theorem State.abandonProbe_stations (s : State) (l : LinkId) : (s.abandonProbe l).stations = s.stations := by
  unfold State.abandonProbe
  split
  · rw [State.probeEnded, State.raiseIf_stations]; rfl
  · rfl

/-- Link loss hands the stations the loss of the request in flight (R42). -/
theorem State.loseSlots_requestLost {s u t : State} {l : LinkId} (stations : u.stations = s.stations)
    (flight : (u.link l).backfill = (s.link l).backfill) (same : t.stations = (u.loseSlots l).stations) :
    requestLost s t l := by
  have lost : (u.loseSlots l).stations = (u.endBackfill l .linkLost).stations := State.abandonProbe_stations _ l
  have station (i : StationId) : u.station i = s.station i := by rw [State.station, stations]; rfl
  have isT (i : StationId) : t.station i = (u.endBackfill l .linkLost).station i := by
    rw [State.station, same, lost]; rfl
  unfold requestLost
  cases backfill : (s.link l).backfill with
  | none =>
    have kept : u.endBackfill l .linkLost = u := by simp only [State.endBackfill, flight, backfill]
    rw [kept] at lost
    exact same.trans (lost.trans stations)
  | some b =>
    rw [State.endBackfill_eq (flight.trans backfill), State.endRequest_eq] at isT
    refine ⟨fun j other => ?_, ?_⟩
    · rw [isT, State.raiseIf_station, State.setStation_ne _ _ (Ne.symm other)]
      exact station j
    · rw [isT, State.raiseIf_station, State.setStation_self, Station.requestEnded_linkLost, State.setLink_station, station]

/-! ## Carrier and silence (R28, R29) -/

theorem State.isDue_of_early {s : State} {d : Nat} (early : s.partTime < d) : ¬ s.isDue (some d) = true := by
  simpa [State.isDue] using early

theorem State.isDue_of_due {s : State} {d : Nat} (due : d ≤ s.partTime) : s.isDue (some d) = true := decide_eq_true due

/-- Settles O33. -/
theorem carrierAndSilenceMoveTheLink : Obligations.CarrierAndSilenceMoveTheLink := by
  intro dt l s running x now
  have fall (idle : x.burst = none) (on : x.state ≠ .off) :
      (s.advance dt).carrierFalls l [] = (s.advance dt).setLink l (x.startCarrier now) := by
    have bytes : (s.advance dt).linkBytes l [] = s.advance dt := State.linkBytes_on (s := s.advance dt) on []
    rw [State.carrierFalls, if_neg (by rw [State.advance_link]; exact on), bytes]
    dsimp only
    rw [State.cutBurst_idle (s := s.advance dt) idle]
    rfl
  refine ⟨fun idle sends => ?_, fun idle down => ?_, ?_, fun d carrier => ⟨fun early => ?_, fun due sends => ?_⟩,
    fun d activity => ⟨fun early => ?_, fun due up => ?_⟩⟩
  · refine State.event_of_eq (body := fun s => s.carrierFalls l []) running ((fall idle ?_).trans ?_)
    · rcases sends with is | is <;> rw [is] <;> exact nofun
    · rw [Link.startCarrier, if_pos ((LinkState.sends_iff _).mpr sends)]
  · refine State.event_of_eq (body := fun s => s.carrierFalls l []) running ((fall idle ?_).trans ?_)
    · rw [down]; exact nofun
    · rw [Link.startCarrier, if_neg (by rw [down]; exact nofun)]
      exact State.setLink_link (s.advance dt) l
  · exact State.event_of_eq (body := fun s => s.modLink l fun x => { x with carrierDue := none }) running rfl
  · refine State.event_of_eq (body := (State.carrierOut · l)) running (if_neg fun h => ?_)
    rw [State.advance_link] at h
    exact State.isDue_of_early (s := s.advance dt) early (carrier ▸ h.2)
  · have out : State.carrierOut (s.advance dt) l = (s.advance dt).loseCarrier l := by
      refine if_pos ⟨(LinkState.sends_iff _).mpr sends, ?_⟩
      rw [State.advance_link]
      exact carrier ▸ State.isDue_of_due due
    refine ⟨_, State.event_of_eq (body := (State.carrierOut · l)) running out, ?_⟩
    have frame : LinkFrame (s.advance dt) ((s.advance dt).loseCarrier l) :=
      (((LinkFrame.modLink _ l _).trans (.loseSlots _ l)).trans (.pushMasked _ l _ _)).trans (.raise _ _)
    have isLink (k : LinkId) : ((s.advance dt).loseCarrier l).link k = if l = k then
        Link.withControl { x with
          state := .down, noActivityDue := none, carrierDue := none, backfill := none, probe := none
          outbound := none } x.maskLinkDown (.linkDown .carrier) else s.link k := by
      unfold State.loseCarrier
      dsimp only
      rw [State.raise_link, State.pushMasked_link]
      split
      · rw [State.loseSlots_link, if_pos rfl, State.modLink_self]
        rfl
      · next other => rw [State.loseSlots_link, if_neg other, State.modLink_ne _ _ other, State.advance_link]
    have raised : KindRaised 0x08 (s.advance dt) ((s.advance dt).loseCarrier l) :=
      .before (((LinkFrame.modLink _ l _).trans (.loseSlots _ l)).trans (.pushMasked _ l _ _)).raises (.raise _ .link)
    have lost {t : State} (same : t.stations = ((s.advance dt).loseCarrier l).stations) : requestLost s t l :=
      State.loseSlots_requestLost
        (u := (s.advance dt).modLink l fun x => { x with state := .down, noActivityDue := none, carrierDue := none })
        rfl (by rw [State.modLink_self]; rfl) (same.trans (State.pushMasked_stations _ _ _ _))
    generalize (s.advance dt).loseCarrier l = t at *
    refine ⟨?_, fun k other => ?_, lost rfl, frame.timebase, frame.assembler, frame.reservations, ?_, ?_⟩
    · rw [State.endEvent_link, isLink, if_pos rfl]
    · rw [State.endEvent_link, isLink, if_neg (Ne.symm other)]
    · rw [State.endEvent_slots, frame.store]; rfl
    · exact KindRaised.endEvent (.before (HubFrame.advance s dt).raises raised)
        ((HubFrame.advance s dt).raises.trans frame.raises)
  · refine State.event_of_eq (body := (State.fallSilent · l)) running (if_neg fun h => ?_)
    rw [State.advance_link] at h
    exact State.isDue_of_early (s := s.advance dt) early (activity ▸ h.2)
  · have isDue : (s.advance dt).isDue ((s.advance dt).link l).noActivityDue = true := by
      rw [State.advance_link]
      exact activity ▸ State.isDue_of_due due
    refine State.event_of_eq (body := (State.fallSilent · l)) running ((if_pos ⟨up, isDue⟩).trans ?_)
    dsimp only
    rw [State.pushMasked_raise, State.modLink_eq, State.setLink_self, State.setLink_setLink]
    rfl

/-! ## LINK_RESET (R45) -/

section Reset

theorem State.leaveWaiting_waiting (s : State) (l : LinkId) :
    (s.leaveWaiting l).store.waiting = s.store.waiting.filter fun k => decide (k ≠ l) := rfl

theorem State.leaveWaiting_slots (s : State) (l : LinkId) : (s.leaveWaiting l).store.slots = s.store.slots := rfl

variable (s : State) (l : LinkId)

theorem State.resetLink_frame : LinkFrame (s.leaveWaiting l) (s.resetLink l) := by
  unfold State.resetLink
  exact ((LinkFrame.modLink _ l _).trans (.loseSlots _ l)).trans (.modLink _ l _)

theorem State.downAfterReset_frame (before : LinkState) : LinkFrame s (s.downAfterReset l before) := by
  unfold State.downAfterReset
  split
  · exact .refl s
  · dsimp only
    split
    · exact ((LinkFrame.modLink s l _).trans (.pushControl _ l _)).trans (.raise _ _)
    · exact .modLink s l _

theorem State.pushControl_stations (e : Entry) : (s.pushControl l e).stations = s.stations := by
  unfold State.pushControl
  split <;> rfl

theorem State.downAfterReset_stations (before : LinkState) : (s.downAfterReset l before).stations = s.stations := by
  unfold State.downAfterReset
  split
  · rfl
  · dsimp only
    split
    · exact State.pushControl_stations _ _ _
    · rfl

/-- A reset of a link loses its request (R45). -/
theorem State.resetLink_requestLost {s u t : State} {l : LinkId} (stations : u.stations = s.stations)
    (flight : (u.link l).backfill = (s.link l).backfill) (same : t.stations = (u.resetLink l).stations) :
    requestLost s t l :=
  State.loseSlots_requestLost (u := (u.leaveWaiting l).modLink l fun x =>
    { x with burst := none, queue := [], blocked := false }) stations
    (by rw [State.modLink_self]; exact flight) same

/-- A link as LINK_RESET leaves it (R45). -/
def Link.afterReset (x : Link) : Link :=
  { x.cleared with
    state := if x.state = .off then .off else .down
    queue := if (x.state = .up ∨ x.state = .silent) ∧ x.maskLinkDown = true then [.linkDown .reset] else [] }

theorem State.reset_link (m : LinkId) : ((s.resetLink l).downAfterReset l (s.link l).state).link m =
    if l = m then (s.link l).afterReset else s.link m := by
  have cleared := State.resetLink_link s l
  unfold State.downAfterReset
  by_cases off : (s.link l).state = .off
  · rw [if_pos off, cleared]
    refine if_congr Iff.rfl ?_ rfl
    simp only [Link.afterReset, Link.cleared, off, if_true, reduceCtorEq, or_self, false_and, if_false]
  · rw [if_neg off]
    dsimp only
    have masked : (((s.resetLink l).modLink l fun x => { x with state := .down }).link l).maskLinkDown =
        (s.link l).maskLinkDown := by rw [State.modLink_self, cleared, if_pos rfl]; rfl
    rw [masked]
    split
    · next tells =>
      obtain ⟨sends, mask⟩ := (Bool.and_eq_true _ _).mp tells
      have room : (((s.resetLink l).modLink l fun x => { x with state := .down }).link l).queue = [] := by
        rw [State.modLink_self, cleared, if_pos rfl]; rfl
      rw [State.raise_link, State.pushControl, room, if_pos (by decide), State.modLink_modLink, State.link_modLink, cleared,
        if_pos rfl, cleared]
      refine ite_congr rfl (fun _ => ?_) fun other => if_neg other
      rw [Link.afterReset, if_neg off, if_pos ⟨(LinkState.sends_iff _).mp sends, mask⟩]
      rfl
    · next silent =>
      have quiet : ¬ (((s.link l).state = .up ∨ (s.link l).state = .silent) ∧ (s.link l).maskLinkDown = true) :=
        fun ⟨sends, mask⟩ => silent (by rw [(LinkState.sends_iff _).mpr sends, mask]; rfl)
      rw [State.link_modLink, cleared, if_pos rfl, cleared]
      refine ite_congr rfl (fun _ => ?_) fun other => if_neg other
      rw [Link.afterReset, if_neg off, if_neg quiet]
      rfl

end Reset

/-- What a request that resets a link leaves of the rest (R45). -/
theorem State.answered_reset {s t : State} {dt : Nat} {p : PortId} {l : LinkId}
    (frame : LinkFrame ((s.requested dt p).leaveWaiting l) t) (k : Byte) (tag : BitVec 16) (body : List Byte) :
    (t.answered p k tag body).store.waiting = s.store.waiting.filter (fun k => decide (k ≠ l)) ∧
    (t.answered p k tag body).store.slots = s.store.slots ∧
    (t.answered p k tag body).timebase = (s.advance dt).timebase ∧
    (t.answered p k tag body).reservations = s.reservations ∧
    (t.answered p k tag body).assembler = s.assembler := by
  obtain ⟨timebase, _, _, reservations, assembler, slots, waiting⟩ := t.answered_frame p k tag body
  refine ⟨?_, ?_, ?_, ?_, ?_⟩
  · rw [waiting, frame.store, State.leaveWaiting_waiting, State.requested_store]
  · rw [slots, frame.store, State.leaveWaiting_slots, State.requested_store]
  · exact timebase.trans (frame.timebase.trans (State.requested_timebase s dt p))
  · exact reservations.trans (frame.reservations.trans (State.requested_reservations s dt p))
  · exact assembler.trans (frame.assembler.trans (State.requested_assembler s dt p))

/-- Settles O28. -/
theorem linkResetClearsTheLink : Obligations.LinkResetClearsTheLink := by
  intro dt p tag lb s takes role
  refine ⟨fun above => ?_, fun l isL => ?_⟩
  · exact exec_answered (r := .linkReset lb) rfl takes (.inr role) (State.onLink_above above _ _)
  intro x
  subst isL
  have isX : (s.requested dt p).link l = x := State.requested_link s dt p l
  have answer : (s.requested dt p).answer p (.linkReset (linkByte l)) =
      (((s.requested dt p).resetLink l).downAfterReset l x.state).ok
        [((((s.requested dt p).resetLink l).downAfterReset l x.state).link l).state.code] := by
    refine (State.onLink_linkByte _ l _).trans ?_
    rw [isX]
  have isLink := State.reset_link (s.requested dt p) l
  have frame := (State.resetLink_frame (s.requested dt p) l).trans (State.downAfterReset_frame _ l x.state)
  have stations := State.downAfterReset_stations ((s.requested dt p).resetLink l) l x.state
  rw [isX] at isLink
  have lost {t : State} (same : t.stations =
      (((s.requested dt p).resetLink l).downAfterReset l x.state).stations) : requestLost s t l :=
    State.resetLink_requestLost (State.requested_stations s dt p) (congrArg Link.backfill isX) (same.trans stations)
  refine ⟨_, exec_answered (r := .linkReset (linkByte l)) rfl takes (.inr role) answer, ?_⟩
  generalize ((s.requested dt p).resetLink l).downAfterReset l x.state = t at *
  obtain ⟨waiting, slots, timebase, reservations, assembler⟩ := State.answered_reset frame 0x0A tag [0, (t.link l).state.code]
  obtain ⟨_, links, same, _⟩ := t.answered_frame p 0x0A tag [0, (t.link l).state.code]
  have isLink' (k : LinkId) : (t.answered p 0x0A tag [0, (t.link l).state.code]).link k =
      if l = k then x.afterReset else s.link k := by
    rw [State.link, links]
    exact (isLink k).trans (by rw [State.requested_link])
  refine ⟨(isLink' l).trans (if_pos rfl), fun k other => (isLink' k).trans (if_neg (Ne.symm other)), lost same, waiting,
    slots, timebase, reservations, assembler, ?_⟩
  rw [State.answered_reply, isLink, if_pos rfl]
  simp only [Link.afterReset]
  split <;> rfl

/-! ## LINK_CONFIG (R25, R26) -/

theorem badMask_iff (m : Option MaskFields) : badMask m = true ↔
    ∃ x, m = some x ∧ ∃ b ∈ [x.burstFail, x.linkDown, x.linkUp], b ≠ 0 ∧ b ≠ 1 := by
  cases m with
  | none => simp [badMask]
  | some x => simp [badMask, switchOf_eq_none_iff, or_assoc]

theorem timeByte_eq (v : Byte) : clampNat 1 255 v.toNat = if v = 0 then 1 else v.toNat := by
  have below : v.toNat < 256 := v.isLt
  have zero : v = 0 ↔ v.toNat < 1 := by
    rw [← BitVec.toNat_inj]
    show v.toNat = 0 ↔ _
    omega
  rw [clampNat_eq (by decide), if_neg (show ¬ 255 < v.toNat by omega)]
  exact if_congr zero.symm rfl rfl

/-- The parameters carried, in the terms of the statements (R25). -/
theorem Link.putParameters_eq (f : LinkFields) (x : Link) : x.putParameters f = { x with
    seed := f.seed.getD x.seed
    noActivity := (f.noActivity.map fun v => if v = 0 then 1 else v.toNat).getD x.noActivity
    carrierLoss := (f.carrierLoss.map fun v => if v = 0 then 1 else v.toNat).getD x.carrierLoss
    asymmetry := (f.asymmetry.map fun v =>
      if v.toInt < -1000000 then -1000000 else if 1000000 < v.toInt then 1000000 else v.toInt).getD x.asymmetry
    maskBurstFail := (f.mask.map fun m => decide (m.burstFail = 1)).getD x.maskBurstFail
    maskLinkDown := (f.mask.map fun m => decide (m.linkDown = 1)).getD x.maskLinkDown
    maskLinkUp := (f.mask.map fun m => decide (m.linkUp = 1)).getD x.maskLinkUp } := by
  unfold Link.putParameters
  congr 1
  · cases f.noActivity with
    | none => rfl
    | some v => exact timeByte_eq v
  · cases f.carrierLoss with
    | none => rfl
    | some v => exact timeByte_eq v
  · cases f.asymmetry with
    | none => rfl
    | some v => exact clampInt_eq (by decide) v.toInt
  · cases f.mask <;> rfl
  · cases f.mask <;> rfl
  · cases f.mask <;> rfl

section Config

variable {s : State} {l : LinkId} {enable : Byte} {f : LinkFields}

theorem State.answerLinkConfig_bad (bad : (enable ≠ 0 ∧ enable ≠ 1) ∨ f.reserved ≠ 0 ∨
    ∃ m, f.mask = some m ∧ ∃ b ∈ [m.burstFail, m.linkDown, m.linkUp], b ≠ 0 ∧ b ≠ 1) :
    s.answerLinkConfig (Machine.linkByte l) enable f = (s, [4]) := by
  refine (State.onLink_linkByte s l _).trans ?_
  cases on : switchOf enable with
  | none => rfl
  | some on =>
    have isSwitch : ¬ (enable ≠ 0 ∧ enable ≠ 1) := fun off => by rw [switchOf_eq_none_iff.mpr off] at on; cases on
    exact if_pos ((bad.resolve_left isSwitch).imp_right (badMask_iff f.mask).mpr)

theorem State.answerLinkConfig_good (good : ¬ ((enable ≠ 0 ∧ enable ≠ 1) ∨ f.reserved ≠ 0 ∨
    ∃ m, f.mask = some m ∧ ∃ b ∈ [m.burstFail, m.linkDown, m.linkUp], b ≠ 0 ∧ b ≠ 1)) :
    s.answerLinkConfig (Machine.linkByte l) enable f =
      let t := (s.modLink l (Link.putParameters f)).switchLink l (decide (enable = 1))
      t.ok (t.link l).configFields := by
  refine (State.onLink_linkByte s l _).trans ?_
  rw [switchOf_eq_some fun h => good (.inl h)]
  exact if_neg fun h => good (.inr (h.imp_right (badMask_iff f.mask).mp))

end Config

theorem exists_linkByte {b : Byte} (low : ¬ 5 < b) : ∃ l, b = linkByte l := by
  have below : b.toNat < 6 := Nat.lt_succ_of_le (BitVec.le_def.mp (BitVec.not_lt.mp low))
  exact ⟨⟨b.toNat, below⟩, (BitVec.ofNat_toNat 8 b).symm.trans rfl⟩

/-- Settles O27. -/
theorem linkConfigSetsTheLink : Obligations.LinkConfigSetsTheLink := by
  intro dt p tag lb enable f s takes role u bad
  refine ⟨fun refused => ?_, fun l isL good => ?_⟩
  · refine exec_answered (r := .linkConfig lb enable f) rfl takes (.inr role) ?_
    by_cases above : 5 < lb
    · exact State.onLink_above above _ _
    · obtain ⟨l, rfl⟩ := exists_linkByte above
      exact State.answerLinkConfig_bad (refused.resolve_left above)
  subst isL
  intro x y open_
  have isX : u.link l = x := State.requested_link s dt p l
  have put : u.modLink l (Link.putParameters f) = u.setLink l y := by
    rw [State.modLink_eq, isX, Link.putParameters_eq]
  have config := exec_answered (dt := dt) (tag := tag) (r := .linkConfig (linkByte l) enable f) rfl takes (.inr role)
    (State.answerLinkConfig_good (l := l) good)
  have answers : (u.setLink l y).link l = y := State.setLink_self u l y
  rw [put] at config
  refine ⟨fun kept => ?_, fun on off => ?_, fun isOff on => ?_⟩
  · have same : (u.setLink l y).switchLink l (decide (enable = 1)) = u.setLink l y := by
      rw [State.switchLink, answers]
      rcases kept with ⟨isOn, on⟩ | ⟨isOff, off⟩
      · rw [if_neg (show ¬ y.state = .off from on), decide_eq_true isOn]; rfl
      · rw [if_pos (show y.state = .off from off), isOff]; rfl
    rw [same, answers] at config
    exact config
  · have opened : (u.setLink l y).switchLink l (decide (enable = 1)) = u.setLink l open_ := by
      rw [State.switchLink, answers, if_pos (show y.state = .off from off), decide_eq_true on, if_pos rfl, State.enableLink,
        State.modLink_eq, answers, State.setLink_setLink]
    rw [opened, State.setLink_self] at config
    exact config
  · have closed : (u.setLink l y).switchLink l (decide (enable = 1)) = (u.setLink l y).disableLink l := by
      rw [State.switchLink, answers, if_neg (show ¬ y.state = .off from on), isOff]; rfl
    rw [closed] at config
    have isLink (k : LinkId) : ((u.setLink l y).disableLink l).link k =
        if l = k then { y.cleared with state := .off } else s.link k := by
      rw [State.disableLink, State.link_modLink, State.resetLink_link, if_pos rfl, answers, State.resetLink_link]
      refine ite_congr rfl (fun _ => rfl) fun other => ?_
      rw [if_neg other, State.setLink_ne _ _ other]
      exact State.requested_link s dt p k
    have frame : LinkFrame (u.leaveWaiting l) ((u.setLink l y).disableLink l) :=
      ((LinkFrame.setLink (u.leaveWaiting l) l y).trans (State.resetLink_frame (u.setLink l y) l)).trans (.modLink _ l _)
    have lost {t : State} (same : t.stations = ((u.setLink l y).disableLink l).stations) : requestLost s t l :=
      State.resetLink_requestLost (u := u.setLink l y) (State.requested_stations s dt p) (by rw [answers]) same
    refine ⟨_, config, ?_⟩
    generalize (u.setLink l y).disableLink l = t at *
    obtain ⟨waiting, slots, timebase, reservations, assembler⟩ :=
      State.answered_reset frame 0x08 tag (0 :: (t.link l).configFields)
    obtain ⟨_, links, same, _⟩ := t.answered_frame p 0x08 tag (0 :: (t.link l).configFields)
    have isLink' (k : LinkId) : (t.answered p 0x08 tag (0 :: (t.link l).configFields)).link k = t.link k := by
      rw [State.link, links]; rfl
    refine ⟨(isLink' l).trans ((isLink l).trans (if_pos rfl)),
      fun k other => (isLink' k).trans ((isLink k).trans (if_neg (Ne.symm other))), lost same, waiting,
      slots, timebase, reservations, assembler, ?_⟩
    exact (State.answered_reply t p 0x08 tag _).trans (congrArg (fun z : Link =>
      some { kind := 0x88, tag := tag, body := 0 :: z.configFields : Frame }) (isLink' l).symm)

end Sys2Proof.Machine
end

section
/-! PROOF. Bursts that fail and bursts of no station (R30 to R33, R38): O31, O32. -/

namespace Sys2Proof.Machine

/-! ## A valid burst as activity (R27) -/

theorem State.raiseIf_setLink (s : State) (b : Bool) (k : NoticeKind) (l : LinkId) (x : Link) :
    (s.raiseIf b k).setLink l x = (s.setLink l x).raiseIf b k := by
  cases b <;> rfl

/-- A link that a valid burst has made UP (R27). -/
def Link.active (now : Nat) (x : Link) : Link :=
  { x with burst := none, state := .up, noActivityDue := some (now + x.noActivity * 1000)
           counters := { x.counters with goodBursts := bump x.counters.goodBursts } }

/-- A link that has been made UP and has told it (R27, R36). -/
def Link.told (now : Nat) (x : Link) : Link :=
  (x.active now).withControl (decide (x.state ≠ .up) && x.maskLinkUp) .linkUp

theorem State.linkActive_eq (s : State) (l : LinkId) : s.linkActive l =
    (s.setLink l ((s.link l).told s.partTime)).raiseIf (decide ((s.link l).state ≠ .up)) .link := by
  have active : s.modLink l (Link.active s.partTime) = s.setLink l ((s.link l).active s.partTime) := rfl
  by_cases up : (s.link l).state = .up
  · have told : (s.link l).told s.partTime = (s.link l).active s.partTime := by
      rw [Link.told, decide_eq_false (not_not_intro up)]; rfl
    rw [told, decide_eq_false (not_not_intro up), State.linkActive]
    exact if_pos up
  · have told : (s.link l).told s.partTime = ((s.link l).active s.partTime).withControl (s.link l).maskLinkUp .linkUp := by
      rw [Link.told, decide_eq_true up, Bool.true_and]
    rw [told, decide_eq_true up, State.raiseIf_of rfl, State.linkActive]
    refine (if_neg up).trans ((State.pushMasked_raise _ l _ _).trans ?_)
    rw [State.modLink_self, State.modLink_eq, State.setLink_setLink]
    rfl

theorem Link.withControl_counters (x : Link) (passes : Bool) (e : Entry) : (x.withControl passes e).counters =
    { x.counters with controlLost := (x.withControl passes e).counters.controlLost } := by
  unfold Link.withControl
  split
  · rfl
  · split <;> rfl

theorem State.lookup_eq_none {s : State} {l : LinkId} {a : Byte} (absent : ∀ i bd, (s.station i).enabled = true →
    (s.station i).binding = some bd → bd.link = l → bd.address ≠ a) : s.lookup l a = none := by
  refine find?_finRange_eq_none fun i passes => ?_
  obtain ⟨enabled, at_⟩ := (Bool.and_eq_true _ _).mp passes
  cases bound : (s.station i).binding with
  | none => rw [bound] at at_; cases at_
  | some bd =>
    rw [bound] at at_
    obtain ⟨link, address⟩ := (Bool.and_eq_true _ _).mp at_
    exact absent i bd enabled bound (of_decide_eq_true link) (of_decide_eq_true address)

/-! ## The close of a burst (R31) -/

theorem State.linkBytes_close {s : State} {l : LinkId} {b : Burst} (on : (s.link l).state ≠ .off)
    (arriving : (s.link l).burst = some b) : s.linkBytes l [closeByte] = s.judgeBurst l b := by
  rw [State.linkBytes_on on]
  show State.linkByte l s closeByte = _
  rw [State.linkByte_close, State.closeBurst, arriving]

/-- Settles O31. -/
theorem unboundBurstIsActivityAlone : Obligations.UnboundBurstIsActivityAlone := by
  intro dt l b raw s running on arriving judged absent x up told
  refine State.event_of_eq (body := fun s => s.linkBytes l ([] ++ [closeByte])) running ?_
  have nobody : ((s.advance dt).linkActive l).lookup l raw.address = none := by
    refine State.lookup_eq_none fun i bd => ?_
    rw [State.linkActive_eq, State.raiseIf_station, State.setLink_station]
    exact absent i bd
  have isTold : ((s.advance dt).link l).told (s.advance dt).partTime = told := rfl
  have counters : told.counters.unboundBursts = x.counters.unboundBursts := by
    rw [show told.counters = _ from Link.withControl_counters up _ _]
  refine (State.linkBytes_close (s := s.advance dt) on arriving).trans ?_
  unfold State.judgeBurst
  rw [judged]
  dsimp only
  rw [nobody]
  dsimp only
  rw [State.countLink_eq, State.linkActive_eq, State.raiseIf_setLink, State.raiseIf_link, State.setLink_self,
    State.setLink_setLink, isTold, counters]
  rfl

/-! ## The damage of a request in flight (R38) -/

/-- A link whose request in flight is damaged, unless it was before (R38). -/
def Link.damaged (cause : DamageCause) (x : Link) : Link :=
  { x with backfill := x.backfill.map fun b => if b.damage = none then { b with damage := some cause } else b }

theorem State.damageRequest_kept {s : State} {l : LinkId} (cause : DamageCause)
    (kept : (s.link l).backfill = none ∨ ∃ b, (s.link l).backfill = some b ∧ b.damage ≠ none) :
    s.damageRequest l cause = s := by
  unfold State.damageRequest
  rcases kept with none | ⟨b, isB, damaged⟩
  · rw [none]
  · rw [isB]
    exact if_pos (Option.isSome_iff_ne_none.mpr damaged)

theorem State.damageRequest_new {s : State} {l : LinkId} {b : BackfillSlot} (cause : DamageCause)
    (flight : (s.link l).backfill = some b) (whole : b.damage = none) : s.damageRequest l cause =
      (s.setLink l { s.link l with backfill := some { b with damage := some cause } }).setStation b.station
        { s.station b.station with tracker := { (s.station b.station).tracker with
            gaps := (s.station b.station).tracker.gaps.map (Gap.damage b.identifier) } } := by
  unfold State.damageRequest
  rw [flight]
  dsimp only
  rw [whole, if_neg nofun, State.modTracker_eq, State.modLink_eq, State.setLink_station]

theorem State.damageRequest_link (s : State) (l : LinkId) (cause : DamageCause) (m : LinkId) :
    (s.damageRequest l cause).link m = if l = m then (s.link l).damaged cause else s.link m := by
  by_cases kept : (s.link l).backfill = none ∨ ∃ b, (s.link l).backfill = some b ∧ b.damage ≠ none
  · have same : (s.link l).damaged cause = s.link l := by
      rcases kept with none | ⟨b, isB, damaged⟩
      · rw [Link.damaged, none, Option.map_none, ← none]
      · rw [Link.damaged, isB, Option.map_some, if_neg damaged, ← isB]
    rw [State.damageRequest_kept cause kept, same]
    split
    · next here => rw [here]
    · rfl
  · cases flight : (s.link l).backfill with
    | none => exact absurd (.inl flight) kept
    | some b =>
      have whole : b.damage = none := by
        by_contra damaged
        exact kept (.inr ⟨b, flight, damaged⟩)
      rw [State.damageRequest_new cause flight whole, State.setStation_link, State.link_setLink, Link.damaged, flight,
        Option.map_some, if_pos whole]

/-! ## The failure of a burst (R32) -/

/-- A link whose burst has failed (R32). -/
def Link.failed (cause : FailCause) (x : Link) : Link :=
  { x with burst := none, lastFailure := some cause
           counters := { x.counters with checkFailures := bump x.counters.checkFailures } }

theorem State.failBurst_eq (s : State) (l : LinkId) (b : Burst) (cause : FailCause) : s.failBurst l b cause =
    ((s.setLink l ((s.link l).failed cause)).pushMasked l (s.link l).maskBurstFail
      (.burstFail b.content.head?)).damageRequest l cause.damage := by
  unfold State.failBurst
  dsimp only
  rw [State.modLink_self]
  rfl

/-- Only the first byte of the burst matters, and what the link holds of it does not (R32). -/
theorem State.failBurst_modBurst (s : State) (l : LinkId) (w : Option Burst) {b c : Burst} (cause : FailCause)
    (head : b.content.head? = c.content.head?) :
    (s.modLink l fun y => { y with burst := w }).failBurst l b cause = s.failBurst l c cause := by
  rw [State.failBurst_eq, State.failBurst_eq, State.modLink_self, State.modLink_eq, State.setLink_setLink, head]
  rfl

theorem State.failBurst_frame (s : State) (l : LinkId) (b : Burst) (cause : FailCause) :
    LinkFrame s (s.failBurst l b cause) := by
  rw [State.failBurst_eq]
  exact ((LinkFrame.setLink s l _).trans (.pushMasked _ l _ _)).trans (.damageRequest _ l _)

theorem Link.withControl_backfill (x : Link) (passes : Bool) (e : Entry) :
    (x.withControl passes e).backfill = x.backfill := by
  unfold Link.withControl
  split
  · rfl
  · split <;> rfl

/-- A link after a failed burst, field by field (R32, R36, R38). -/
theorem Link.failed_eq (x : Link) (cause : FailCause) (address : Option Byte) (code : DamageCause) :
    ((x.failed cause).withControl x.maskBurstFail (.burstFail address)).damaged code = { x with
      burst := none, lastFailure := some cause
      queue := if x.maskBurstFail = true ∧ ¬ queueSize ≤ x.queue.length then x.queue ++ [.burstFail address] else x.queue
      counters := { x.counters with
        checkFailures := bump x.counters.checkFailures
        controlLost := if x.maskBurstFail = true ∧ queueSize ≤ x.queue.length then bump x.counters.controlLost
          else x.counters.controlLost }
      backfill := x.backfill.map fun b => if b.damage = none then { b with damage := some code } else b } := by
  cases mask : x.maskBurstFail with
  | false =>
    simp only [Link.withControl, Link.damaged, Link.failed, mask, Bool.false_eq_true, false_and, if_false, if_true]
  | true =>
    by_cases full : queueSize ≤ x.queue.length
    · have noRoom : ¬ x.queue.length < queueSize := not_lt.mpr full
      simp only [Link.withControl, Link.damaged, Link.failed, mask, full, noRoom, Bool.true_eq_false, not_true_eq_false,
        and_true, and_false, if_false, if_true]
    · have room : x.queue.length < queueSize := not_le.mp full
      simp only [Link.withControl, Link.damaged, Link.failed, mask, full, room, Bool.true_eq_false, not_false_eq_true,
        and_true, and_false, if_false, if_true]

/-- A failed burst leaves what the statements say, with what else the event does to the link. -/
theorem State.failBurst_fails {s : State} (dt : Nat) (running : s.held = false) (l : LinkId) (b : Burst) (cause : FailCause)
    (more : Link → Link) : burstFails s l cause b.content.head? more
      ((((s.advance dt).failBurst l b cause).modLink l more).endEvent) := by
  have frame := (s.advance dt).failBurst_frame l b cause
  have isLink (m : LinkId) : ((s.advance dt).failBurst l b cause).link m = if l = m then
      (((s.link l).failed cause).withControl (s.link l).maskBurstFail (.burstFail b.content.head?)).damaged cause.damage
      else s.link m := by
    rw [State.failBurst_eq, State.damageRequest_link, State.pushMasked_link, if_pos rfl, State.pushMasked_link,
      State.setLink_self, State.advance_link]
    refine ite_congr rfl (fun _ => rfl) fun other => ?_
    rw [if_neg other, State.setLink_ne _ _ other, State.advance_link]
  -- the state in which the request is damaged
  generalize isP : (((s.advance dt).setLink l ((s.link l).failed cause)).pushMasked l (s.link l).maskBurstFail
    (.burstFail b.content.head?)) = u
  have eq : (s.advance dt).failBurst l b cause = u.damageRequest l cause.damage := by
    rw [State.failBurst_eq, ← isP]; rfl
  have stations : u.stations = s.stations := by rw [← isP, State.pushMasked_stations]; rfl
  have station (i : StationId) : u.station i = s.station i := by rw [State.station, stations]; rfl
  have flight : (u.link l).backfill = (s.link l).backfill := by
    rw [← isP, State.pushMasked_link, if_pos rfl, State.setLink_self, Link.withControl_backfill]; rfl
  refine ⟨?_, fun k other => ?_, fun c isC whole => ⟨fun j other => ?_, ?_⟩, fun kept => ?_, frame.reservations, frame.assembler,
    frame.held.trans running, frame.pending⟩
  · rw [State.endEvent_link, State.modLink_self, isLink, if_pos rfl, Link.failed_eq]
    cases cause <;> rfl
  · rw [State.endEvent_link, State.modLink_ne _ _ (Ne.symm other), isLink, if_neg (Ne.symm other)]
  · rw [State.endEvent_station, State.modLink_station, eq, State.damageRequest_new _ (flight.trans isC) whole,
      State.setStation_ne _ _ (Ne.symm other), State.setLink_station, station]
  · rw [State.endEvent_station, State.modLink_station, eq, State.damageRequest_new _ (flight.trans isC) whole,
      State.setStation_self, station]
    rfl
  · rw [State.endEvent_stations, State.modLink_stations, eq, State.damageRequest_kept _ (by rwa [flight]), stations]

/-! ## The causes (R31) -/

theorem take_append_two {l : List Byte} (n : Nat) : (l ++ be 2 n).take ((l ++ be 2 n).length - 2) = l := by
  simp

theorem drop_append_two {l : List Byte} (n : Nat) : (l ++ be 2 n).drop ((l ++ be 2 n).length - 2) = be 2 n := by
  simp

theorem ofBe_check (x : BitVec 16) : ofBe (be 2 x.toNat) = x.toNat := ofBe_be_of_lt x.isLt

/-- What header and entries give once the check has passed (R31). -/
def divided (covered : List Byte) : Except FailCause RawBurst :=
  match covered with
  | address :: flags :: n :: rest =>
    if n.toNat = 0 ∨ 16 < n.toNat then .error .length
    else match divideEntries n.toNat rest with
      | some es => .ok { address := address, restart := flags.getLsbD 0, entries := es }
      | none => .error .length
  | _ => .error .length

/-- The judgement of a whole burst with a check (R31). -/
theorem Burst.judge_eq {b : Burst} {covered : List Byte} {check : BitVec 16} (whole : b.escaped = false)
    (good : b.badEscape = false) (content : b.content = covered ++ be 2 check.toNat) :
    b.judge = if crc b.seed covered ≠ check then .error .check else divided covered := by
  have long : ¬ b.content.length < 2 := by rw [content]; simp
  have same : ((crc b.seed covered).toNat ≠ check.toNat) ↔ crc b.seed covered ≠ check := not_congr BitVec.toNat_inj
  unfold Burst.judge
  rw [whole, good, decide_eq_false long, content, take_append_two, drop_append_two]
  dsimp only
  rw [ofBe_check]
  simp only [Bool.or_self, Bool.false_eq_true, if_false, same]
  rfl

theorem Burst.judge_good {b : Burst} {covered : List Byte} (whole : b.escaped = false) (good : b.badEscape = false)
    (content : b.content = covered ++ be 2 (crc b.seed covered).toNat) : b.judge = divided covered :=
  (Burst.judge_eq whole good content).trans (if_neg (not_not_intro rfl))

theorem divided_short {covered : List Byte} (short : covered.length < 3) : divided covered = .error .length := by
  match covered, short with
  | [], _ => rfl
  | [_], _ => rfl
  | [_, _], _ => rfl
  | _ :: _ :: _ :: _, h =>
    simp only [List.length_cons] at h
    omega

theorem divided_number {address flags n : Byte} (rest : List Byte) (wrong : n = 0 ∨ 16 < n) :
    divided (address :: flags :: n :: rest) = .error .length := by
  refine if_pos (wrong.imp (fun h => ?_) fun h => ?_)
  · rw [h]; rfl
  · exact BitVec.lt_def.mp h

theorem divided_unfilled {address flags n : Byte} {rest : List Byte} (none : divideEntries n.toNat rest = none) :
    divided (address :: flags :: n :: rest) = .error .length := by
  simp only [divided, none, ite_self]

theorem Burst.judge_cut {b : Burst} (cut : b.content.length < 2 ∨ b.escaped = true ∨ b.badEscape = true) :
    b.judge = .error .length := by
  unfold Burst.judge
  refine if_pos ?_
  rcases cut with short | escaped | bad
  · simp [short]
  · simp [escaped]
  · simp [bad]

theorem ofBe_lt (l : List Byte) : ofBe l < 256 ^ l.length := by
  have fits := ofBe_be l.length (ofBe l)
  rw [be_ofBe] at fits
  rw [fits]
  exact Nat.mod_lt _ (by positivity)

/-- What divides into entries is what they are written with (R197). -/
theorem divideEntries_some : ∀ {k : Nat} {l : List Byte} {es : List RawEntry}, divideEntries k l = some es →
    es.length = k ∧ (∀ e ∈ es, e.content.length < 65536) ∧
      l = es.flatMap fun e => e.kind :: (be 2 e.content.length ++ e.content)
  | 0, [], es, h => by
    obtain rfl := Option.some.inj h
    exact ⟨rfl, nofun, rfl⟩
  | 0, _ :: _, _, h => by cases h
  | k + 1, [], _, h => by cases h
  | k + 1, [_], _, h => by cases h
  | k + 1, [_, _], _, h => by cases h
  | k + 1, kind :: hi :: lo :: rest, es, h => by
    simp only [divideEntries] at h
    split at h
    · next fits =>
      split at h
      · next es' divided =>
        obtain rfl := Option.some.inj h
        obtain ⟨length, small, spelled⟩ := divideEntries_some divided
        have size : (rest.take (ofBe [hi, lo])).length = ofBe [hi, lo] := List.length_take_of_le fits
        have pair : be 2 (ofBe [hi, lo]) = [hi, lo] := be_ofBe [hi, lo]
        refine ⟨by rw [List.length_cons, length], fun e mem => ?_, ?_⟩
        · rcases List.mem_cons.mp mem with rfl | later
          · have small : ofBe [hi, lo] < 256 ^ 2 := ofBe_lt [hi, lo]
            rw [size]
            omega
          · exact small e later
        · rw [List.flatMap_cons, size, pair, ← spelled]
          simp
      · cases h
    · cases h

theorem divideEntries_none {k : Nat} {l : List Byte} (unfilled : ∀ es : List RawEntry, es.length = k →
    (∀ e ∈ es, e.content.length < 65536) → l ≠ es.flatMap fun e => e.kind :: (be 2 e.content.length ++ e.content)) :
    divideEntries k l = none := by
  cases divided : divideEntries k l with
  | none => rfl
  | some es =>
    obtain ⟨length, small, spelled⟩ := divideEntries_some divided
    exact absurd spelled (unfilled es length small)

/-! ## The bytes of a burst (R30, R197) -/

theorem State.contentByte_arriving {s : State} {l : LinkId} {b : Burst} (arriving : (s.link l).burst = some b)
    (room : b.received < 16384) (x : Byte) :
    s.contentByte l x = s.modLink l fun y => { y with burst := some (b.receive x) } := by
  rw [State.contentByte, arriving]
  exact if_neg (show ¬ burstLimit < b.received + 1 by unfold burstLimit; omega)

theorem State.contentByte_past {s : State} {l : LinkId} {b : Burst} (arriving : (s.link l).burst = some b)
    (full : b.received = 16384) (x : Byte) : s.contentByte l x = s.failBurst l (b.receive x) .length := by
  rw [State.contentByte, arriving]
  exact if_pos (show burstLimit < b.received + 1 by unfold burstLimit; omega)

theorem Burst.receive_escape {b : Burst} (whole : b.escaped = false) :
    b.receive escapeByte = { b with received := b.received + 1, escaped := true } := by
  simp only [Burst.receive, whole, Bool.false_eq_true, if_false, if_true]

theorem Burst.receive_bad {b : Burst} {c : Byte} (escaped : b.escaped = true) (bad : c ∉ ([0xF5, 0xF6, 0xF7] : List Byte)) :
    b.receive c = { b with received := b.received + 1, escaped := false, badEscape := true } := by
  have other : ¬ (c = 0xF5 ∨ c = 0xF6 ∨ c = 0xF7) := by simpa using bad
  simp only [Burst.receive, escaped, if_true, other, if_false]

/-- What has arrived of a burst stays its beginning. -/
theorem Burst.receive_head {b : Burst} {a : Byte} {rest : List Byte} (content : b.content = a :: rest) (c : Byte) :
    (b.receive c).content.head? = some a := by
  unfold Burst.receive
  dsimp only
  split
  · split
    · rw [content]; rfl
    · rw [content]; rfl
  · split
    · rw [content]; rfl
    · rw [content]; rfl

/-- Settles O32. -/
theorem burstsFailWithTheirCause : Obligations.BurstsFailWithTheirCause := by
  intro dt l b s running on arriving
  have fails (cause : FailCause) (address : Option Byte) (head : b.content.head? = address) :
      burstFails s l cause address id (((s.advance dt).failBurst l b cause).endEvent) := by
    have h := State.failBurst_fails dt running l b cause id
    rw [head, State.modLink_eq, id, State.setLink_link] at h
    exact h
  -- a burst judged at its closing delimiter
  have closes (cause : FailCause) (address : Option Byte) (head : b.content.head? = address)
      (judged : b.judge = .error cause) : ∃ t, exec (.burstClose dt l []) s = .next t ∧ burstFails s l cause address id t := by
    refine ⟨_, State.event_of_eq (body := fun s => s.linkBytes l ([] ++ [closeByte])) running ?_, fails cause address head⟩
    refine (State.linkBytes_close (s := s.advance dt) on arriving).trans ?_
    simp only [State.judgeBurst, judged]
  have first {a flags n : Byte} {rest more : List Byte} (content : b.content = a :: flags :: n :: rest ++ more) :
      b.content.head? = some a := by rw [content]; rfl
  refine ⟨fun covered check whole good content wrong => closes _ _ rfl ?_, fun cut => closes _ _ rfl ?_,
    fun c clean bad whole room => ?_, fun a flags n rest whole good content unfilled => closes _ _ (first content) ?_,
    fun a flags n rest whole good content wrong => closes _ _ (first content) ?_, ?_, ?_, fun c a rest clean full content => ?_⟩
  · exact (Burst.judge_eq whole good content).trans (if_pos (Ne.symm wrong))
  · by_cases early : b.content.length < 2 ∨ b.escaped = true ∨ b.badEscape = true
    · exact Burst.judge_cut early
    · simp only [not_or, Bool.not_eq_true] at early
      obtain ⟨long, whole, good⟩ := early
      obtain ⟨covered, short, content⟩ : ∃ covered, covered.length < 3 ∧
          b.content = covered ++ be 2 (crc b.seed covered).toNat := by
        rcases cut with h | h | h | h
        · exact absurd h long
        · rw [whole] at h; cases h
        · rw [good] at h; cases h
        · exact h
      exact (Burst.judge_good whole good content).trans (divided_short short)
  · obtain ⟨⟨noOpen, noClose⟩, _⟩ := noDelimiter_cons.mp clean
    let b₁ : Burst := { b with received := b.received + 1, escaped := true }
    let b₂ : Burst := { b with received := b.received + 2, escaped := false, badEscape := true }
    have escape : State.linkByte l (s.advance dt) escapeByte = (s.advance dt).modLink l fun y => { y with burst := some b₁ } := by
      rw [State.linkByte_content l _ (by decide) (by decide),
        State.contentByte_arriving (s := s.advance dt) arriving (by omega), Burst.receive_escape whole]
    have second : State.linkByte l ((s.advance dt).modLink l fun y => { y with burst := some b₁ }) c =
        (s.advance dt).modLink l fun y => { y with burst := some b₂ } := by
      rw [State.linkByte_content l _ noOpen noClose, State.contentByte_arriving (b := b₁) (by rw [State.modLink_self])
        (show b.received + 1 < 16384 by omega), State.modLink_modLink, Burst.receive_bad rfl bad]
    have closing : State.linkByte l ((s.advance dt).modLink l fun y => { y with burst := some b₂ }) closeByte =
        (s.advance dt).failBurst l b .length := by
      have judged : b₂.judge = .error .length := Burst.judge_cut (.inr (.inr rfl))
      rw [State.linkByte_close, State.closeBurst, State.modLink_self]
      dsimp only
      rw [State.judgeBurst, judged]
      exact State.failBurst_modBurst _ l _ _ rfl
    refine ⟨_, State.event_of_eq (body := fun s => s.linkBytes l ([escapeByte, c] ++ [closeByte])) running ?_, fails _ _ rfl⟩
    rw [State.linkBytes_on (s := s.advance dt) on]
    show State.linkByte l (State.linkByte l (State.linkByte l (s.advance dt) escapeByte) c) closeByte = _
    rw [escape, second, closing]
  · exact (Burst.judge_good whole good content).trans (divided_unfilled (divideEntries_none unfilled))
  · exact (Burst.judge_good whole good content).trans (divided_number rest wrong)
  · have cut : (s.advance dt).carrierFalls l [] =
        ((s.advance dt).failBurst l b .length).modLink l fun x => if x.state = .up ∨ x.state = .silent then
          { x with carrierDue := some ((s.advance dt).partTime + x.carrierLoss * 10) } else x := by
      have bytes : (s.advance dt).linkBytes l [] = s.advance dt := State.linkBytes_on (s := s.advance dt) on []
      have cut : (s.advance dt).cutBurst l = (s.advance dt).failBurst l b .length := by
        rw [State.cutBurst, State.advance_link, arriving]
      rw [State.carrierFalls, if_neg (by rw [State.advance_link]; exact on), bytes]
      dsimp only
      rw [cut, ((s.advance dt).failBurst_frame l b .length).partTime]
      refine congrArg (State.modLink _ l) (funext fun x => ?_)
      rw [Link.startCarrier]
      exact if_congr (LinkState.sends_iff x.state) rfl rfl
    exact ⟨_, State.event_of_eq (body := fun s => s.carrierFalls l []) running cut, State.failBurst_fails dt running l b _ _⟩
  · have opens : (s.advance dt).linkBytes l ([] ++ [openByte]) = ((s.advance dt).failBurst l b .length).modLink l fun x =>
        { x with burst := some (Burst.opened
          { time := (s.advance dt).timebase.hubTime, hub := s.timebase.hubState } x.seed) } := by
      have cut : (s.advance dt).cutBurst l = (s.advance dt).failBurst l b .length := by
        rw [State.cutBurst, State.advance_link, arriving]
      have stamp : ((s.advance dt).failBurst l b .length).stamp = (s.advance dt).stamp := by
        rw [State.stamp, ((s.advance dt).failBurst_frame l b .length).timebase]; rfl
      rw [State.linkBytes_on (s := s.advance dt) on]
      show State.linkByte l (s.advance dt) openByte = _
      rw [State.linkByte_open, State.openBurst]
      rw [cut, stamp]
      rfl
    exact ⟨_, State.event_of_eq (body := fun s => s.linkBytes l ([] ++ [openByte])) running opens,
      State.failBurst_fails dt running l b _ _⟩
  · obtain ⟨⟨noOpen, noClose⟩, _⟩ := noDelimiter_cons.mp clean
    refine ⟨_, State.event_of_eq (body := fun s => s.linkBytes l [c]) running ?_, fails _ _ (by rw [content]; rfl)⟩
    rw [State.linkBytes_on (s := s.advance dt) on]
    show State.linkByte l (s.advance dt) c = _
    rw [State.linkByte_content l _ noOpen noClose, State.contentByte_past (s := s.advance dt) arriving full,
      State.failBurst_eq, State.failBurst_eq, Burst.receive_head content, content]
    rfl

end Sys2Proof.Machine
end

section
/-! PROOF. Bursts of records (R30 to R35, R38, R44): the line back to its bytes, the entries as they are read, and the queue
they enter; O30. -/

namespace Sys2Proof.Machine

/-! ## The bytes of a line (R197) -/

/-- Bytes received into a burst under way enter it one by one (R30). -/
theorem State.linkByte_foldl {l : LinkId} : ∀ {bytes : List Byte} {s : State} {b : Burst}, noDelimiter bytes = true →
    (s.link l).burst = some b → b.received + bytes.length ≤ 16384 →
    bytes.foldl (State.linkByte l) s = s.modLink l fun y => { y with burst := some (bytes.foldl Burst.receive b) }
  | [], s, b, _, arriving, _ => by
    rw [List.foldl_nil, List.foldl_nil, State.modLink_eq, ← arriving]
    exact (State.setLink_link s l).symm
  | x :: xs, s, b, clean, arriving, room => by
    obtain ⟨⟨noOpen, noClose⟩, rest⟩ := noDelimiter_cons.mp clean
    rw [List.length_cons] at room
    have received : (b.receive x).received = b.received + 1 := by
      unfold Burst.receive
      dsimp only
      split
      · split <;> rfl
      · split <;> rfl
    rw [List.foldl_cons, List.foldl_cons, State.linkByte_content l s noOpen noClose,
      State.contentByte_arriving arriving (by omega),
      State.linkByte_foldl rest (b := b.receive x) (by rw [State.modLink_self]) (by omega), State.modLink_modLink]

/-- A stuffed byte is read back (R197). -/
theorem Burst.receive_stuffByte {b : Burst} (whole : b.escaped = false) (x : Byte) : (stuffByte x).foldl Burst.receive b =
    { b with received := b.received + (stuffByte x).length, content := b.content ++ [x] } := by
  unfold stuffByte
  split
  · next special =>
    have back : x + 0x10 = 0xF5 ∨ x + 0x10 = 0xF6 ∨ x + 0x10 = 0xF7 := by
      rcases special with rfl | rfl | rfl <;> decide
    have same : x + 0x10 - 0x10 = x := BitVec.add_sub_cancel x _
    rw [List.foldl_cons, List.foldl_cons, List.foldl_nil, Burst.receive_escape whole]
    simp only [Burst.receive, if_true, if_pos back, same, List.length_cons, List.length_nil]
    rw [whole]
  · next plain =>
    have notEscape : x ≠ escapeByte := fun h => plain (.inl h)
    rw [List.foldl_cons, List.foldl_nil]
    simp only [Burst.receive, whole, Bool.false_eq_true, if_false, if_neg notEscape, List.length_singleton]

theorem Burst.receive_stuff : ∀ (data : List Byte) {b : Burst}, b.escaped = false → (stuff data).foldl Burst.receive b =
    { b with received := b.received + (stuff data).length, content := b.content ++ data }
  | [], b, _ => by simp [stuff]
  | x :: xs, b, whole => by
    have step : stuff (x :: xs) = stuffByte x ++ stuff xs := rfl
    rw [step, List.foldl_append, Burst.receive_stuffByte whole, Burst.receive_stuff xs (by exact whole)]
    simp [Nat.add_assoc]

theorem noDelimiter_append {xs ys : List Byte} (hx : noDelimiter xs = true) (hy : noDelimiter ys = true) :
    noDelimiter (xs ++ ys) = true := by
  rw [noDelimiter, List.all_append, Bool.and_eq_true]
  exact ⟨hx, hy⟩

theorem noDelimiter_stuff : ∀ data : List Byte, noDelimiter (stuff data) = true
  | [] => rfl
  | x :: xs => by
    refine noDelimiter_append (xs := stuffByte x) ?_ (noDelimiter_stuff xs)
    unfold stuffByte
    split
    · next special => rcases special with rfl | rfl | rfl <;> decide
    · next plain =>
      simp only [not_or] at plain
      exact noDelimiter_cons.mpr ⟨plain.2, rfl⟩

theorem length_le_stuff (data : List Byte) : data.length ≤ (stuff data).length := by
  induction data with
  | nil => exact Nat.le_refl _
  | cons x xs ih =>
    have step : stuff (x :: xs) = stuffByte x ++ stuff xs := rfl
    have one : 1 ≤ (stuffByte x).length := by unfold stuffByte; split <;> simp
    rw [step, List.length_append, List.length_cons]
    omega

/-! ## The entries divided again (R31, R197) -/

theorem divideEntries_spelled : ∀ (es : List RawEntry), (∀ e ∈ es, e.content.length < 65536) →
    divideEntries es.length (es.flatMap fun e => e.kind :: (be 2 e.content.length ++ e.content)) = some es
  | [], _ => rfl
  | e :: es, small => by
    have size : e.content.length < 256 ^ 2 := by have := small e (by simp); omega
    have pair : be 2 e.content.length = [BitVec.ofNat 8 (e.content.length / 256), BitVec.ofNat 8 e.content.length] := by
      simp [be]
    have number : ofBe [BitVec.ofNat 8 (e.content.length / 256), BitVec.ofNat 8 e.content.length] = e.content.length := by
      rw [← pair]
      exact ofBe_be_of_lt size
    rw [List.flatMap_cons, pair, List.length_cons]
    simp only [List.cons_append, List.nil_append, divideEntries, number]
    rw [if_pos (by simp), List.drop_left, divideEntries_spelled es fun x mem => small x (by simp [mem])]
    simp

/-- A burst's header and entries, divided, are what was written (R31, R197). -/
theorem divided_burstCovered {address : Byte} {restart : Bool} {es : List RawEntry} (few : 1 ≤ es.length)
    (many : es.length ≤ 16) (small : ∀ e ∈ es, e.content.length < 65536) :
    divided (burstCovered address (boolByte restart) es) =
      .ok { address := address, restart := restart, entries := es } := by
  have number : (BitVec.ofNat 8 es.length).toNat = es.length := by
    rw [BitVec.toNat_ofNat]
    exact Nat.mod_eq_of_lt (by omega)
  have flag : (boolByte restart).getLsbD 0 = restart := by cases restart <;> rfl
  simp only [burstCovered, divided, number, divideEntries_spelled es small, flag]
  rw [if_neg (by omega)]

theorem content_lt_of_line {address flags : Byte} {es : List RawEntry} {seed : BitVec 16}
    (short : (stuff (burstCovered address flags es ++ be 2 (crc seed (burstCovered address flags es)).toNat)).length ≤ 16384)
    {e : RawEntry} (mem : e ∈ es) : e.content.length < 65536 := by
  have whole := Nat.le_trans (length_le_stuff _) short
  have part : e.content.length ≤ (es.flatMap fun e => e.kind :: (be 2 e.content.length ++ e.content)).length := by
    clear whole short
    induction es with
    | nil => cases mem
    | cons x xs ih =>
      rw [List.flatMap_cons, List.length_append, List.length_cons, List.length_append]
      rcases List.mem_cons.mp mem with rfl | later
      · omega
      · have := ih later
        omega
  simp only [List.length_append, burstCovered, List.length_cons] at whole
  omega

/-! ## An entry read (R34) -/

/-- What the format test says of an entry that is queued as it is. -/
def Entry.checked (e : Entry) : Checked :=
  match e with
  | .damaged _ kind fault => .damaged kind fault
  | e => .ready e

theorem ofBe_byte (b : Byte) : ofBe [b] = b.toNat := by simp [ofBe]

/-- A field of a content by its place and length. -/
theorem take_drop_middle {n k : Nat} {pre mid post : List Byte} (place : pre.length = n) (length : mid.length = k) :
    ((pre ++ (mid ++ post)).drop n).take k = mid := by
  rw [List.drop_left' place, List.take_left' length]

/-- The fields of a DATA content by their places. -/
theorem data_places {a b c d p l : List Byte} (isL : l = a ++ b ++ c ++ d ++ p) (ha : a.length = 2) (hb : b.length = 5)
    (hc : c.length = 2) (hd : d.length = 1) : l.length = 10 + p.length ∧ l.take 2 = a ∧ (l.drop 2).take 5 = b ∧
      (l.drop 7).take 2 = c ∧ (l.drop 9).take 1 = d ∧ l.drop 10 = p := by
  subst isL
  refine ⟨?_, ?_, ?_, ?_, ?_, List.drop_left' (by simp [ha, hb, hc, hd])⟩
  · simp only [List.length_append]; omega
  · simpa only [List.append_assoc] using List.take_left' ha
  · simpa only [List.append_assoc] using take_drop_middle ha hb
  · simpa only [List.append_assoc] using take_drop_middle (pre := a ++ b) (post := d ++ p) (by simp [ha, hb]) hc
  · simpa only [List.append_assoc] using take_drop_middle (pre := a ++ b ++ c) (post := p) (by simp [ha, hb, hc]) hd

/-- The fields of a MARK content by their places. -/
theorem mark_places {a b c d l : List Byte} (isL : l = a ++ b ++ c ++ d) (ha : a.length = 5) (hb : b.length = 4)
    (hc : c.length = 4) (hd : d.length = 1) : l.length = 14 ∧ l.take 5 = a ∧ (l.drop 5).take 4 = b ∧
      (l.drop 9).take 4 = c ∧ (l.drop 13).take 1 = d := by
  subst isL
  refine ⟨?_, ?_, ?_, ?_, ?_⟩
  · simp only [List.length_append]; omega
  · simpa only [List.append_assoc] using List.take_left' ha
  · simpa only [List.append_assoc] using take_drop_middle ha hb
  · simpa only [List.append_assoc] using take_drop_middle (pre := a ++ b) (post := d) (by simp [ha, hb]) hc
  · simpa only [List.append_assoc, List.append_nil] using
      take_drop_middle (pre := a ++ b ++ c) (post := []) (by simp [ha, hb, hc]) hd

section Reads

variable {i : StationId} {period components : Nat}

theorem checkEntry_data {content : List Byte} : checkEntry i period components ⟨1, content⟩ =
    match dataFault components content with
    | some f => .damaged 1 f
    | none => .ready (.data (dataFields i content)) := rfl

theorem checkEntry_faulty {content : List Byte} {f : EntryFault} (fault : dataFault components content = some f) :
    checkEntry i period components ⟨1, content⟩ = .damaged 1 f := by rw [checkEntry_data, fault]

/-- The fault of a DATA entry that is long enough, by its fields (R34). -/
theorem dataFault_eq (seq : Seq) (k : Counter40) {n : Nat} (m : Byte) (payload : List Byte) (small : n < 65536) :
    dataFault components (be 2 seq.toNat ++ be 5 k.toNat ++ be 2 n ++ [m] ++ payload) =
      if n = 0 then some .empty
      else if m.toNat ≠ components then some .components
      else if 300 < n * m.toNat ∨ payload.length ≠ n * m.toNat * 3 then some .size
      else none := by
  obtain ⟨length, _, _, isN, isM, _⟩ := data_places rfl (be_length 2 seq.toNat) (be_length 5 k.toNat) (be_length 2 n)
    (List.length_singleton (a := m)) (p := payload)
  have number : ofBe (be 2 n) = n := ofBe_be_of_lt small
  have long : (10 + payload.length ≠ 10 + n * m.toNat * 3) ↔ payload.length ≠ n * m.toNat * 3 := by omega
  unfold dataFault
  rw [isN, isM, length, number, ofBe_byte]
  simp only [long]
  exact if_neg (by omega)

theorem be_one (b : Byte) : be 1 b.toNat = [b] := by simp [be]

theorem checkEntry_record {r : Record} (own : r.station = i) (some : 1 ≤ r.n) (isM : r.components = components)
    (few : components ≤ 3) (positive : 1 ≤ components) (fits : r.n * r.components ≤ 300)
    (payload : r.payload.length = r.n * r.components * 3) :
    checkEntry i period components ⟨1, dataContent r⟩ = .ready (.data r) := by
  have low : r.n ≤ 300 := Nat.le_trans (Nat.le_mul_of_pos_right _ (by omega)) fits
  have byte : (BitVec.ofNat 8 r.components).toNat = r.components := by
    rw [BitVec.toNat_ofNat]
    exact Nat.mod_eq_of_lt (by omega)
  have spelled : dataContent r = be 2 r.seq.toNat ++ be 5 r.kFirst.toNat ++ be 2 r.n ++ [BitVec.ofNat 8 r.components] ++
      r.payload := by
    rw [dataContent, ← be_one, byte]
  have sound : dataFault components (dataContent r) = none := by
    rw [spelled, dataFault_eq _ _ _ _ (by omega), byte, if_neg (by omega), if_neg (not_not_intro isM), if_neg]
    exact fun h => h.elim (fun h => absurd fits (not_le.mpr h)) fun h => h payload
  obtain ⟨_, isSeq, isK, isN, isC, isP⟩ := data_places spelled (be_length 2 r.seq.toNat) (be_length 5 r.kFirst.toNat)
    (be_length 2 r.n) List.length_singleton
  rw [checkEntry_data, sound]
  dsimp only
  rw [dataFields, isSeq, isK, isN, isC, isP, ofNat_ofBe_be r.seq rfl, ofNat_ofBe_be r.kFirst rfl, ofBe_byte, byte,
    ofBe_be_of_lt (by omega), ← own]

theorem checkEntry_long_mark {content : List Byte} (length : content.length = 14) :
    checkEntry i period components ⟨2, content⟩ =
      if period ≤ (BitVec.ofNat 32 (ofBe ((content.drop 5).take 4))).toNat then .damaged 2 .phase
      else .ready (.mark i (BitVec.ofNat 40 (ofBe (content.take 5))) (BitVec.ofNat 32 (ofBe ((content.drop 5).take 4)))
        (BitVec.ofNat 32 (ofBe ((content.drop 9).take 4)))
        ((BitVec.ofNat 8 (ofBe ((content.drop 13).take 1)) : Byte).getLsbD 0)) :=
  if_neg (t := Checked.damaged 2 .size) (not_not_intro length)

theorem checkEntry_long_echo {content : List Byte} (length : content.length = 10) :
    checkEntry i period components ⟨3, content⟩ = .echo (BitVec.ofNat 8 (ofBe (content.take 1)))
      (BitVec.ofNat 40 (ofBe ((content.drop 1).take 5))) (BitVec.ofNat 32 (ofBe ((content.drop 6).take 4))) :=
  if_neg (t := Checked.damaged 3 .size) (not_not_intro length)

theorem checkEntry_mark (km : Counter40) (p sec : BitVec 32) (flags : Byte) :
    checkEntry i period components ⟨2, be 5 km.toNat ++ be 4 p.toNat ++ be 4 sec.toNat ++ [flags]⟩ =
      if period ≤ p.toNat then .damaged 2 .phase else .ready (.mark i km p sec (flags.getLsbD 0)) := by
  obtain ⟨length, isK, isP, isS, isF⟩ := mark_places rfl (be_length 5 km.toNat) (be_length 4 p.toNat)
    (be_length 4 sec.toNat) (List.length_singleton (a := flags))
  rw [checkEntry_long_mark length, isK, isP, isS, isF, ofNat_ofBe_be km rfl, ofNat_ofBe_be p rfl, ofNat_ofBe_be sec rfl,
    ofBe_byte, BitVec.ofNat_toNat, BitVec.setWidth_eq]

theorem checkEntry_echo (identifier : Byte) (kr : Counter40) (tau : BitVec 32) :
    checkEntry i period components ⟨3, identifier :: be 5 kr.toNat ++ be 4 tau.toNat⟩ = .echo identifier kr tau := by
  have spelled : identifier :: be 5 kr.toNat ++ be 4 tau.toNat = [identifier] ++ (be 5 kr.toNat ++ be 4 tau.toNat) := rfl
  have isI : ([identifier] ++ (be 5 kr.toNat ++ be 4 tau.toNat)).take 1 = [identifier] := rfl
  have isK := take_drop_middle (n := 1) (pre := [identifier]) (post := be 4 tau.toNat) rfl (be_length 5 kr.toNat)
  have isT := take_drop_middle (n := 6) (pre := [identifier] ++ be 5 kr.toNat) (post := []) (by simp) (be_length 4 tau.toNat)
  rw [List.append_nil, List.append_assoc] at isT
  rw [spelled, checkEntry_long_echo (by simp), isI, isK, isT, ofNat_ofBe_be kr rfl, ofNat_ofBe_be tau rfl, ofBe_byte,
    BitVec.ofNat_toNat, BitVec.setWidth_eq]

theorem checkEntry_otherKind {kind : Byte} (content : List Byte) (other : kind = 0 ∨ 4 < kind) :
    checkEntry i period components ⟨kind, content⟩ = .damaged kind .kind := by
  have number : kind.toNat = 0 ∨ 4 < kind.toNat := other.imp (fun h => by rw [h]; rfl) BitVec.lt_def.mp
  unfold checkEntry
  dsimp only
  split
  · next is => omega
  · next is => omega
  · next is => omega
  · next is => omega
  · rfl

theorem checkEntry_wrongLength {kind : Byte} {content : List Byte}
    (wrong : (kind = 1 ∧ content.length < 10) ∨ (kind = 2 ∧ content.length ≠ 14) ∨ (kind = 3 ∧ content.length ≠ 10) ∨
      (kind = 4 ∧ content.length ≠ 2)) : checkEntry i period components ⟨kind, content⟩ = .damaged kind .size := by
  rcases wrong with ⟨rfl, length⟩ | ⟨rfl, length⟩ | ⟨rfl, length⟩ | ⟨rfl, length⟩
  · exact checkEntry_faulty (if_pos length)
  · exact if_pos length
  · exact if_pos length
  · match content, length with
    | [], _ => rfl
    | [_], _ => rfl
    | [_, _], h => exact absurd rfl h
    | _ :: _ :: _ :: _, _ => rfl

/-- An entry is read as the statements say (R34). -/
theorem EntryReads.checked {raw : RawEntry} {e : Entry} (positive : 1 ≤ components) (few : components ≤ 3)
    (reads : EntryReads i period components raw e) : checkEntry i period components raw = e.checked := by
  cases reads with
  | data r own some isM fits payload => exact checkEntry_record own some isM few positive fits payload
  | mark km p sec flags early => exact (checkEntry_mark km p sec flags).trans (if_neg (not_le.mpr early))
  | fillEnd identifier st => cases st <;> rfl
  | otherKind kind content other => exact checkEntry_otherKind content other
  | wrongLength kind content wrong => exact checkEntry_wrongLength wrong
  | noSample seq k m payload =>
    refine checkEntry_faulty ?_
    have fault := dataFault_eq (components := components) seq k (n := 0) m payload (by decide)
    rw [List.append_assoc _ [m]] at fault
    exact fault.trans (if_pos rfl)
  | otherComponents seq k n m payload some few other =>
    refine checkEntry_faulty ?_
    have fault := dataFault_eq (components := components) seq k (n := n) m payload (by omega)
    rw [List.append_assoc _ [m]] at fault
    exact fault.trans ((if_neg (by omega)).trans (if_pos other))
  | wrongSize seq k n m payload some few isM wrong =>
    refine checkEntry_faulty ?_
    have fault := dataFault_eq (components := components) seq k (n := n) m payload (by omega)
    rw [List.append_assoc _ [m]] at fault
    exact fault.trans ((if_neg (by omega)).trans ((if_neg (not_not_intro isM)).trans (if_pos wrong)))
  | latePhase km p sec flags late => exact (checkEntry_mark km p sec flags).trans (if_pos late)
  | otherStatus identifier status other =>
    have unknown : statusOf status = none := by
      have number : status.toNat = 0 ∨ 3 < status.toNat := other.imp (fun h => by rw [h]; rfl) BitVec.lt_def.mp
      unfold statusOf
      split
      · omega
      · omega
      · omega
      · rfl
    show (match statusOf status with
      | some x => Checked.ready (.fillEnd i identifier x)
      | none => .damaged 4 .status) = _
    rw [unknown]
    rfl

end Reads

end Sys2Proof.Machine
end

section
/-! PROOF. The queue that a matched burst enters (R34, R35, R38, R44); O30. -/

namespace Sys2Proof.Machine

/-! ## Notices and changes of a link -/

theorem State.raiseIf_raise (s : State) (b : Bool) (k : NoticeKind) : (s.raiseIf b k).raise k = s.raise k := by
  cases b with
  | false => rfl
  | true => exact State.raise_raise s k

theorem Port.raise_comm (x : Port) (j k : NoticeKind) : (x.raise j).raise k = (x.raise k).raise j := by
  simp only [Port.raise, Port.mk.injEq, true_and, and_true]
  rw [BitVec.or_assoc, BitVec.or_comm (j.bit &&& x.mask), ← BitVec.or_assoc]

theorem State.raiseIf_comm (s : State) (a b : Bool) (j k : NoticeKind) :
    (s.raiseIf a j).raiseIf b k = (s.raiseIf b k).raiseIf a j := by
  cases a with
  | false => rfl
  | true =>
    cases b with
    | false => rfl
    | true =>
      show (s.raise j).raise k = (s.raise k).raise j
      simp only [State.raise, Port.raise_comm]

theorem State.raiseIf_modLink (s : State) (b : Bool) (k : NoticeKind) (l : LinkId) (f : Link → Link) :
    (s.raiseIf b k).modLink l f = (s.modLink l f).raiseIf b k := by
  rw [State.modLink_eq, State.raiseIf_setLink, State.raiseIf_link, State.modLink_eq]

theorem State.raiseIf_setStation (s : State) (b : Bool) (k : NoticeKind) (i : StationId) (x : Station) :
    (s.raiseIf b k).setStation i x = (s.setStation i x).raiseIf b k := by
  cases b <;> rfl

theorem State.raiseIf_damageRequest (s : State) (b : Bool) (k : NoticeKind) (l : LinkId) (cause : DamageCause) :
    (s.raiseIf b k).damageRequest l cause = (s.damageRequest l cause).raiseIf b k := by
  unfold State.damageRequest
  rw [State.raiseIf_link]
  split
  · rfl
  · split
    · rfl
    · rw [State.modTracker_eq, State.modTracker_eq, State.raiseIf_modLink, State.raiseIf_setStation, State.raiseIf_station]

/-! ## Damage of a request, once and for all (R38) -/

theorem State.damageRequest_twice (s : State) (l : LinkId) (c d : DamageCause) :
    (s.damageRequest l c).damageRequest l d = s.damageRequest l c := by
  refine State.damageRequest_kept d ?_
  rw [State.damageRequest_link, if_pos rfl, Link.damaged]
  cases flight : (s.link l).backfill with
  | none => exact .inl rfl
  | some b =>
    refine .inr ⟨_, rfl, ?_⟩
    dsimp only
    split
    · exact nofun
    · next damaged => exact damaged

theorem State.damageRequest_countLink (s : State) (l : LinkId) (f : LinkCounters → LinkCounters) (cause : DamageCause) :
    (s.damageRequest l cause).countLink l f = (s.countLink l f).damageRequest l cause := by
  have same : ((s.countLink l f).link l).backfill = (s.link l).backfill := by rw [State.countLink, State.modLink_self]
  by_cases kept : (s.link l).backfill = none ∨ ∃ b, (s.link l).backfill = some b ∧ b.damage ≠ none
  · rw [State.damageRequest_kept cause kept, State.damageRequest_kept cause (by rwa [same])]
  · cases flight : (s.link l).backfill with
    | none => exact absurd (.inl flight) kept
    | some b =>
      have whole : b.damage = none := by
        by_contra damaged
        exact kept (.inr ⟨b, flight, damaged⟩)
      rw [State.damageRequest_new cause flight whole, State.damageRequest_new cause (same.trans flight) whole,
        State.countLink_eq, State.countLink_eq, State.setStation_link, State.setLink_self, State.setStation_setLink,
        State.setLink_setLink, State.setLink_self, State.setLink_setLink, State.setLink_station]

/-! ## Damaged entries counted (R34, R38) -/

theorem bump_bumpBy (n k : Nat) : bump (bumpBy n k) = bumpBy n (k + 1) := by
  unfold bump bumpBy
  split
  · next zero => rw [zero]; rfl
  · rw [if_neg (Nat.succ_ne_zero k)]
    omega

/-- Whether the format test of R34 fails an entry. -/
def Checked.isDamaged : Checked → Bool
  | .damaged _ _ => true
  | .ready _ => false
  | .echo _ _ _ => false

/-- A link with k more damaged entries (R46). -/
def Link.withDamaged (k : Nat) (x : Link) : Link :=
  { x with counters := { x.counters with damagedEntries := bumpBy x.counters.damagedEntries k } }

/-- Whether the request in flight on a link is for a station. -/
def Link.requests (x : Link) (i : StationId) : Bool := x.backfill.any fun b => decide (b.station = i)

/-- The state after k damaged entries of station i on link l (R34, R38). -/
def State.damages (s : State) (l : LinkId) (i : StationId) (k : Nat) : State :=
  if 0 < k ∧ (s.link l).requests i = true then (s.setLink l ((s.link l).withDamaged k)).damageRequest l .format
  else s.setLink l ((s.link l).withDamaged k)

theorem State.damages_zero (s : State) (l : LinkId) (i : StationId) : s.damages l i 0 = s := by
  have same : (s.link l).withDamaged 0 = s.link l := by rw [Link.withDamaged, bumpBy_zero]
  rw [State.damages, if_neg fun h => Nat.lt_irrefl 0 h.1, same, State.setLink_link]

theorem State.countDamaged_eq (s : State) (l : LinkId) (i : StationId) (kind : Byte) (fault : EntryFault) :
    State.countDamaged l i s (.damaged kind fault) =
      if (s.link l).requests i = true
      then (s.countLink l fun c => { c with damagedEntries := bump c.damagedEntries }).damageRequest l .format
      else s.countLink l fun c => { c with damagedEntries := bump c.damagedEntries } := by
  have same : ((s.countLink l fun c => { c with damagedEntries := bump c.damagedEntries }).link l).backfill =
      (s.link l).backfill := by rw [State.countLink, State.modLink_self]
  cases flight : (s.link l).backfill with
  | none => simp only [State.countDamaged, same.trans flight, Link.requests, flight, Option.any_none, Bool.false_eq_true, if_false]
  | some b => simp only [State.countDamaged, same.trans flight, Link.requests, flight, Option.any_some, decide_eq_true_eq]

theorem State.countLink_withDamaged (s : State) (l : LinkId) (k : Nat) :
    ((s.setLink l ((s.link l).withDamaged k)).countLink l fun c => { c with damagedEntries := bump c.damagedEntries }) =
      s.setLink l ((s.link l).withDamaged (k + 1)) := by
  rw [State.countLink_eq, State.setLink_self, State.setLink_setLink]
  simp only [Link.withDamaged, bump_bumpBy]

theorem State.damages_requests (s : State) (l : LinkId) (i j : StationId) (k : Nat) :
    ((s.damages l i k).link l).requests j = (s.link l).requests j := by
  unfold State.damages
  split
  · rw [State.damageRequest_link, if_pos rfl, State.setLink_self]
    simp only [Link.requests, Link.damaged, Link.withDamaged]
    cases (s.link l).backfill with
    | none => rfl
    | some b => simp only [Option.map_some, Option.any_some]; split <;> rfl
  · rw [State.setLink_self]
    rfl

theorem State.damages_succ (s : State) (l : LinkId) (i : StationId) (k : Nat) (kind : Byte) (fault : EntryFault) :
    State.countDamaged l i (s.damages l i k) (.damaged kind fault) = s.damages l i (k + 1) := by
  rw [State.countDamaged_eq, State.damages_requests]
  by_cases requests : (s.link l).requests i = true
  · rw [if_pos requests]
    have succ : s.damages l i (k + 1) = (s.setLink l ((s.link l).withDamaged (k + 1))).damageRequest l .format :=
      if_pos ⟨Nat.succ_pos k, requests⟩
    rw [succ]
    by_cases some : 0 < k
    · rw [State.damages, if_pos ⟨some, requests⟩, State.damageRequest_countLink, State.damageRequest_twice,
        State.countLink_withDamaged]
    · rw [State.damages, if_neg fun h => some h.1, State.countLink_withDamaged]
  · rw [if_neg requests, State.damages, if_neg fun h => requests h.2, State.countLink_withDamaged, State.damages,
      if_neg fun h => requests h.2]

theorem State.countDamaged_foldl (s : State) (l : LinkId) (i : StationId) (es : List Checked) :
    es.foldl (State.countDamaged l i) s = s.damages l i (es.countP Checked.isDamaged) := by
  have from_ : ∀ (es : List Checked) (k : Nat), es.foldl (State.countDamaged l i) (s.damages l i k) =
      s.damages l i (k + es.countP Checked.isDamaged) := by
    intro es
    induction es with
    | nil => exact fun _ => rfl
    | cons e es ih =>
      intro k
      cases e with
      | damaged kind fault =>
        rw [List.foldl_cons, State.damages_succ, ih, List.countP_cons_of_pos rfl, Nat.add_right_comm, Nat.add_assoc]
      | ready e => exact (ih k).trans (by rw [List.countP_cons_of_neg (p := Checked.isDamaged) (a := .ready e) nofun])
      | echo a b c => exact (ih k).trans (by rw [List.countP_cons_of_neg (p := Checked.isDamaged) (a := .echo a b c) nofun])
  rw [← Nat.zero_add (es.countP _), ← from_ es 0, State.damages_zero]

theorem State.raiseIf_damages (s : State) (b : Bool) (k : NoticeKind) (l : LinkId) (i : StationId) (n : Nat) :
    (s.raiseIf b k).damages l i n = (s.damages l i n).raiseIf b k := by
  unfold State.damages
  rw [State.raiseIf_link, State.raiseIf_setLink]
  split
  · rw [State.raiseIf_damageRequest]
  · rfl

/-! ## Entries accepted (R35, R44) -/

/-- Entries put at the tail of a queue. -/
def Link.queued (es : List Entry) (x : Link) : Link := { x with queue := x.queue ++ es }

theorem State.modLink_queued (s : State) (l : LinkId) (as bs : List Entry) :
    (s.modLink l (Link.queued as)).modLink l (Link.queued bs) = s.modLink l (Link.queued (as ++ bs)) := by
  rw [State.modLink_modLink]
  simp only [Link.queued, List.append_assoc]
  rfl

theorem State.modLink_queued_nil (s : State) (l : LinkId) : s.modLink l (Link.queued []) = s := by
  have same : (s.link l).queued [] = s.link l := by rw [Link.queued, List.append_nil]
  rw [State.modLink_eq, same, State.setLink_link]

section Accept

variable {l : LinkId} {i : StationId} {ta : Stamp} {period components : Nat}

theorem EntryReads.accepted {raw : RawEntry} {e : Entry} (reads : EntryReads i period components raw e) (s : State) :
    State.acceptEntry l i ta s e.checked = s.modLink l (Link.queued [e]) := by
  cases reads <;> rfl

theorem acceptEntry_foldl : ∀ {es : List (RawEntry × Entry)} (s : State),
    (∀ e ∈ es, EntryReads i period components e.1 e.2) →
    (es.map fun e => e.2.checked).foldl (State.acceptEntry l i ta) s = s.modLink l (Link.queued (es.map Prod.snd))
  | [], s, _ => (State.modLink_queued_nil s l).symm
  | e :: es, s, reads => by
    rw [List.map_cons, List.foldl_cons, (reads e (by simp)).accepted,
      acceptEntry_foldl _ fun x mem => reads x (by simp [mem]), State.modLink_queued]
    rfl

theorem State.acceptEcho_matched {s : State} {pr : ProbeSlot} {identifier : Byte} (kr : Counter40) (tau : BitVec 32)
    (probe : (s.link l).probe = some pr) (own : pr.identifier = identifier) (station : pr.station = i) :
    State.acceptEntry l i ta s (.echo identifier kr tau) = (s.modLink l fun y => { y with
      probe := none, queue := y.queue ++ [.echo i kr tau pr.ts ta pr.requested] }).raiseIf pr.requested .probe := by
  have matched : pr.matched identifier i = true := by simp [ProbeSlot.matched, own, station]
  simp only [State.acceptEntry, probe, if_pos matched, State.probeEnded, State.modLink_modLink]

theorem State.acceptEcho_stale {s : State} {identifier : Byte} (kr : Counter40) (tau : BitVec 32)
    (stale : ∀ pr, (s.link l).probe = some pr → pr.identifier ≠ identifier ∨ pr.station ≠ i) :
    State.acceptEntry l i ta s (.echo identifier kr tau) =
      s.countLink l fun c => { c with staleEchoes := bump c.staleEchoes } := by
  cases probe : (s.link l).probe with
  | none => simp only [State.acceptEntry, probe]
  | some pr =>
    have other : ¬ pr.matched identifier i = true := by
      rw [ProbeSlot.matched, Bool.and_eq_true, decide_eq_true_eq, decide_eq_true_eq]
      exact fun ⟨own, station⟩ => (stale pr probe).elim (fun h => h own) fun h => h station
    simp only [State.acceptEntry, probe, if_neg other]

end Accept

/-- The RESTART entry that a header's flag puts ahead of a burst's entries (R35). -/
def restartEntries (i : StationId) (restart : Bool) : List Entry := if restart then [.restart i] else []

/-- A matched burst, its entries checked (R34, R35). -/
theorem State.queueBurst_eq {s : State} {l : LinkId} {i : StationId} {ta : Stamp} {raw : RawBurst} {es : List Checked}
    (isEs : raw.entries.map (checkEntry i (s.station i).period (s.station i).components) = es) :
    s.queueBurst l i ta raw =
      let u := s.damages l i (es.countP Checked.isDamaged)
      if es.length + raw.restart.toNat ≤ 64 - (s.link l).queue.length then
        es.foldl (State.acceptEntry l i ta) (u.modLink l (Link.queued (restartEntries i raw.restart)))
      else ((u.countLink l fun c => { c with queueOverruns := bump c.queueOverruns }).raise .link).damageRequest l .overrun := by
  have queue : ((s.damages l i (es.countP Checked.isDamaged)).link l).queue = (s.link l).queue := by
    unfold State.damages
    split
    · rw [State.damageRequest_link, if_pos rfl, State.setLink_self]; rfl
    · rw [State.setLink_self]; rfl
  unfold State.queueBurst
  dsimp only
  rw [isEs, State.countDamaged_foldl, queue]
  cases raw.restart with
  | false =>
    rw [show restartEntries i false = [] from rfl, State.modLink_queued_nil]
    rfl
  | true => rfl

/-! ## From the line to the queue -/

theorem State.linkActive_modBurst (s : State) (l : LinkId) (w : Option Burst) :
    (s.modLink l fun y => { y with burst := w }).linkActive l = s.linkActive l := by
  rw [State.linkActive_eq, State.linkActive_eq, State.modLink_self, State.modLink_eq, State.setLink_setLink]
  rfl

/-- The station of an address: no other enabled one of the link has it (R33, R51). -/
theorem State.lookup_eq_some {s : State} {i : StationId} {bd : Binding} (table : s.tableSound)
    (enabled : (s.station i).enabled = true) (bound : (s.station i).binding = some bd) :
    s.lookup bd.link bd.address = some i := by
  refine find?_finRange_eq_some (by simp [enabled, bound]) fun k passes => ?_
  obtain ⟨on, at_⟩ := (Bool.and_eq_true _ _).mp passes
  cases held : (s.station k).binding with
  | none => rw [held] at at_; cases at_
  | some c =>
    rw [held] at at_
    obtain ⟨link, address⟩ := (Bool.and_eq_true _ _).mp at_
    exact (table.2 i k enabled on ⟨bd, c, bound, held, (of_decide_eq_true link).symm, (of_decide_eq_true address).symm⟩).le

/-- A checked and stuffed burst for an enabled station is queued for it (R31, R33, R197). -/
theorem exec_burstClose_matched {dt : Nat} {l : LinkId} {i : StationId} {bd : Binding} {stamp : Stamp} {seed : BitVec 16}
    {restart : Bool} {s : State} {es : List RawEntry} (running : s.held = false) (table : s.tableSound)
    (on : (s.link l).state ≠ .off) (arriving : (s.link l).burst = some (Burst.opened stamp seed))
    (enabled : (s.station i).enabled = true) (bound : (s.station i).binding = some bd) (own : bd.link = l)
    (few : 1 ≤ es.length) (many : es.length ≤ 16)
    (short : (stuff (burstCovered bd.address (boolByte restart) es ++
      be 2 (crc seed (burstCovered bd.address (boolByte restart) es)).toNat)).length ≤ 16384) :
    exec (.burstClose dt l (stuff (burstCovered bd.address (boolByte restart) es ++
      be 2 (crc seed (burstCovered bd.address (boolByte restart) es)).toNat))) s =
      .next (((s.advance dt).linkActive l).queueBurst l i stamp
        { address := bd.address, restart := restart, entries := es }).endEvent := by
  generalize isData : burstCovered bd.address (boolByte restart) es ++
    be 2 (crc seed (burstCovered bd.address (boolByte restart) es)).toNat = data at *
  refine State.event_of_eq (body := fun s => s.linkBytes l (stuff data ++ [closeByte])) running ?_
  have received := State.linkByte_foldl (s := s.advance dt) (noDelimiter_stuff data) arriving
    (show 0 + (stuff data).length ≤ 16384 by omega)
  rw [Burst.receive_stuff data rfl] at received
  have judged : ({ Burst.opened stamp seed with
      received := (Burst.opened stamp seed).received + (stuff data).length
      content := (Burst.opened stamp seed).content ++ data } : Burst).judge =
      .ok { address := bd.address, restart := restart, entries := es } :=
    (Burst.judge_good rfl rfl isData.symm).trans
      (divided_burstCovered few many fun e mem => content_lt_of_line (by rw [isData]; exact short) mem)
  have found : ((s.advance dt).linkActive l).lookup l bd.address = some i := by
    have same : ((s.advance dt).linkActive l).stations = s.stations := by
      rw [State.linkActive_eq, State.raiseIf_stations]; rfl
    have station (j : StationId) : ((s.advance dt).linkActive l).station j = s.station j := by
      rw [State.station, same]; rfl
    subst own
    refine State.lookup_eq_some ?_ (by rwa [station]) (by rwa [station])
    simpa only [State.tableSound, station] using table
  rw [State.linkBytes_on (s := s.advance dt) on, List.foldl_append, received]
  show State.linkByte l _ closeByte = _
  rw [State.linkByte_close, State.closeBurst, State.modLink_self]
  dsimp only
  rw [State.judgeBurst, judged]
  dsimp only
  rw [State.linkActive_modBurst, found]
  rfl

theorem Entry.checked_isDamaged (e : Entry) : e.checked.isDamaged = e.isDamaged := by cases e <;> rfl

section Pairs

variable {i : StationId} {period components : Nat} {es : List (RawEntry × Entry)}

theorem map_checkEntry (positive : 1 ≤ components) (few : components ≤ 3)
    (reads : ∀ e ∈ es, EntryReads i period components e.1 e.2) :
    (es.map Prod.fst).map (checkEntry i period components) = es.map fun e => e.2.checked := by
  rw [List.map_map]
  exact List.map_congr_left fun e mem => (reads e mem).checked positive few

theorem countP_checked (es : List (RawEntry × Entry)) :
    (es.map fun e => e.2.checked).countP Checked.isDamaged = (es.map Prod.snd).countP Entry.isDamaged := by
  rw [List.countP_map, List.countP_map]
  exact List.countP_congr fun e _ => by
    dsimp only [Function.comp]
    rw [Entry.checked_isDamaged]

end Pairs

theorem Link.queued_append (as bs : List Entry) :
    Link.queued (as ++ bs) = fun y => { y with queue := y.queue ++ as ++ bs } := by
  funext y
  rw [Link.queued, List.append_assoc]

theorem Link.withControl_probe (x : Link) (passes : Bool) (e : Entry) : (x.withControl passes e).probe = x.probe := by
  unfold Link.withControl
  split
  · rfl
  · split <;> rfl

theorem State.damages_probe (s : State) (l : LinkId) (i : StationId) (k : Nat) :
    ((s.damages l i k).link l).probe = (s.link l).probe := by
  unfold State.damages
  split
  · rw [State.damageRequest_link, if_pos rfl, State.setLink_self]
    rfl
  · rw [State.setLink_self]
    rfl

/-- Settles O30. -/
theorem burstOfRecordsIsQueued : Obligations.BurstOfRecordsIsQueued := by
  intro dt l i bd stamp seed restart s running table on arriving enabled bound own positive few x up told line first judged
  have active : (s.advance dt).linkActive l =
      ((s.advance dt).setLink l told).raiseIf (decide (x.state ≠ .up)) .link := State.linkActive_eq _ l
  have period : (((s.advance dt).linkActive l).station i).period = bd.rate.period := by
    rw [active, State.raiseIf_station, State.setLink_station, State.advance_station, Station.period, bound]
  have components : (((s.advance dt).linkActive l).station i).components = bd.components := by
    rw [active, State.raiseIf_station, State.setLink_station, State.advance_station, Station.components, bound]
  have queue : (((s.advance dt).linkActive l).link l).queue = told.queue := by
    rw [active, State.raiseIf_link, State.setLink_self]
  have isJudged (queued : List Entry) : judged queued =
      ((s.advance dt).setLink l told).damages l i (queued.countP Entry.isDamaged) := by
    have flight : told.backfill = x.backfill := Link.withControl_backfill up _ _
    unfold State.damages
    rw [State.setLink_self, State.setLink_setLink, Link.requests, flight]
    rfl
  have damages (n : Nat) : ((s.advance dt).linkActive l).damages l i n =
      (((s.advance dt).setLink l told).damages l i n).raiseIf (decide (x.state ≠ .up)) .link := by
    rw [active, State.raiseIf_damages]
  refine ⟨fun es some many reads short => ?_, fun before after identifier kr tau many reads => ?_⟩
  · intro queued
    have close := exec_burstClose_matched (dt := dt) running table on arriving enabled bound own (restart := restart)
      (es := es.map Prod.fst) (by rwa [List.length_map]) (by rwa [List.length_map]) short
    have isEs := map_checkEntry positive few reads
    rw [← period, ← components] at isEs
    have eq := State.queueBurst_eq (l := l) (ta := stamp) (raw := { address := bd.address, restart := restart, entries := es.map Prod.fst })
      isEs
    rw [countP_checked, queue, List.length_map, damages, ← isJudged] at eq
    rw [eq] at close
    dsimp only at close
    refine ⟨fun room => close.trans ?_, fun full => close.trans ?_⟩
    · rw [if_pos (by omega), acceptEntry_foldl _ reads, State.modLink_queued, State.raiseIf_modLink, Link.queued_append]
      rfl
    · rw [if_neg (by omega), State.countLink, State.raiseIf_modLink, State.raiseIf_raise, ← State.raiseIf_of rfl,
        State.raiseIf_damageRequest, State.raiseIf_of rfl]
  · intro sent queued short room
    have close := exec_burstClose_matched (dt := dt) running table on arriving enabled bound own (restart := restart)
      (es := sent) (by simp [sent]; omega) (by simp [sent]; omega) short
    have isBefore := map_checkEntry positive few fun e mem => reads e (List.mem_append_left _ mem)
    have isAfter := map_checkEntry positive few fun e mem => reads e (List.mem_append_right _ mem)
    have isEs : sent.map (checkEntry i bd.rate.period bd.components) = (before.map fun e => e.2.checked) ++
        .echo identifier kr tau :: after.map fun e => e.2.checked := by
      rw [List.map_append, List.map_cons, isBefore, isAfter, checkEntry_echo]
    have count : ((before.map fun e => e.2.checked) ++ .echo identifier kr tau :: after.map fun e => e.2.checked).countP
        Checked.isDamaged = queued.countP Entry.isDamaged := by
      rw [List.countP_append, List.countP_cons_of_neg (p := Checked.isDamaged) (a := .echo identifier kr tau) nofun, countP_checked, countP_checked,
        ← List.countP_append, ← List.map_append]
    have length : ((before.map fun e => e.2.checked) ++ .echo identifier kr tau :: after.map fun e => e.2.checked).length =
        before.length + 1 + after.length := by simp; omega
    rw [← period, ← components] at isEs
    have eq := State.queueBurst_eq (l := l) (ta := stamp) (raw := { address := bd.address, restart := restart, entries := sent }) isEs
    rw [count, queue, length, damages, ← isJudged] at eq
    rw [eq] at close
    dsimp only at close
    rw [if_pos (by omega), List.foldl_append, List.foldl_cons,
      acceptEntry_foldl _ fun e mem => reads e (List.mem_append_left _ mem), State.modLink_queued, State.raiseIf_modLink] at close
    have probe : (((judged queued).modLink l (Link.queued (restartEntries i restart ++ before.map Prod.snd))).link l).probe =
        x.probe := by
      rw [State.modLink_self, isJudged]
      show ((State.damages _ l i _).link l).probe = _
      rw [State.damages_probe, State.setLink_self, Link.withControl_probe]
    refine ⟨fun pr isPr same station => close.trans ?_, fun stale => close.trans ?_⟩
    · rw [State.acceptEcho_matched kr tau (by rw [State.raiseIf_link, probe]; exact isPr) same station,
        acceptEntry_foldl _ fun e mem => reads e (List.mem_append_right _ mem), State.raiseIf_modLink, State.raiseIf_comm,
        State.raiseIf_modLink, State.raiseIf_modLink, State.modLink_modLink, State.modLink_modLink]
      simp only [Link.queued, List.append_assoc, List.cons_append, List.nil_append]
      rfl
    · rw [State.acceptEcho_stale kr tau (by rw [State.raiseIf_link, probe]; exact stale),
        acceptEntry_foldl _ fun e mem => reads e (List.mem_append_right _ mem), State.countLink, State.raiseIf_modLink,
        State.raiseIf_modLink, State.modLink_modLink, State.modLink_modLink]
      simp only [Link.queued, List.append_assoc, List.map_append, queued]
      rfl

end Sys2Proof.Machine
end

section
/-! PROOF. The requests that disable (O51) and configure a station (O52). -/

namespace Sys2Proof.Machine

/-! ## Blocked heads of a disabled station (R53, R176) -/

/-- Whether a link's blocked head is a DATA entry of station i (R53). -/
def Link.drops (i : StationId) (x : Link) : Bool :=
  x.blocked && match x.queue with
    | .data r :: _ => decide (r.station = i)
    | _ => false

/-- A link without its blocked head, which is discarded (R53). -/
def Link.dropped (x : Link) : Link :=
  { x with
    queue := x.queue.tail, blocked := false
    counters := { x.counters with disabledEntries := bump x.counters.disabledEntries } }

theorem State.dropBlockedHead_eq (i : StationId) (s : State) (l : LinkId) : State.dropBlockedHead i s l =
    if (s.link l).drops i then (s.setLink l (s.link l).dropped).leaveWaiting l else s := by
  have drop : ((s.popHead l).countDisabled l |>.modLink l fun x => { x with blocked := false }) =
      s.setLink l (s.link l).dropped := by
    rw [State.popHead, State.countDisabled, State.countLink, State.modLink_modLink, State.modLink_modLink]
    rfl
  unfold State.dropBlockedHead
  rw [drop, Link.drops]
  cases blocked : (s.link l).blocked with
  | false => rfl
  | true =>
    simp only [if_true, Bool.true_and]
    cases queue : (s.link l).queue with
    | nil => rfl
    | cons e rest =>
      cases e with
      | data r => by_cases own : r.station = i <;> simp [own]
      | _ => rfl

/-- What the links of a list drop, the other links and all else being kept (R53). -/
theorem State.dropBlockedHead_foldl (i : StationId) (ls : List LinkId) : ∀ (s : State), ls.Nodup →
    ls.foldl (State.dropBlockedHead i) s = { s with
      links := Vector.ofFn fun m => if m ∈ ls ∧ (s.link m).drops i then (s.link m).dropped else s.link m
      store := { s.store with
        waiting := s.store.waiting.filter fun m => !(decide (m ∈ ls) && (s.link m).drops i) } } := by
  induction ls with
  | nil =>
    intro s _
    have links : s.links = Vector.ofFn fun m => if m ∈ ([] : List LinkId) ∧ (s.link m).drops i then (s.link m).dropped
        else s.link m := by
      ext m h
      simp [State.link]
    rw [← links]
    simp
  | cons l ls ih =>
    intro s distinct
    obtain ⟨apart, rest⟩ := List.nodup_cons.mp distinct
    rw [List.foldl_cons, ih _ rest, State.dropBlockedHead_eq]
    cases drops : (s.link l).drops i with
    | false =>
      simp only [Bool.false_eq_true, if_false]
      have same (m : LinkId) : (m ∈ l :: ls ∧ (s.link m).drops i = true) ↔ (m ∈ ls ∧ (s.link m).drops i = true) := by
        by_cases here : m = l
        · subst here; simp [drops]
        · simp [here]
      have same' (m : LinkId) : (decide (m ∈ l :: ls) && (s.link m).drops i) = (decide (m ∈ ls) && (s.link m).drops i) := by
        rw [Bool.eq_iff_iff]; simpa using same m
      simp only [same, same']
    | true =>
      rw [if_pos rfl]
      have link (m : LinkId) (other : m ≠ l) : ((s.setLink l (s.link l).dropped).leaveWaiting l).link m = s.link m :=
        State.setLink_ne s _ (Ne.symm other)
      have links (m : LinkId) : (if m ∈ ls ∧ (((s.setLink l (s.link l).dropped).leaveWaiting l).link m).drops i then
          (((s.setLink l (s.link l).dropped).leaveWaiting l).link m).dropped
          else ((s.setLink l (s.link l).dropped).leaveWaiting l).link m) =
          if m ∈ l :: ls ∧ (s.link m).drops i then (s.link m).dropped else s.link m := by
        by_cases here : m = l
        · subst here
          rw [if_neg fun h => apart h.1, if_pos ⟨List.mem_cons_self, drops⟩]
          exact State.setLink_self s m _
        · rw [link m here]
          simp [here]
      have waits (m : LinkId) : (!(decide (m ∈ ls) && (((s.setLink l (s.link l).dropped).leaveWaiting l).link m).drops i) &&
          decide (m ≠ l)) = !(decide (m ∈ l :: ls) && (s.link m).drops i) := by
        by_cases here : m = l
        · subst here; simp [drops]
        · rw [link m here]; simp [here]
      simp only [links, State.leaveWaiting_waiting, List.filter_filter, waits]
      rfl

/-- Every link drops a blocked head of the station (R53). -/
theorem State.dropBlockedHeads (i : StationId) (s : State) : allLinks.foldl (State.dropBlockedHead i) s = { s with
    links := s.links.map fun y => if y.drops i then y.dropped else y
    store := { s.store with waiting := s.store.waiting.filter fun m => !(s.link m).drops i } } := by
  rw [State.dropBlockedHead_foldl i allLinks s (List.nodup_finRange _)]
  have all (m : LinkId) : m ∈ allLinks := List.mem_finRange m
  have links : (Vector.ofFn fun m => if m ∈ allLinks ∧ (s.link m).drops i then (s.link m).dropped else s.link m) =
      s.links.map fun y => if y.drops i then y.dropped else y := by
    ext m h
    simp [all, State.link]
  rw [links]
  simp only [all, decide_true, Bool.true_and]

/-! ## STATION_DISABLE (R52, R53) -/

theorem State.freeSlots_setStation (s : State) (ks : List Nat) (i : StationId) (x : Station) :
    (s.setStation i x).freeSlots ks = (s.freeSlots ks).setStation i x := by
  rw [State.freeSlots_eq, State.freeSlots_eq]
  rfl

theorem State.raiseIf_dropBlockedHeads (s : State) (b : Bool) (k : NoticeKind) (i : StationId) :
    allLinks.foldl (State.dropBlockedHead i) (s.raiseIf b k) =
      (allLinks.foldl (State.dropBlockedHead i) s).raiseIf b k := by
  rw [State.dropBlockedHeads, State.dropBlockedHeads]
  cases b <;> rfl

theorem State.disableSteps_eq (s : State) (i : StationId) : s.disableSteps i =
    ((((s.freeSlots ((s.station i).tracker.hold.map Held.slot)).setStation i (s.station i).disabled).removeExpected
      (stationBit i)).invalidateReservation i).raiseIf (decide ((s.station i).clock.state ≠ .unset)) .station := by
  rw [State.disableSteps, State.clearTracking_eq, State.modStation_eq, State.setStation_self, State.unsetClock_eq,
    State.freeSlots_setStation, State.setStation_setStation, State.setStation_self, State.setStation_setStation,
    State.raiseIf_removeExpected, State.raiseIf_invalidateReservation]
  rfl

theorem State.disableStation_eq (u : State) (i : StationId) : u.disableStation i = (State.raiseIf { u with
    links := u.links.map fun y => if y.drops i then y.dropped else y
    stations := u.stations.set i (u.station i).disabled
    store := { u.store with
      slots := u.store.slots.filter fun y => (u.station i).tracker.hold.all fun h => decide (h.slot ≠ y.number)
      waiting := u.store.waiting.filter fun l => !(u.link l).drops i }
    assembler := { u.assembler with
      table := u.assembler.table.map fun e =>
        if e.state = .forming then { e with expected := e.expected &&& ~~~(stationBit i) } else e }
    reservations := match u.reservation i with
      | some y => if y.station = i then u.reservations.set (bankOf i) none else u.reservations
      | none => u.reservations } (decide ((u.station i).clock.state ≠ .unset)) .station).evalCompletion := by
  have steps : u.disableStation i = (allLinks.foldl (State.dropBlockedHead i) (u.disableSteps i)).evalCompletion := rfl
  rw [steps, State.disableSteps_eq, State.raiseIf_dropBlockedHeads, State.dropBlockedHeads, State.freeSlots_eq,
    State.removeExpected_eq, State.invalidateReservation_eq]
  simp only [List.all_map]
  rfl

/-- Settles O51. -/
theorem disableReturnsTheStationToReset : Obligations.DisableReturnsTheStationToReset := by
  intro dt p tag b s takes role u
  have station (i : StationId) : u.station i = s.station i := State.requested_station s dt p i
  refine ⟨fun above => exec_answered (r := .stationDisable b) rfl takes (.inr role) (State.onStation_above above u _),
    fun i isI => ?_⟩
  subst isI
  intro x
  refine ⟨fun disabled => exec_answered (r := .stationDisable _) rfl takes (.inr role)
    ((State.onStation_stationByte u i _).trans (if_neg (by rw [station, disabled]; exact nofun))), fun enabled => ?_⟩
  intro drops cleared
  refine exec_answered (r := .stationDisable _) rfl takes (.inr role)
    ((State.onStation_stationByte u i _).trans ((if_pos (by rw [station, enabled])).trans ?_))
  have links : u.links = s.links := State.requested_links s dt p
  have stations : u.stations = s.stations := State.requested_stations s dt p
  have store : u.store = s.store := State.requested_store s dt p
  have assembler : u.assembler = s.assembler := State.requested_assembler s dt p
  have reservations : u.reservations = s.reservations := State.requested_reservations s dt p
  have reservation : u.reservation i = s.reservation i := State.requested_reservation s dt p i
  rw [State.disableStation_eq, station, links, stations, store, assembler, reservations, reservation]
  simp only [State.requested_link]
  rfl

end Sys2Proof.Machine
end

section
/-! PROOF. STATION_CONFIG (R54 to R57, R62, R82, R93, R121, R122): O52. -/

namespace Sys2Proof.Machine

/-! ## The settings that would result (R55) -/

theorem badEnumerated_iff (f : SettingFields) : badEnumerated f = true ↔
    (∃ v, f.source = some v ∧ v ≠ 0 ∧ v ≠ 1) ∨ (∃ v, f.depth = some v ∧ v.toNat ∉ [2, 4, 8, 16, 32]) ∨
      ∃ v, f.backfill = some v ∧ v ≠ 0 ∧ v ≠ 1 := by
  have source (v : Byte) : (sourceOf v).isNone = true ↔ v ≠ 0 ∧ v ≠ 1 := by
    unfold sourceOf
    split
    · next zero => simp [zero]
    · next other => split <;> simp_all
  have switch (v : Byte) : (switchOf v).isNone = true ↔ v ≠ 0 ∧ v ≠ 1 := by
    rw [Option.isNone_iff_eq_none, switchOf_eq_none_iff]
  unfold badEnumerated
  rw [Bool.or_eq_true, Bool.or_eq_true, or_assoc]
  refine or_congr ?_ (or_congr ?_ ?_)
  · cases f.source <;> simp [source]
  · cases f.depth <;> simp [markDepths]
  · cases f.backfill <;> simp [switch]

theorem sourceOf_good {v : Byte} (good : ¬ (v ≠ 0 ∧ v ≠ 1)) (held : MarkSource) :
    (sourceOf v).getD held = if v = 1 then .probe else .sat := by
  by_cases zero : v = 0
  · subst zero; rfl
  · have one : v = 1 := by_contra fun other => good ⟨zero, other⟩
    subst one
    rfl

theorem clampInterval_eq (v : BitVec 16) : clampInterval v.toNat = if v = 0 then 0 else clampNat 10 3600 v.toNat := by
  unfold clampInterval
  by_cases zero : v = 0
  · subst zero; rfl
  · rw [if_neg zero, if_neg fun h : v.toNat = 0 => zero (BitVec.eq_of_toNat_eq h)]

/-! ## Settings in force (R56, R57, R62, R93) -/

/-- Whether a gap stays in the list under new settings (R82). -/
def Gap.stays (old new : StationConfig) (g : Gap) : Bool :=
  decide (old.attempts ≤ new.attempts ∨ g.request.isSome ∨ g.attempts < new.attempts)

/-- A station with new settings in force (R56). -/
def Station.reconfigured (new : StationConfig) (now : Nat) (x : Station) : Station :=
  { x with
    config := new
    clock := x.clock.reconfigure x.config new now
    mark := x.mark.reschedule x.config new now
    tracker := { x.tracker with gaps := x.tracker.gaps.filter (Gap.stays x.config new) }
    counters := { x.counters with
      gapsAbandoned := bumpBy x.counters.gapsAbandoned
        (x.tracker.gaps.length - (x.tracker.gaps.filter (Gap.stays x.config new)).length) } }

theorem stays_of_kept {old new : StationConfig} (kept : ¬ new.attempts < old.attempts) (gaps : List Gap) :
    gaps.filter (Gap.stays old new) = gaps :=
  List.filter_eq_self.mpr fun _ _ => decide_eq_true (.inl (not_lt.mp kept))

theorem stays_of_lowered {old new : StationConfig} (lowered : new.attempts < old.attempts) (g : Gap) :
    (g.request.isNone && decide (new.attempts ≤ g.attempts)) = !Gap.stays old new g := by
  unfold Gap.stays
  have before : ¬ old.attempts ≤ new.attempts := not_le.mpr lowered
  rw [Bool.eq_iff_iff]
  simp [before]

theorem length_sub_filter {α : Type} (stays : α → Bool) (l : List α) :
    l.length - (l.filter stays).length = l.countP fun g => !stays g := by
  have both : l.length = l.countP stays + l.countP fun g => !stays g := by
    simpa using List.length_eq_countP_add_countP stays
  rw [← List.countP_eq_length_filter]
  omega

/-- A station without the gaps that satisfy a test, which are counted abandoned (R82). -/
def Station.abandoned (out : Gap → Bool) (x : Station) : Station :=
  { x with
    tracker := { x.tracker with gaps := x.tracker.gaps.filter fun g => !out g }
    counters := { x.counters with
      gapsAbandoned := bumpBy x.counters.gapsAbandoned (x.tracker.gaps.countP out) } }

theorem State.abandonWhere_eq (s : State) (i : StationId) (out : Gap → Bool) : s.abandonWhere i out =
    (s.setStation i ((s.station i).abandoned out)).raiseIf
      (decide (0 < (s.station i).tracker.gaps.countP out)) .gap := by
  rw [State.abandonWhere, State.countAbandoned, State.modTracker_eq, State.count_eq, State.setStation_self,
    State.setStation_setStation, Bool.true_and]
  rfl

/-- The reservations after a change of settings (R62). -/
def State.reservationsAfter (s : State) (i : StationId) (calibrated : Bool) :=
  if calibrated then (s.invalidateReservation i).reservations else s.reservations

theorem State.configure_eq (s : State) (i : StationId) (new : StationConfig) (calibrated : Bool) :
    let x := s.station i
    let y := x.reconfigured new s.partTime
    let told := (({ s with reservations := s.reservationsAfter i calibrated }.setStation i y).raiseIf
      (decide (y.clock.state ≠ x.clock.state)) .station).raiseIf
        (decide (y.tracker.gaps.length < x.tracker.gaps.length)) .gap
    s.configure i new calibrated = if new.attempts < x.config.attempts then told.evalCompletion else told := by
  intro x y told
  have reserved (z : Station) (b : Bool) : (if calibrated = true then ((s.setStation i z).raiseIf b .station).invalidateReservation i
      else (s.setStation i z).raiseIf b .station) =
      ({ s with reservations := s.reservationsAfter i calibrated }.setStation i z).raiseIf b .station := by
    cases calibrated with
    | false => rfl
    | true =>
      rw [if_pos rfl, State.raiseIf_invalidateReservation, State.reservationsAfter, if_pos rfl,
        State.invalidateReservation_eq, State.invalidateReservation_eq]
      rfl
  unfold State.configure
  simp only [State.modStation_eq, State.putClock, State.setStation_self, State.setStation_setStation, reserved]
  split
  · next lowered =>
    have isLowered : (fun g : Gap => g.request.isNone && decide (new.attempts ≤ g.attempts)) =
        fun g => !Gap.stays x.config new g := funext (stays_of_lowered lowered)
    have fewer : decide (0 < x.tracker.gaps.countP fun g => !Gap.stays x.config new g) =
        decide (y.tracker.gaps.length < x.tracker.gaps.length) := by
      rw [← length_sub_filter, decide_eq_decide, Nat.sub_pos_iff_lt]
      rfl
    rw [State.lowerAttempts, State.raiseIf_station, State.setStation_self, State.abandonWhere_eq,
      State.raiseIf_station, State.setStation_self, State.raiseIf_setStation, State.setStation_setStation, isLowered,
      fewer]
    have isY : Station.abandoned (fun g => !Gap.stays x.config new g) { x with
        config := new, mark := x.mark.reschedule x.config new s.partTime
        clock := x.clock.reconfigure x.config new s.partTime } = y := by
      simp only [Station.abandoned, Bool.not_not, ← length_sub_filter]
      rfl
    rw [isY]
    rfl
  · next kept =>
    have all : x.tracker.gaps.filter (Gap.stays x.config new) = x.tracker.gaps := stays_of_kept kept _
    have isY : y = { x with
        config := new, mark := x.mark.reschedule x.config new s.partTime
        clock := x.clock.reconfigure x.config new s.partTime } := by
      simp only [y, Station.reconfigured, all, Nat.sub_self, bumpBy_zero]
    have same : decide (y.tracker.gaps.length < x.tracker.gaps.length) = false := by
      rw [isY]
      exact decide_eq_false (lt_irrefl _)
    have whole : told = ({ s with reservations := s.reservationsAfter i calibrated }.setStation i y).raiseIf
        (decide (y.clock.state ≠ x.clock.state)) .station := State.raiseIf_not same
    rw [whole, isY]

theorem State.configure_frame (s : State) (i : StationId) (new : StationConfig) (calibrated : Bool) :
    (s.configure i new calibrated).links = s.links ∧ (s.configure i new calibrated).timebase = s.timebase ∧
    (s.configure i new calibrated).reservations = s.reservationsAfter i calibrated ∧
    ∀ j, (s.configure i new calibrated).station j =
      if i = j then (s.station i).reconfigured new s.partTime else s.station j := by
  rw [State.configure_eq]
  generalize (s.station i).reconfigured new s.partTime = y
  have told (a b : Bool) : ∀ t : State, t = ((({ s with reservations := s.reservationsAfter i calibrated }.setStation i
      y).raiseIf a .station).raiseIf b .gap) → t.links = s.links ∧ t.timebase = s.timebase ∧
      t.reservations = s.reservationsAfter i calibrated ∧ ∀ j, t.station j = if i = j then y else s.station j := by
    rintro t rfl
    refine ⟨?_, ?_, ?_, fun j => ?_⟩
    · rw [State.raiseIf_links, State.raiseIf_links]; rfl
    · rw [State.raiseIf_timebase, State.raiseIf_timebase]; rfl
    · rw [State.raiseIf_reservations, State.raiseIf_reservations]; rfl
    · rw [State.raiseIf_station, State.raiseIf_station, State.station_setStation]; rfl
  split
  · obtain ⟨links, timebase, reservations, station⟩ := told _ _ _ rfl
    have frame := State.evalCompletion_frame ((({ s with reservations := s.reservationsAfter i calibrated }.setStation i
      y).raiseIf (decide (y.clock.state ≠ (s.station i).clock.state)) .station).raiseIf
        (decide (y.tracker.gaps.length < (s.station i).tracker.gaps.length)) .gap)
    exact ⟨frame.links.trans links, frame.timebase.trans timebase, frame.reservations.trans reservations, fun j =>
      (congrArg (·[j]) frame.stations).trans (station j)⟩
  · exact told _ _ _ rfl

/-! ## The clock and the mark unit under new settings (R56, R93, R121, R122) -/

theorem Clock.changeDepth_eq (cfg : StationConfig) (now : Nat) (c : Clock) : c.changeDepth cfg now =
    if c.state = .acquiring ∧ cfg.depth ≤ c.count then
      { c with state := .locked, silenceDue := some (now + cfg.silence * 1000) }
    else if c.state = .locked ∧ c.count < cfg.depth then { c with state := .acquiring, silenceDue := none }
    else if c.state = .holdover ∧ c.count < cfg.depth then { c with state := .acquiring }
    else c := by
  unfold Clock.changeDepth
  cases c.state <;> simp [StationConfig.silenceFrom]

theorem Clock.changeSource_eq (c : Clock) : c.changeSource = { c with
    count := 0, stages := 0, outliers := 0
    state := if c.state = .locked ∨ c.state = .holdover then .acquiring else c.state
    silenceDue := if c.state = .locked ∨ c.state = .holdover then none else c.silenceDue } := by
  unfold Clock.changeSource
  cases state : c.state <;> simp

/-- A new source leaves nothing that a new depth of 2 or more would change (log 21). -/
theorem Clock.reconfigure_source {old new : StationConfig} (now : Nat) (c : Clock) (other : new.source ≠ old.source)
    (deep : 2 ≤ new.depth) : c.reconfigure old new now = c.changeSource := by
  unfold Clock.reconfigure
  dsimp only
  rw [if_neg (Ne.symm other)]
  split
  · rfl
  · have empty : c.changeSource.count = 0 := by rw [Clock.changeSource_eq]
    have state : c.changeSource.state = if c.state = .locked ∨ c.state = .holdover then .acquiring else c.state := by
      rw [Clock.changeSource_eq]
    rw [Clock.changeDepth_eq, empty, state, if_neg (by omega), if_neg, if_neg]
    · intro ⟨holdover, _⟩
      cases isState : c.state <;> simp [isState] at holdover
    · intro ⟨locked, _⟩
      cases isState : c.state <;> simp [isState] at locked

theorem nextDue_eq (interval now : Nat) (lastSent : Option Nat) :
    nextDue interval now lastSent = (lastSent.map fun n => n + interval * 1000).getD now := by
  cases lastSent <;> rfl

/-- Another probe interval moves a schedule that stands (R93). -/
theorem MarkUnit.reschedule_interval {old cfg : StationConfig} {m : MarkUnit} {due : Nat} (now : Nat)
    (before : old.source = .probe) (after : cfg.source = .probe) (interval : cfg.probeInterval ≠ old.probeInterval)
    (schedule : m.schedule = some due) : m.reschedule old cfg now = { m with
      schedule := some ((m.lastSent.map fun n => n + cfg.probeInterval * 1000).getD due)
      due := decide ((m.lastSent.map fun n => n + cfg.probeInterval * 1000).getD due ≤ now) ||
        (m.due && m.requested) } := by
  have orElse (d : Nat) : (if d ≤ now then true else m.due && m.requested) = (decide (d ≤ now) || (m.due && m.requested)) := by
    by_cases passed : d ≤ now <;> simp [passed]
  unfold MarkUnit.reschedule
  rw [before, after]
  refine (if_neg (Ne.symm interval)).trans ?_
  cases sent : m.lastSent with
  | none => simp only [orElse, schedule]; rfl
  | some t => simp only [orElse]; rfl

/-- Settles O52. -/
theorem configIsTakenWhole : Obligations.ConfigIsTakenWhole := by
  intro dt p tag b f s takes role u
  have station (i : StationId) : u.station i = s.station i := State.requested_station s dt p i
  refine ⟨fun above => exec_answered (r := .stationConfig b f) rfl takes (.inr role) (State.onStation_above above u _),
    fun i isI => ?_⟩
  subst isI
  intro x old now bad carried new
  have answer {a : Answer} (h : (if x.enabled = false then u.refuse .notEnabled
      else if badEnumerated f then u.refuse .badValue
      else if (old.apply x.period f).interlocked then u.refuse .inUse
      else (u.configure i (old.apply x.period f) f.calibration.isSome).ok (old.apply x.period f).fields) = a) :
      exec (.stationConfig dt p tag (stationByte i) f) s = .next (a.1.answered p 0x0E tag a.2) := by
    refine exec_answered (r := .stationConfig _ f) rfl takes (.inr role) ?_
    refine (State.onStation_stationByte u i _).trans ?_
    rw [station]
    exact h
  have isBad : badEnumerated f = true ↔ bad := badEnumerated_iff f
  have isNew (good : ¬ bad) : old.apply x.period f = new := by
    have plain {w : Nat} (lo hi : Nat) (v : Option (BitVec w)) (held : Nat) :
        setting lo hi v held = carried lo hi (v.map BitVec.toNat) held := by cases v <;> rfl
    refine (StationConfig.mk.injEq ..).mpr ⟨?_, ?_, plain .., plain .., plain .., plain .., plain .., plain .., ?_,
      plain .., plain .., ?_, plain .., plain .., plain .., ?_⟩
    · cases source : f.source with
      | none => rfl
      | some v => exact sourceOf_good (fun h => good (.inl ⟨v, source, h⟩)) _
    · cases f.depth <;> rfl
    · cases f.backfill <;> rfl
    · cases f.probeInterval with
      | none => rfl
      | some v =>
        refine (clampInterval_eq v).trans (if_congr ?_ rfl rfl)
        rw [Option.some.injEq]
    · cases f.calibration <;> rfl
  have on (enabled : x.enabled = true) : ¬ x.enabled = false := by rw [enabled]; exact nofun
  refine ⟨fun disabled => answer (if_pos disabled), fun enabled isB => answer
    ((if_neg (on enabled)).trans (if_pos (isBad.mpr isB))), fun enabled good probe zero => ?_, fun enabled good free => ?_⟩
  · refine answer ((if_neg (on enabled)).trans ((if_neg (mt isBad.mp good)).trans (if_pos ?_)))
    rw [isNew good, StationConfig.interlocked, probe, zero]
    rfl
  have isFree : ¬ new.interlocked = true := by
    rw [StationConfig.interlocked, Bool.and_eq_true, decide_eq_true_eq, decide_eq_true_eq]
    exact fun ⟨probe, zero⟩ => free.elim (fun sat => by rw [probe] at sat; cases sat) fun h => h zero
  have run := answer ((if_neg (on enabled)).trans ((if_neg (mt isBad.mp good)).trans (if_neg (by rwa [isNew good]))))
  rw [isNew good] at run
  obtain ⟨links, timebase, reservations, stations⟩ := State.configure_frame u i new f.calibration.isSome
  have told := State.configure_eq u i new f.calibration.isSome
  rw [station] at told stations
  obtain ⟨timebase', links', stations', reservations', _⟩ := State.answered_frame
    (u.configure i new f.calibration.isSome) p 0x0E tag (0 :: new.fields)
  refine ⟨(u.configure i new f.calibration.isSome).answered p 0x0E tag (0 :: new.fields), x.clock.reconfigure old new now, 
    x.mark.reschedule old new now, x.tracker.gaps.filter (Gap.stays old new), run, State.answered_reply (u.configure i new f.calibration.isSome) p 0x0E tag (0 :: new.fields), ?_⟩
  have isReservations : u.reservationsAfter i f.calibration.isSome = if f.calibration.isSome ∧
      (∃ y, s.reservation i = some y ∧ y.station = i) then s.reservations.set (bankOf i) none else s.reservations := by
    rw [State.reservationsAfter, State.invalidateReservation_eq, State.requested_reservation,
      State.requested_reservations]
    cases f.calibration.isSome with
    | false => simp
    | true => cases s.reservation i <;> simp
  generalize u.configure i new f.calibration.isSome = w at *
  refine ⟨⟨?_, ?_⟩, fun j other => ?_, ?_, timebase'.trans timebase, ?_, rfl, fun source depth => ?_,
    fun source depth => ?_, fun source deep => ?_, fun source interval => ?_, fun before after => ?_,
    fun before after interval due schedule => ?_, fun before after => ?_⟩
  · exact (congrArg (·[i]) stations').trans ((stations i).trans (if_pos rfl))
  · rw [reservations', reservations]
    exact congrArg (State.answered · p 0x0E tag (0 :: new.fields)) told
  · exact (congrArg (·[j]) stations').trans ((stations j).trans ((if_neg (Ne.symm other)).trans (station j)))
  · exact links'.trans (links.trans (State.requested_links s dt p))
  · exact reservations'.trans (reservations.trans isReservations)
  · rw [Clock.reconfigure, if_pos source.symm, if_pos depth.symm]
  · rw [Clock.reconfigure, if_pos source.symm, if_neg (Ne.symm depth), Clock.changeDepth_eq]
  · rw [Clock.reconfigure_source now _ source deep, Clock.changeSource_eq]
  · unfold MarkUnit.reschedule
    rw [source]
    cases before : old.source with
    | sat => rfl
    | probe => exact if_pos (interval.elim (fun sat => by rw [source, before] at sat; cases sat) Eq.symm)
  · unfold MarkUnit.reschedule
    rw [before, after]
    exact ⟨_, rfl, by rw [nextDue_eq]⟩
  · exact ⟨_, rfl, MarkUnit.reschedule_interval now before after interval schedule⟩
  · unfold MarkUnit.reschedule
    rw [before, after]

end Sys2Proof.Machine
end

section
/-! PROOF. EPOCH_RELEASE and SUBSCRIBE, and what freed epochs give back (R161 to R163, R171, R172): O54. -/

namespace Sys2Proof.Machine

/-! ## References given back to the slots (R171) -/

/-- One reference less for each of a list of contributions (R171). -/
def dropReferences (cs : List Contribution) (slots : List Slot) : List Slot :=
  cs.foldl (fun l c => dropReference c.slot l) slots

theorem mem_dropReference_other {k : Nat} {y : Slot} {l : List Slot} (mem : y ∈ l) (other : y.number ≠ k) :
    y ∈ dropReference k l := by
  induction l with
  | nil => cases mem
  | cons x xs ih =>
    rw [dropReference]
    rcases List.mem_cons.mp mem with rfl | mem
    · rw [if_neg other]
      exact List.mem_cons_self
    · split
      · split
        · exact mem
        · exact List.mem_cons_of_mem _ mem
      · exact List.mem_cons_of_mem _ (ih mem)

theorem of_mem_dropReference {k : Nat} {z : Slot} {l : List Slot} (mem : z ∈ dropReference k l) :
    ∃ y ∈ l, z = { y with refs := z.refs } := by
  induction l with
  | nil => cases mem
  | cons x xs ih =>
    rw [dropReference] at mem
    split at mem
    · split at mem
      · exact ⟨z, List.mem_cons_of_mem _ mem, rfl⟩
      · rcases List.mem_cons.mp mem with rfl | mem
        · exact ⟨x, List.mem_cons_self, rfl⟩
        · exact ⟨z, List.mem_cons_of_mem _ mem, rfl⟩
    · rcases List.mem_cons.mp mem with rfl | mem
      · exact ⟨z, List.mem_cons_self, rfl⟩
      · obtain ⟨y, mem, same⟩ := ih mem
        exact ⟨y, List.mem_cons_of_mem _ mem, same⟩

/-- The slot a contribution names, with one reference less or FREE (R171). -/
theorem dropReference_own {y : Slot} {l : List Slot} (sorted : l.Pairwise fun a b => a.number < b.number) (mem : y ∈ l) :
    (1 < y.refs → { y with refs := y.refs - 1 } ∈ dropReference y.number l) ∧
    (y.refs ≤ 1 → ∀ z ∈ dropReference y.number l, z.number ≠ y.number) := by
  induction l with
  | nil => cases mem
  | cons x xs ih =>
    obtain ⟨above, rest⟩ := List.pairwise_cons.mp sorted
    rw [dropReference]
    rcases List.mem_cons.mp mem with rfl | mem
    · rw [if_pos rfl]
      refine ⟨fun many => ?_, fun last z mem => ?_⟩
      · rw [if_neg (by omega)]
        exact List.mem_cons_self
      · rw [if_pos last] at mem
        exact (above z mem).ne'
    · have later := above y mem
      obtain ⟨stays, goes⟩ := ih rest mem
      rw [if_neg (by omega)]
      refine ⟨fun many => List.mem_cons_of_mem _ (stays many), fun last z mem => ?_⟩
      rcases List.mem_cons.mp mem with rfl | mem
      · omega
      · exact goes last z mem

theorem mem_dropReferences_other {y : Slot} (cs : List Contribution) : ∀ {l : List Slot}, y ∈ l →
    (∀ c ∈ cs, c.slot ≠ y.number) → y ∈ dropReferences cs l := by
  induction cs with
  | nil => exact fun mem _ => mem
  | cons c cs ih =>
    exact fun mem other => ih (mem_dropReference_other mem (other c List.mem_cons_self).symm) fun d mem' =>
      other d (List.mem_cons_of_mem _ mem')

theorem of_mem_dropReferences {z : Slot} (cs : List Contribution) : ∀ {l : List Slot}, z ∈ dropReferences cs l →
    ∃ y ∈ l, z = { y with refs := z.refs } := by
  induction cs with
  | nil => exact fun mem => ⟨z, mem, rfl⟩
  | cons c cs ih =>
    intro l mem
    obtain ⟨x, mem, same⟩ := ih mem
    obtain ⟨y, mem, before⟩ := of_mem_dropReference mem
    exact ⟨y, mem, by rw [same, before]⟩

/-- The numbers of the slots in use rise (R167). -/
theorem numbers_pairwise {l : List Slot} : (l.Pairwise fun a b => a.number < b.number) ↔
    (l.map Slot.number).Pairwise (· < ·) := (List.pairwise_map).symm

theorem not_numbered {k : Nat} {l m : List Slot} (sub : (m.map Slot.number).Sublist (l.map Slot.number))
    (absent : ∀ z ∈ l, z.number ≠ k) : ∀ z ∈ m, z.number ≠ k := fun z mem same => by
  obtain ⟨y, isIn, number⟩ := List.mem_map.mp (sub.subset (List.mem_map_of_mem mem))
  exact absent y isIn (number.trans same)

/-- How many of a list of contributions name slot k (R171). -/
def namings (cs : List Contribution) (k : Nat) : Nat := cs.countP fun c => decide (c.slot = k)

theorem namings_cons (c : Contribution) (cs : List Contribution) (k : Nat) :
    namings (c :: cs) k = namings cs k + if c.slot = k then 1 else 0 := by
  rw [namings, List.countP_cons, namings]
  simp

/-- A slot that some contributions name has as many references less, or is FREE (R171). -/
theorem dropReferences_own (cs : List Contribution) : ∀ {y : Slot} {l : List Slot},
    (l.Pairwise fun a b => a.number < b.number) → y ∈ l →
    (namings cs y.number < y.refs → { y with refs := y.refs - namings cs y.number } ∈ dropReferences cs l) ∧
    (1 ≤ namings cs y.number → y.refs ≤ namings cs y.number → ∀ z ∈ dropReferences cs l, z.number ≠ y.number) := by
  induction cs with
  | nil => exact fun _ mem => ⟨fun _ => mem, fun some => absurd some (by simp [namings])⟩
  | cons c cs ih =>
    intro y l sorted mem
    have sub := dropReference_numbers c.slot l
    have sorted' := numbers_pairwise.mpr ((numbers_pairwise.mp sorted).sublist sub)
    have step : dropReferences (c :: cs) l = dropReferences cs (dropReference c.slot l) := rfl
    rw [namings_cons, step]
    by_cases own : c.slot = y.number
    · rw [if_pos own, own]
      rw [own] at sorted' sub
      obtain ⟨stays, goes⟩ := dropReference_own sorted mem
      by_cases last : y.refs ≤ 1
      · exact ⟨fun many => by omega, fun _ _ => not_numbered (dropReferences_numbers cs _) (goes last)⟩
      · obtain ⟨fewer, gone⟩ := ih sorted' (stays (by omega))
        dsimp only at fewer gone
        refine ⟨fun many => ?_, fun _ enough => gone (by omega) (by omega)⟩
        rw [Nat.add_comm, ← Nat.sub_sub]
        exact fewer (by omega)
    · rw [if_neg own]
      exact ih sorted' (mem_dropReference_other mem (Ne.symm own))

/-! ## Epochs freed one after another (R161, R163) -/

theorem bumpBy_bump (n k : Nat) : bumpBy (bump n) k = bumpBy n (k + 1) := by
  unfold bump bumpBy
  rw [if_neg (Nat.succ_ne_zero k)]
  split <;> omega

/-- Several epochs of the table freed, in their order (R161). -/
theorem State.freeAll (es : List Epoch) : ∀ {s : State}, s.assembler.sound → es.Sublist s.assembler.table →
    (es.map Epoch.number).foldl State.freeEpoch s = { s with
      assembler := { s.assembler with
        table := s.assembler.table.filter fun x => decide (x.number ∉ es.map Epoch.number)
        freedMark := es.foldl (fun mark e => raiseMark mark e.number) s.assembler.freedMark
        freed := bumpBy s.assembler.freed es.length }
      store := { s.store with
        poolFree := s.store.poolFree + (es.map fun e => e.contributions.length).sum
        slots := es.foldl (fun l e => dropReferences e.contributions l) s.store.slots } } := by
  induction es with
  | nil =>
    intro s _ _
    have all : s.assembler.table.filter (fun _ => true) = s.assembler.table := List.filter_true _
    simp [all, bumpBy_zero]
  | cons e es ih =>
    intro s sound sub
    have mem : e ∈ s.assembler.table := sub.subset List.mem_cons_self
    have apart : ∀ x ∈ es, e.number < x.number := (List.pairwise_cons.mp (sound.2.sublist sub)).1
    have table : (s.without e).assembler.table = s.assembler.table.filter fun x => decide (x.number ≠ e.number) := rfl
    have isRest : es = (e :: es).filter fun x => decide (x.number ≠ e.number) := by
      rw [List.filter_cons_of_neg (by simp)]
      exact (List.filter_eq_self.mpr fun x mem => decide_eq_true (apart x mem).ne').symm
    have sub' : es.Sublist (s.without e).assembler.table := by
      rw [isRest, table]
      exact sub.filter _
    have sound' : (s.without e).assembler.sound := Assembler.sound_of_sublist (by
      rw [table]; exact List.filter_sublist.map _) sound
    rw [List.map_cons, List.foldl_cons, State.freeEpoch_of_some (State.epoch?_of_mem sound mem), ih sound' sub']
    have filtered : (s.without e).assembler.table.filter (fun x => decide (x.number ∉ es.map Epoch.number)) =
        s.assembler.table.filter fun x => decide (x.number ∉ e.number :: es.map Epoch.number) := by
      rw [table, List.filter_filter]
      refine List.filter_congr fun x _ => ?_
      rw [Bool.eq_iff_iff]
      simp [and_comm]
    have freed : bumpBy (s.without e).assembler.freed es.length = bumpBy s.assembler.freed (e :: es).length :=
      bumpBy_bump _ _
    have pool : (s.without e).store.poolFree + (es.map fun e => e.contributions.length).sum =
        s.store.poolFree + ((e :: es).map fun e => e.contributions.length).sum := by
      rw [List.map_cons, List.sum_cons, ← Nat.add_assoc]
      rfl
    rw [filtered, freed, pool]
    rfl

/-! ## EPOCH_RELEASE (R162) -/

theorem PortSet.add_eq (x : PortSet) (p : PortId) : x.add p =
    { mp0 := x.mp0 || decide (p = .mp0), mp1 := x.mp1 || decide (p = .mp1) } := by
  cases p <;> simp [PortSet.add]

theorem PortSet.remove_eq (x : PortSet) (p : PortId) : x.remove p =
    { mp0 := x.mp0 && decide (p ≠ .mp0), mp1 := x.mp1 && decide (p ≠ .mp1) } := by
  cases p <;> simp [PortSet.remove]

theorem PortSet.within_add (x y : PortSet) (p : PortId) : x.within (y.add p) = true ↔
    ∀ q, q ≠ p → x.has q = true → y.has q = true := by
  have both {P : PortId → Prop} : (∀ q, P q) ↔ P .mp0 ∧ P .mp1 :=
    ⟨fun h => ⟨h _, h _⟩, fun h q => by cases q <;> simp [h]⟩
  rw [both]
  cases p <;> cases x0 : x.mp0 <;> cases x1 : x.mp1 <;> simp [PortSet.within, PortSet.add, PortSet.has, x0, x1]

/-- Freeing an epoch whose entry in the table has just changed in its port sets (R161). -/
theorem State.without_modEpoch (s : State) (e : Epoch) {f : Epoch → Epoch} (number : ∀ x, (f x).number = x.number)
    (contributions : (f e).contributions = e.contributions) :
    (s.modEpoch e.number f).without (f e) = s.without e := by
  have gone : (s.assembler.table.map fun x => if x.number = e.number then f x else x).filter
      (fun x => decide (x.number ≠ e.number)) = s.assembler.table.filter fun x => decide (x.number ≠ e.number) := by
    have kept (x : Epoch) : (if x.number = e.number then f x else x).number = x.number := by
      split <;> simp [number]
    rw [List.filter_map, List.filter_congr (q := fun x => decide (x.number ≠ e.number)) fun x _ => by
      simp only [Function.comp_apply, kept]]
    refine (List.map_congr_left (g := id) fun x mem => ?_).trans (List.map_id _)
    exact if_neg (of_decide_eq_true (List.mem_filter.mp mem).2)
  simp only [State.without, number, contributions, State.modEpoch, State.modAssembler, gone]

/-- The epoch of a number, after a change of it (R144). -/
theorem State.epoch?_modEpoch {s : State} {e : Epoch} {f : Epoch → Epoch} (number : ∀ x, (f x).number = x.number)
    (sound : s.assembler.sound) (mem : e ∈ s.assembler.table) :
    (s.modEpoch e.number f).epoch? e.number = some (f e) := by
  have numbers : (s.modEpoch e.number f).assembler.table.map Epoch.number = s.assembler.table.map Epoch.number :=
    State.modEpoch_numbers s e.number number
  have sound' : (s.modEpoch e.number f).assembler.sound := Assembler.sound_of_sublist (by rw [numbers]) sound
  have mem' : f e ∈ (s.modEpoch e.number f).assembler.table := List.mem_map.mpr ⟨e, mem, if_pos rfl⟩
  have found := State.epoch?_of_mem sound' mem'
  rwa [number] at found

/-! ## SUBSCRIBE (R163) -/

/-- An epoch that no needed port still has to release, or that is FORMING, stays (R163). -/
def Epoch.waits (e : Epoch) : Bool :=
  decide (e.state = .forming) || (e.needed.mp0 && !e.released.mp0) || (e.needed.mp1 && !e.released.mp1)

theorem Epoch.not_waits (e : Epoch) : (!e.waits) = (e.isClosed && e.fullyReleased) := by
  have state : e.isClosed = !decide (e.state = .forming) := by
    cases forming : decide (e.state = .forming) with
    | true => exact (Epoch.isClosed_eq_false_iff e).mpr (of_decide_eq_true forming)
    | false => exact (Epoch.isClosed_iff e).mpr (of_decide_eq_false forming)
  rw [Epoch.waits, state, Epoch.fullyReleased, PortSet.within]
  simp [Bool.and_assoc]

/-- The epochs that no port waits for freed together (R163). -/
theorem State.freeReleased_eq {s : State} (sound : s.assembler.sound) :
    let gone := s.assembler.table.filter fun e => !e.waits
    s.freeReleased = { s with
      assembler := { s.assembler with
        table := s.assembler.table.filter Epoch.waits
        freedMark := gone.foldl (fun mark e => raiseMark mark e.number) s.assembler.freedMark
        freed := bumpBy s.assembler.freed gone.length }
      store := { s.store with
        poolFree := s.store.poolFree + (gone.map fun e => e.contributions.length).sum
        slots := gone.foldl (fun l e => dropReferences e.contributions l) s.store.slots } } := by
  intro gone
  have isGone : (s.assembler.table.filter fun e => e.isClosed && e.fullyReleased) = gone := by
    simp only [gone, Epoch.not_waits]
  have left : (s.assembler.table.filter fun x => decide (x.number ∉ gone.map Epoch.number)) =
      s.assembler.table.filter Epoch.waits := by
    refine List.filter_congr fun x mem => ?_
    cases waits : x.waits with
    | false =>
      exact decide_eq_false (not_not_intro (List.mem_map_of_mem (List.mem_filter.mpr ⟨mem, by rw [waits]; rfl⟩)))
    | true =>
      refine decide_eq_true fun named => ?_
      obtain ⟨e, isGone, number⟩ := List.mem_map.mp named
      obtain ⟨mem', freed⟩ := List.mem_filter.mp isGone
      rw [epoch_unique sound.2 mem' mem number, waits] at freed
      cases freed
  rw [State.freeReleased, isGone, State.freeAll gone sound List.filter_sublist, left]

theorem foldl_dropReferences (es : List Epoch) (l : List Slot) :
    es.foldl (fun l e => dropReferences e.contributions l) l = dropReferences (es.flatMap Epoch.contributions) l :=
  List.foldl_flatMap.symm

theorem namings_flatMap (es : List Epoch) (k : Nat) :
    (es.map fun e => e.contributions.countP fun c => decide (c.slot = k)).sum =
      namings (es.flatMap Epoch.contributions) k := List.countP_flatMap.symm

theorem State.answered_subscribed (s : State) (p q : PortId) (k : Byte) (tag : BitVec 16) (body : List Byte) :
    ((s.answered p k tag body).port q).subscribed = (s.port q).subscribed := by
  have chosen (x : Port) (now : Nat) : (x.choose now).subscribed = x.subscribed := by
    unfold Port.choose
    split
    · split
      · rfl
      · split <;> rfl
    · rfl
    · rfl
  rw [State.answered, State.endEvent_port, chosen]
  cases p <;> cases q <;> rfl

theorem State.answered_pool (s : State) (p : PortId) (k : Byte) (tag : BitVec 16) (body : List Byte) :
    (s.answered p k tag body).store.poolFree = s.store.poolFree := by cases p <;> rfl

theorem be_ofNat_one (n : Nat) : be 1 n = [BitVec.ofNat 8 n] := by simp [be]

/-- Settles O54. -/
theorem releasesAndUnsubscribesFreeEpochs : Obligations.ReleasesAndUnsubscribesFreeEpochs := by
  refine ⟨fun dt p tag n s takes => ?_, fun dt p tag x s takes => ?_⟩
  · intro u replies
    have grid : u.timebase.grid = s.timebase.grid := State.requested_grid s dt p
    have assembler : u.assembler = s.assembler := State.requested_assembler s dt p
    refine ⟨fun unset => ?_, fun set sound => ?_⟩
    · exact exec_answered (r := .epochRelease n) rfl takes (.inl rfl) (State.onGrid_of_none (grid.trans unset) _)
    obtain ⟨g, isG⟩ := Option.ne_none_iff_exists'.mp set
    have onGrid (f : Grid → Answer) := State.onGrid_of_some (grid.trans isG) f
    have sound' : u.assembler.sound := by rwa [assembler]
    refine ⟨fun absent => ?_, fun e mem named => ?_⟩
    · exact exec_answered (r := .epochRelease n) rfl takes (.inl rfl) ((onGrid _).trans
        (State.onEpoch_of_none (State.epochNamed_of_absent (by rwa [assembler])) _))
    have mem' : e ∈ u.assembler.table := by rwa [assembler]
    have answer {a : Answer} (h : _ = a) : exec (.epochRelease dt p tag n) s = .next (a.1.answered p 0x19 tag a.2) :=
      exec_answered (r := .epochRelease n) rfl takes (.inl rfl) (((onGrid _).trans
        (State.onEpoch_of_some (State.epochNamed_of_mem sound' mem' named) _)).trans h)
    refine ⟨fun forming => answer (if_pos ((Epoch.isClosed_eq_false_iff e).mpr forming)), fun closed released =>
      answer ((if_neg ?_).trans (if_pos released)), fun closed unreleased => ⟨fun waits => ?_, fun all => ?_⟩⟩
    · rw [(Epoch.isClosed_iff e).mpr closed]; exact nofun
    · have some : ¬ e.needed.within (e.released.add p) = true := by
        rw [PortSet.within_add]
        obtain ⟨q, other, needed, waiting⟩ := waits
        exact fun all => by rw [all q other needed] at waiting; cases waiting
      have run := answer ((if_neg (by rw [(Epoch.isClosed_iff e).mpr closed]; exact nofun)).trans
        ((if_neg (by rw [unreleased]; exact nofun)).trans (if_neg some)))
      simp only [PortSet.add_eq] at run
      exact run
    · have every : e.needed.within (e.released.add p) = true := (PortSet.within_add ..).mpr all
      have run := answer ((if_neg (by rw [(Epoch.isClosed_iff e).mpr closed]; exact nofun)).trans
        ((if_neg (by rw [unreleased]; exact nofun)).trans (if_pos every)))
      have freed : (u.modEpoch e.number fun x => { x with released := x.released.add p }).freeEpoch e.number =
          u.without e :=
        (State.freeEpoch_of_some (State.epoch?_modEpoch (f := fun x => { x with released := x.released.add p })
          (fun _ => rfl) sound' mem')).trans (State.without_modEpoch u e (fun _ => rfl) rfl)
      rw [freed] at run
      have isAssembler : (u.without e).assembler = (s.without e).assembler := by rw [State.without, assembler]; rfl
      have isStore : (u.without e).store = (s.without e).store := by
        rw [State.without, State.requested_store]
        rfl
      obtain ⟨timebase, links, stations, reservations, table, slots, _⟩ :=
        State.answered_frame (u.without e) p 0x19 tag [0, 1]
      have isSlots : ((u.without e).answered p 0x19 tag [0, 1]).store.slots = dropReferences e.contributions s.store.slots :=
        slots.trans (congrArg Store.slots isStore)
      refine ⟨(u.without e).answered p 0x19 tag [0, 1], run, State.answered_reply .., table.trans isAssembler, ?_, isSlots, ?_, ?_, ?_,
        stations.trans (State.requested_stations s dt p), links.trans (State.requested_links s dt p), timebase,
        reservations.trans (State.requested_reservations s dt p)⟩
      · exact (State.answered_pool ..).trans (congrArg Store.poolFree isStore)
      · rw [isSlots]
        exact fun y mem other => mem_dropReferences_other _ mem other
      · rw [isSlots]
        intro sorted y mem
        exact dropReferences_own e.contributions sorted.1 mem
      · rw [isSlots]
        exact fun z mem => of_mem_dropReferences e.contributions mem
  · intro u off
    have flag : (u.port p).subscribed = (s.port p).subscribed := by rw [State.requested_port]
    have answer {a : Answer} (h : u.answerSubscribe p x = a) :
        exec (.subscribe dt p tag x) s = .next (a.1.answered p 0x1A tag a.2) :=
      exec_answered (r := .subscribe x) rfl takes (.inl rfl) h
    refine ⟨fun notOff notOn => answer (a := (u, [4])) ?_, fun held => answer (a := (u, [1])) ?_,
      fun on out => answer (a := (u.modPort p fun y => { y with subscribed := true }, [0, 1, 0])) ?_,
      fun isOff out sound => ?_⟩
    · rw [State.answerSubscribe, switchOf_eq_none_iff.mpr ⟨notOff, notOn⟩]
      rfl
    · subst held
      have held (b : Bool) : switchOf (if b = true then 1 else 0) = some b := by cases b <;> rfl
      rw [State.answerSubscribe, held, ← flag]
      exact if_pos rfl
    · subst on
      have unheld : ¬ true = (u.port p).subscribed := by rw [flag, out]; exact nofun
      exact (if_neg unheld).trans (if_pos rfl)
    intro left waits
    subst isOff
    -- the table without the port in its needed sets
    let w := off.modAssembler fun a => { a with table := a.table.map fun e => { e with needed := e.needed.remove p } }
    have unheld : ¬ false = (u.port p).subscribed := by rw [flag, out]; exact nofun
    have table : w.assembler.table = left := by
      show off.assembler.table.map _ = _
      rw [State.modPort_assembler, State.requested_assembler]
      simp only [PortSet.remove_eq]
      rfl
    have wSound : w.assembler.sound := by
      refine Assembler.sound_of_sublist (a := s.assembler) ?_ sound
      rw [table, List.map_map]
      exact .refl _
    have isWaits : waits = Epoch.waits := rfl
    have count : w.releasable = left.length - (left.filter waits).length := by
      rw [length_sub_filter, State.releasable, table, isWaits]
      simp only [Epoch.not_waits]
    have run := answer (a := (w.freeReleased, [0, 0, BitVec.ofNat 8 (left.length - (left.filter waits).length)])) (by
      refine (if_neg unheld).trans ((if_neg nofun).trans ?_)
      rw [← count]
      exact congrArg (fun l => (w.freeReleased, (0 : Byte) :: 0 :: l)) (be_ofNat_one w.releasable))
    obtain ⟨timebase, links, stations, _, assembler, slots, _⟩ := State.answered_frame w.freeReleased p 0x1A tag
      [0, 0, BitVec.ofNat 8 (left.length - (left.filter waits).length)]
    have freed := State.freeReleased_eq wSound
    have frame := w.freeReleased_frame
    have wAssembler : w.assembler = { s.assembler with table := left } := by
      have others : w.assembler = { u.assembler with table := w.assembler.table } := by cases p <;> rfl
      rw [others, table, State.requested_assembler]
    have wStore : w.store = s.store := (State.modPort_store u p _).trans (State.requested_store s dt p)
    have port (q : PortId) : (w.freeReleased.port q).subscribed = (w.port q).subscribed := by
      obtain ⟨_, _, same⟩ := frame.port q
      rw [same]
    let gone := left.filter fun e => !waits e
    have isSlots : (w.freeReleased.answered p 0x1A tag
        [0, 0, BitVec.ofNat 8 (left.length - (left.filter waits).length)]).store.slots =
        dropReferences (gone.flatMap Epoch.contributions) s.store.slots := by
      rw [slots, freed, ← foldl_dropReferences, table]
      exact congrArg (fun x : Store => gone.foldl (fun l e => dropReferences e.contributions l) x.slots) wStore
    refine ⟨_, run, ?_, State.answered_reply .., ⟨?_, ?_, ?_, ?_⟩, fun q other => ?_, ?_, ?_, ?_⟩
    · rw [State.answered_subscribed, port]
      cases p <;> rfl
    · rw [assembler, freed, table, wAssembler]
      rfl
    · rw [State.answered_pool, freed, table]
      exact congrArg (fun x : Store => x.poolFree + (gone.map fun e => e.contributions.length).sum) wStore
    · rw [isSlots, ← foldl_dropReferences]
      rfl
    · rw [isSlots]
      intro sorted y mem named
      have isNamed : named = namings (gone.flatMap Epoch.contributions) y.number := namings_flatMap gone y.number
      have own := dropReferences_own (gone.flatMap Epoch.contributions) sorted.1 mem
      rw [← isNamed] at own
      refine ⟨fun unnamed => mem_dropReferences_other _ mem fun c isIn same => ?_, own⟩
      rw [isNamed, namings, List.countP_eq_zero] at unnamed
      exact unnamed c isIn (decide_eq_true same)
    · rw [State.answered_subscribed, port]
      exact congrArg Port.subscribed ((State.modPort_ne u _ (Ne.symm other)).trans (State.requested_port_ne s dt other))
    · exact stations.trans (frame.stations.trans ((State.modPort_stations u p _).trans (State.requested_stations s dt p)))
    · exact links.trans (frame.links.trans ((State.modPort_links u p _).trans (State.requested_links s dt p)))
    · exact timebase.trans frame.timebase

end Sys2Proof.Machine
end

section
/-! PROOF. A station that releases its records: what the store keeps, what the ports are told, and what else of the part
moves (R67 to R76, R131 to R140). -/

namespace Sys2Proof.Machine

/-! ## Slots and ports while records are placed -/

/-- The ports have only had kinds raised, and no slot holds a record that it did not hold before. -/
structure SlotFrame (s t : State) : Prop where
  raises : Raises s t
  slots : ∀ z ∈ t.store.slots, ∃ y ∈ s.store.slots, z.number = y.number ∧ z.record = y.record

namespace SlotFrame

variable {s t u : State}

theorem refl (s : State) : SlotFrame s s := ⟨.refl s, fun z mem => ⟨z, mem, rfl, rfl⟩⟩

theorem trans (h : SlotFrame s t) (k : SlotFrame t u) : SlotFrame s u := by
  refine ⟨h.raises.trans k.raises, fun z mem => ?_⟩
  obtain ⟨y, mem, number, record⟩ := k.slots z mem
  obtain ⟨x, mem, number', record'⟩ := h.slots y mem
  exact ⟨x, mem, number.trans number', record.trans record'⟩

theorem foldl {α : Type} {f : State → α → State} (h : ∀ s x, SlotFrame s (f s x)) :
    ∀ (l : List α) (s : State), SlotFrame s (l.foldl f s)
  | [], s => .refl s
  | x :: xs, s => (h s x).trans (SlotFrame.foldl h xs (f s x))

theorem of_same (port : ∀ p, t.port p = s.port p) (slots : t.store.slots = s.store.slots) : SlotFrame s t :=
  ⟨.of_port port, fun z mem => ⟨z, slots ▸ mem, rfl, rfl⟩⟩

theorem of_sublist (port : ∀ p, t.port p = s.port p) (slots : ∀ z ∈ t.store.slots, z ∈ s.store.slots) : SlotFrame s t :=
  ⟨.of_port port, fun z mem => ⟨z, slots z mem, rfl, rfl⟩⟩

theorem raise (s : State) (k : NoticeKind) : SlotFrame s (s.raise k) :=
  ⟨.raise s k, fun z mem => ⟨z, mem, rfl, rfl⟩⟩

theorem raiseIf (s : State) (b : Bool) (k : NoticeKind) : SlotFrame s (s.raiseIf b k) := by
  unfold State.raiseIf
  split
  · exact .raise s k
  · exact .refl s

theorem modStation (s : State) (i : StationId) (f : Station → Station) : SlotFrame s (s.modStation i f) :=
  .of_same (fun p => by cases p <;> rfl) rfl

theorem modTracker (s : State) (i : StationId) (f : Tracker → Tracker) : SlotFrame s (s.modTracker i f) :=
  .modStation s i _

theorem count (s : State) (i : StationId) (f : StationCounters → StationCounters) : SlotFrame s (s.count i f) :=
  .modStation s i _

theorem modAssembler (s : State) (f : Assembler → Assembler) : SlotFrame s (s.modAssembler f) :=
  .of_same (fun p => by cases p <;> rfl) rfl

theorem modStore (s : State) {f : Store → Store} (same : (f s.store).slots = s.store.slots) :
    SlotFrame s (s.modStore f) := .of_same (fun p => by cases p <;> rfl) same

theorem freeSlot (s : State) (k : Nat) : SlotFrame s (s.freeSlot k) :=
  .of_sublist (fun p => by cases p <;> rfl) fun _ mem => List.mem_of_mem_filter mem

theorem modSlot (s : State) (k : Nat) {f : Slot → Slot} (same : ∀ y, (f y).number = y.number ∧ (f y).record = y.record) :
    SlotFrame s (s.modSlot k f) := by
  refine ⟨.of_port fun p => by cases p <;> rfl, fun z mem => ?_⟩
  obtain ⟨y, isIn, rfl⟩ := List.mem_map.mp mem
  refine ⟨y, isIn, ?_⟩
  split
  · exact same y
  · exact ⟨rfl, rfl⟩

theorem without (s : State) (e : Epoch) : SlotFrame s (s.without e) := by
  refine ⟨.of_port fun p => by cases p <;> rfl, fun z mem => ?_⟩
  obtain ⟨y, mem, same⟩ := of_mem_dropReferences e.contributions mem
  exact ⟨y, mem, by rw [same], by rw [same]⟩

theorem freeEpoch (s : State) (n : Nat) : SlotFrame s (s.freeEpoch n) := by
  cases found : s.epoch? n with
  | none => rw [State.freeEpoch_of_none found]; exact .refl s
  | some e => rw [State.freeEpoch_of_some found]; exact .without s e

theorem forceFree (s : State) (n : Nat) : SlotFrame s (s.forceFree n) := by
  refine ⟨.forceFree s n, ?_⟩
  cases found : s.epoch? n with
  | none => rw [State.forceFree_of_none found]; exact (refl s).slots
  | some e => rw [State.forceFree_of_some found]; exact (without (s.countForced e) e).slots

theorem evict (s : State) (n : Nat) : SlotFrame s (s.evict n) := (SlotFrame.forceFree s n).trans (.modAssembler _ _)

theorem createEpoch (s : State) (n : Nat) : SlotFrame s (s.createEpoch n) := .modAssembler s _

theorem enter (g : Grid) (period slot : Nat) (r : Record) (t : Timing) (s : State) (n : Nat) :
    SlotFrame s (s.enter g period slot r t n) := by
  cases found : s.epoch? n with
  | none => rw [State.enter_of_none found]; exact .refl s
  | some e =>
    have entered : SlotFrame s (s.withEntry g period slot r t e) := .of_same (fun p => by cases p <;> rfl) rfl
    rw [State.enter_of_some found]
    split
    · exact ((entered.trans (.modAssembler _ _)).trans (.count _ _ _)).trans (.raise _ _)
    · exact entered

theorem forceForSlots : ∀ (fuel : Nat) (s : State), SlotFrame s (s.forceForSlots fuel)
  | 0, s => .refl s
  | fuel + 1, s => by
    unfold State.forceForSlots
    split
    · split
      · exact (forceFree s _).trans (forceForSlots fuel _)
      · exact .refl s
    · exact .refl s

theorem forceForPool (p : Plan) : ∀ (fuel : Nat) (s : State), SlotFrame s (s.forceForPool p fuel)
  | 0, s => .refl s
  | fuel + 1, s => by
    unfold State.forceForPool
    split
    · split
      · exact (forceFree s _).trans (forceForPool p fuel _)
      · exact .refl s
    · exact .refl s

theorem settlePlan (g : Grid) (run : List Nat) : ∀ (fuel : Nat) (s : State), SlotFrame s (s.settlePlan g run fuel).2
  | 0, s => .refl s
  | fuel + 1, s => by
    unfold State.settlePlan
    dsimp only
    split
    · split
      · exact (forceForPool _ _ s).trans (settlePlan g run fuel _)
      · exact .refl s
    · exact .refl s

theorem closeEpoch (cause : EpochState) (s : State) (n : Nat) : SlotFrame s (s.closeEpoch cause n) := by
  cases found : s.epoch? n with
  | none => rw [State.closeEpoch_of_none found]; exact .refl s
  | some e =>
    cases isClosed : e.isClosed with
    | true => rw [State.closeEpoch_of_closed found isClosed]; exact .refl s
    | false =>
      have closed : SlotFrame s (s.closed cause n) := (SlotFrame.modAssembler s _).trans
        ((SlotFrame.modAssembler _ _).trans (.raise _ _))
      have shut : SlotFrame s (s.shut cause e) := by
        rw [(State.epoch?_some found).2.symm] at closed
        unfold State.shut
        split
        · exact closed.trans (.freeEpoch _ _)
        · exact closed
      rw [State.closeEpoch_forming found isClosed]
      split
      · exact shut
      · exact shut.trans (.forceForSlots _ _)

theorem evalCompletion (s : State) : SlotFrame s s.evalCompletion := by
  unfold State.evalCompletion
  split
  · exact .refl s
  · exact .foldl (fun s n => .closeEpoch _ s n) _ s

theorem carryOut (g : Grid) (period slot : Nat) (r : Record) (t : Timing) (p : Plan) (s : State) :
    SlotFrame s (s.carryOut g period slot r t p) := by
  have counted := (((foldl evict p.evictions s).trans (foldl createEpoch p.creations _)).trans
    (foldl (enter g period slot r t) p.entries _)).trans (count _ r.station fun y =>
      { y with tooLate := bumpBy y.tooLate p.tooLate })
  unfold State.carryOut
  dsimp only
  split
  · exact counted.trans (.freeSlot _ _)
  · exact counted.trans (.modSlot _ _ fun _ => ⟨rfl, rfl⟩)

theorem dropExhausted (s : State) (slot : Nat) (i : StationId) : SlotFrame s (s.dropExhausted slot i) :=
  (((count s i _).trans (.modStore (f := fun t => { t with poolShortages := bump t.poolShortages }) _ rfl)).trans
    (.freeSlot _ _)).trans (.raise _ _)

theorem place (g : Grid) (period slot : Nat) (r : Record) (t : Timing) (s : State) :
    SlotFrame s (s.place g period slot r t) := by
  refine .trans ?_ (.evalCompletion _)
  unfold State.placeRecord
  dsimp only
  split
  · exact (count s r.station _).trans (.freeSlot _ _)
  · split
    · exact (count s r.station _).trans (.freeSlot _ _)
    · have settled := settlePlan g
        (List.range' (g.epochAt t.start).toNat
          (g.epochAt (t.start + duration period t.rho (r.n - 1)) - g.epochAt t.start + 1).toNat)
        (s.assembler.table.length + 1) s
      split
      · next p u plan =>
        rw [plan] at settled
        exact settled.trans (.carryOut _ _ _ _ _ _ _)
      · next u plan =>
        rw [plan] at settled
        exact settled.trans (.dropExhausted _ _ _)

theorem correct (stream : Stream) (i : StationId) (slot : Nat) (s : State) : SlotFrame s (s.correct stream i slot) :=
  State.correct_induction (.refl s) SlotFrame.trans (fun a f => (count a i f).trans (.freeSlot _ _))
    (fun _ _ _ _ => (modStation s i _).trans (.modSlot _ _ fun _ => ⟨rfl, rfl⟩))
    fun a g period r t => .place g period slot r t a

end SlotFrame

/-! ## The timing of a record of its own station -/

/-- Of the part's tables a release moves no more than its own station's counters, tracking and expectation, and of the
counters none of the tracker's; ports and slots as a slot frame has it. -/
structure Releases (i : StationId) (s t : State) : Prop extends TrackingFrame i s t, SlotFrame s t where
  counters : (s.station i).counters.SameTracking (t.station i).counters

namespace Releases

variable {i : StationId} {s t u : State}

theorem refl (i : StationId) (s : State) : Releases i s s := ⟨.refl i s, .refl s, .refl _⟩

theorem trans (h : Releases i s t) (k : Releases i t u) : Releases i s u :=
  ⟨h.toTrackingFrame.trans k.toTrackingFrame, h.toSlotFrame.trans k.toSlotFrame, h.counters.trans k.counters⟩

theorem modTracker (s : State) (i : StationId) (f : Tracker → Tracker) : Releases i s (s.modTracker i f) :=
  ⟨s.modTracker_tracking i f, .modTracker s i f, by rw [State.modTracker, State.modStation_self]; exact .refl _⟩

theorem count (s : State) (i : StationId) {f : StationCounters → StationCounters}
    (h : (s.station i).counters.SameTracking (f (s.station i).counters)) : Releases i s (s.count i f) :=
  ⟨s.count_tracking i f, .count s i f, by rw [State.count_self]; exact h⟩

theorem of_assembly (h : AssemblyFrame s t) (k : SlotFrame s t) : Releases i s t :=
  ⟨h.tracking i, k, by rw [State.station, State.station, h.stations]; exact .refl _⟩

theorem evalCompletion (s : State) : Releases i s s.evalCompletion :=
  of_assembly s.evalCompletion_frame (.evalCompletion s)

theorem place {r : Record} (own : r.station = i) (g : Grid) (period slot : Nat) (t : Timing) (s : State) :
    Releases i s (s.place g period slot r t) := by
  subst own
  have placing := s.place_placing g period slot r t
  obtain ⟨c, isC, same⟩ := placing.counted
  exact ⟨placing.toTrackingFrame, .place g period slot r t s, by rw [isC]; exact same⟩

theorem countFreed (s : State) (i : StationId) (slot : Nat) {f : StationCounters → StationCounters}
    (h : (s.station i).counters.SameTracking (f (s.station i).counters)) : Releases i s (s.countFreed i slot f) :=
  (count s i h).trans (of_assembly (State.freeSlot_frame _ slot) (.freeSlot _ slot))

theorem timedAt (s : State) (stream : Stream) (i : StationId) (slot : Nat) (r : Record) (c : Case) (t : Timing)
    (stop : Int) : Releases i s (s.timedAt stream i slot r c t stop) := by
  have timed : Releases i s (s.modStation i fun y => y.afterTiming stream r c stop) := by
    refine ⟨s.modStation_tracking i _ ?_, .modStation s i _, ?_⟩
    · cases stream <;> exact ⟨_, _, _, rfl⟩
    · rw [State.modStation_self]
      cases stream
      · exact ⟨rfl, rfl, rfl, rfl, rfl, rfl, rfl⟩
      · exact .refl _
  exact timed.trans (of_assembly (State.modSlot_frame _ slot _) (.modSlot _ slot fun _ => ⟨rfl, rfl⟩))

/-- A record released to its own station touches no other (R127 to R140). -/
theorem correct {slot : Nat} (own : ∀ y ∈ s.store.slots, y.number = slot → y.record.station = i) (stream : Stream) :
    Releases i s (s.correct stream i slot) := by
  cases found : s.slot? slot with
  | none => rw [State.correct_of_none found]; exact .refl i s
  | some x =>
    have isOwn : x.record.station = i :=
      own x (List.mem_of_find?_eq_some found) (by simpa using List.find?_some found)
    cases h : (s.station i).time stream x.record with
    | untimed => rw [State.correct_untimed found h]; exact .countFreed s i slot ⟨rfl, rfl, rfl, rfl, rfl, rfl, rfl⟩
    | beyondSpan => rw [State.correct_beyondSpan found h]; exact .countFreed s i slot ⟨rfl, rfl, rfl, rfl, rfl, rfl, rfl⟩
    | timed c t stop =>
      cases grid : s.timebase.grid with
      | none =>
        rw [State.correct_noGrid found h grid]
        exact (timedAt s stream i slot _ c t stop).trans (.countFreed _ i slot ⟨rfl, rfl, rfl, rfl, rfl, rfl, rfl⟩)
      | some g =>
        rw [State.correct_placed found h grid]
        exact (timedAt s stream i slot _ c t stop).trans (.place isOwn _ _ _ _ _)

/-- What a slot named before names, it names afterwards. -/
theorem owned (h : Releases i s t) {k : Nat} (own : ∀ y ∈ s.store.slots, y.number = k → y.record.station = i) :
    ∀ y ∈ t.store.slots, y.number = k → y.record.station = i := fun z mem number => by
  obtain ⟨y, mem, same, record⟩ := h.slots z mem
  rw [record]
  exact own y mem (same.symm.trans number)

end Releases

end Sys2Proof.Machine
end

section
/-! PROOF. A station that declares a gap and advances (R73 to R76): O42. -/

namespace Sys2Proof.Machine

/-! ## A run of held records that follow q (R69) -/

/-- Held records that follow q one after another without a break (R69, step 4). -/
def runsFrom : Seq → List Held → Prop
  | _, [] => True
  | q, h :: rest => h.seq = q ∧ runsFrom (q + 1) rest

theorem seq_add_succ (q : Seq) (n : Nat) : q + 1 + BitVec.ofNat 16 n = q + BitVec.ofNat 16 (n + 1) := by
  rw [BitVec.ofNat_add, BitVec.add_assoc]
  exact congrArg (q + ·) (BitVec.add_comm _ _)

theorem seq_add_zero (q : Seq) : q + BitVec.ofNat 16 0 = q := BitVec.add_zero q

theorem runsFrom_iff (q : Seq) (run : List Held) : runsFrom q run ↔
    run.map Held.seq = (List.range run.length).map fun k => q + BitVec.ofNat 16 k := by
  induction run generalizing q with
  | nil => simp [runsFrom]
  | cons h rest ih =>
    rw [runsFrom, ih, List.length_cons, List.range_succ_eq_map, List.map_cons, List.map_cons, List.map_map, List.cons.injEq]
    simp only [Function.comp_def, Nat.succ_eq_add_one, ← seq_add_succ]
    exact and_congr (by simp) Iff.rfl

theorem drainTo_stop {q : Seq} {others : List Held} (stop : ∀ o ∈ others.head?, o.seq ≠ q) :
    drainTo q others = (q, others) := by
  cases others with
  | nil => rfl
  | cons o rest => exact if_neg (stop o rfl)

/-- A drain passes the run and stops behind it (R69, step 4). -/
theorem drainTo_run {run others : List Held} : ∀ {q : Seq}, runsFrom q run →
    (∀ o ∈ others.head?, o.seq ≠ q + BitVec.ofNat 16 run.length) →
    drainTo q (run ++ others) = (q + BitVec.ofNat 16 run.length, others) := by
  induction run with
  | nil =>
    intro q _ stop
    rw [List.length_nil, seq_add_zero] at stop ⊢
    exact drainTo_stop stop
  | cons h rest ih =>
    intro q run stop
    obtain ⟨front, run⟩ := run
    rw [List.length_cons, ← seq_add_succ] at stop ⊢
    exact (if_pos front).trans (ih run stop)

/-- A drain stops where the lowest held record is not at q. -/
theorem State.drain_stop {s : State} {i : StationId} {q : Seq} (isQ : (s.station i).tracker.q = some q)
    (stop : ∀ o ∈ (s.station i).tracker.hold.head?, o.seq ≠ q) (fuel : Nat) : s.drain i fuel = s := by
  cases fuel with
  | zero => rfl
  | succ fuel =>
    unfold State.drain
    split
    · next p h rest isP isHold =>
      obtain rfl := Option.some.inj (isQ.symm.trans isP)
      exact if_neg (stop h (by rw [isHold]; rfl))
    · rfl

theorem State.drain_front {s : State} {i : StationId} {h : Held} {rest : List Held}
    (isQ : (s.station i).tracker.q = some h.seq) (hold : (s.station i).tracker.hold = h :: rest) (fuel : Nat) :
    s.drain i (fuel + 1) =
      ((s.modTracker i fun t => { t with q := some (h.seq + 1), hold := rest }).correct .main i h.slot).drain i fuel := by
  rw [State.drain]
  simp only [isQ, hold, if_true]

theorem State.tracker_of_bare {t : State} {i : StationId} {k : Tracker} (bare : t.bare i = k.bare) :
    (t.station i).tracker = { k with covered := (t.station i).tracker.covered } := by
  have same : (t.station i).tracker.bare = k.bare := bare
  rw [Tracker.bare, Tracker.bare, Tracker.mk.injEq] at same
  obtain ⟨q, hold, due, gaps, _⟩ := same
  cases isT : (t.station i).tracker
  rw [isT] at q hold due gaps
  cases q; cases hold; cases due; cases gaps
  rfl

/-- A drain of a run of the station's own records touches no other station (R69). -/
theorem State.drain_releases {i : StationId} (run : List Held) : ∀ {others : List Held} {q : Seq} {s : State} {fuel : Nat},
    run.length ≤ fuel → (s.station i).tracker.q = some q → (s.station i).tracker.hold = run ++ others → runsFrom q run →
    (∀ o ∈ others.head?, o.seq ≠ q + BitVec.ofNat 16 run.length) →
    (∀ h ∈ run, ∀ y ∈ s.store.slots, y.number = h.slot → y.record.station = i) → Releases i s (s.drain i fuel) := by
  induction run with
  | nil =>
    intro others q s fuel _ isQ hold _ stop _
    rw [List.length_nil, seq_add_zero] at stop
    rw [State.drain_stop isQ (by rw [hold]; exact stop)]
    exact .refl i s
  | cons h rest ih =>
    intro others q s fuel enough isQ hold run stop own
    obtain ⟨rfl, run⟩ := run
    obtain ⟨fuel, rfl⟩ := Nat.exists_eq_add_of_le' (Nat.one_le_of_lt (Nat.lt_of_lt_of_le (Nat.succ_pos _) enough))
    rw [List.length_cons, ← seq_add_succ] at stop
    rw [State.drain_front isQ hold]
    have taken := Releases.modTracker s i fun t => { t with q := some (h.seq + 1), hold := rest ++ others }
    have timed := Releases.correct (i := i) (s := s.modTracker i fun t =>
      { t with q := some (h.seq + 1), hold := rest ++ others }) (own h List.mem_cons_self) .main
    have bare : (((s.modTracker i fun t => { t with q := some (h.seq + 1), hold := rest ++ others }).correct .main i
        h.slot).bare i) = { s.bare i with q := some (h.seq + 1), hold := rest ++ others } := by
      rw [State.bare_correct, State.bare_takeHeld, Function.update_self]
    have both := taken.trans timed
    refine both.trans (ih (Nat.le_of_succ_le_succ enough) (congrArg Tracker.q bare) (congrArg Tracker.hold bare) run stop
      fun x mem => both.owned (own x (List.mem_cons_of_mem _ mem)))

/-! ## A station that advances (R73, R76) -/

/-- What moves while a station releases records and declares `n` gaps: ports and slots as a slot frame has it, and of
the station its tracking, expectation and counters, of which "in sequence" and "held" stay. -/
structure Advances (i : StationId) (n : Nat) (s t : State) : Prop extends TrackingFrame i s t, SlotFrame s t where
  inSequence : (t.station i).counters.inSequence = (s.station i).counters.inSequence
  heldCount : (t.station i).counters.held = (s.station i).counters.held
  declared : (t.station i).counters.gapsDeclared = bump^[n] (s.station i).counters.gapsDeclared

namespace Advances

variable {i : StationId} {s t u : State} {n m : Nat}

theorem trans (h : Advances i n s t) (k : Advances i m t u) : Advances i (m + n) s u :=
  ⟨h.toTrackingFrame.trans k.toTrackingFrame, h.toSlotFrame.trans k.toSlotFrame, k.inSequence.trans h.inSequence,
    k.heldCount.trans h.heldCount, by rw [k.declared, h.declared, Function.iterate_add_apply]⟩

theorem of_releases (h : Releases i s t) : Advances i 0 s t :=
  ⟨h.toTrackingFrame, h.toSlotFrame, h.counters.inSequence, h.counters.held, h.counters.gapsDeclared⟩

/-- A notice raised after a change of the station's tracking and counters. -/
theorem put {x : Station} (own : ∃ c k e, x = { s.station i with counters := c, tracker := k, expectation := e })
    (b : Bool) (k : NoticeKind) (inSequence : x.counters.inSequence = (s.station i).counters.inSequence)
    (held : x.counters.held = (s.station i).counters.held)
    (declared : x.counters.gapsDeclared = bump^[n] (s.station i).counters.gapsDeclared) :
    Advances i n s ((s.setStation i x).raiseIf b k) := by
  have isX : ((s.setStation i x).raiseIf b k).station i = x := by rw [State.raiseIf_station, State.setStation_self]
  refine ⟨.trans (s.modStation_tracking i (fun _ => x) own) ((State.raiseIf_frame _ b k).tracking i),
    (SlotFrame.modStation s i fun _ => x).trans (.raiseIf _ b k), ?_, ?_, ?_⟩ <;> rw [isX]
  · exact inSequence
  · exact held
  · exact declared

theorem abandonWhere (s : State) (i : StationId) (out : Gap → Bool) : Advances i 0 s (s.abandonWhere i out) := by
  rw [State.abandonWhere_eq]
  exact put ⟨_, _, _, rfl⟩ _ _ rfl rfl rfl

theorem ageGaps (s : State) (i : StationId) : Advances i 0 s (s.ageGaps i) := by
  unfold State.ageGaps
  split
  · exact abandonWhere s i _
  · exact of_releases (.refl i s)

end Advances

/-- A station with a gap declared, the oldest of four being abandoned (R76). -/
def Station.declares (first last : Seq) (x : Station) : Station :=
  { x with
    tracker := x.tracker.declared first last
    counters := { x.counters with
      gapsDeclared := bump x.counters.gapsDeclared
      gapsAbandoned := if gapLimit ≤ x.tracker.gaps.length then bump x.counters.gapsAbandoned
        else x.counters.gapsAbandoned } }

theorem bumpBy_one (n : Nat) : bumpBy n 1 = bump n := rfl

theorem State.createGap_eq (s : State) (i : StationId) (first last : Seq) : s.createGap i first last =
    (s.setStation i ((s.station i).declares first last)).raiseIf
      (decide (gapLimit ≤ (s.station i).tracker.gaps.length)) .gap := by
  unfold State.createGap Station.declares Tracker.declared
  dsimp only
  split
  · next full =>
    simp only [State.countAbandoned, State.modTracker_eq, State.count_eq, State.setStation_self,
      State.setStation_setStation, State.raiseIf_station, State.raiseIf_setStation, decide_eq_true full]
    rfl
  · next room =>
    simp only [State.modTracker_eq, State.count_eq, State.setStation_self, State.setStation_setStation,
      decide_eq_false room]
    rfl

theorem Advances.createGap (s : State) (i : StationId) (first last : Seq) :
    Advances i 1 s (s.createGap i first last) := by
  rw [State.createGap_eq]
  exact put ⟨_, _, _, rfl⟩ _ _ rfl rfl rfl

/-- The drain of a run, the timer of an empty hold and the aged gaps (R69, R73). -/
theorem Advances.settle {s : State} {i : StationId} {run others : List Held} {q : Seq}
    (isQ : (s.station i).tracker.q = some q) (hold : (s.station i).tracker.hold = run ++ others) (isRun : runsFrom q run)
    (stop : ∀ o ∈ others.head?, o.seq ≠ q + BitVec.ofNat 16 run.length)
    (own : ∀ h ∈ run, ∀ y ∈ s.store.slots, y.number = h.slot → y.record.station = i) :
    Advances i 0 s (((s.drainHold i).restHold i).ageGaps i) := by
  have enough : run.length ≤ (s.station i).tracker.hold.length := by rw [hold, List.length_append]; omega
  exact (Advances.of_releases ((State.drain_releases run enough isQ hold isRun stop own).trans
    (.modTracker _ i _))).trans (.ageGaps _ i)

theorem State.createGap_tracker (s : State) (i : StationId) (first last : Seq) :
    ((s.createGap i first last).station i).tracker = (s.station i).tracker.declared first last := by
  rw [State.createGap_eq, State.raiseIf_station, State.setStation_self]
  rfl

theorem State.createGap_slots (s : State) (i : StationId) (first last : Seq) :
    (s.createGap i first last).store.slots = s.store.slots := by
  rw [State.createGap_eq, State.raiseIf_store]
  rfl

/-- One declare-and-advance to the lowest held record, or to a record that finds none held (R73). -/
theorem Advances.declareAdvance {s : State} {i : StationId} {run others : List Held} {h : Seq} (q : Seq)
    (hold : (s.station i).tracker.hold = run ++ others) (isRun : runsFrom h run)
    (stop : ∀ o ∈ others.head?, o.seq ≠ h + BitVec.ofNat 16 run.length)
    (own : ∀ x ∈ run, ∀ y ∈ s.store.slots, y.number = x.slot → y.record.station = i) :
    Advances i 1 s (s.declareAdvance i q h) := by
  unfold State.declareAdvance
  dsimp only
  have moved := (Advances.createGap s i q (h - 1)).trans (.of_releases (.modTracker _ i fun t => { t with q := some h }))
  refine moved.trans (Advances.settle (run := run) (others := others) (q := h) ?_ ?_ isRun stop ?_)
  · rw [State.modTracker, State.modStation_self]
  · rw [State.modTracker, State.modStation_self, State.createGap_tracker]
    exact hold
  · have slots : ((s.createGap i q (h - 1)).modTracker i fun t => { t with q := some h }).store.slots = s.store.slots :=
      State.createGap_slots s i q (h - 1)
    rw [slots]
    exact own

/-! ## Giving up (R71, R75) -/

theorem Releases.startHold (s : State) (i : StationId) : Releases i s (s.startHold i) :=
  ⟨s.modStation_tracking i _ ⟨_, _, _, rfl⟩, .modStation s i _, by
    rw [State.startHold, State.modStation_self]; exact .refl _⟩

theorem Releases.renewHold (s : State) (i : StationId) : Releases i s (s.renewHold i) := by
  unfold State.renewHold
  split
  · exact .modTracker s i _
  · exact .startHold s i

/-- Tracking with its hold timer started again, or stopped on an empty hold (R71, R75). -/
theorem State.renewHold_tracker (s : State) (i : StationId) : ((s.renewHold i).station i).tracker =
    { (s.station i).tracker with
      holdDue := if (s.station i).tracker.hold = [] then none
        else some (s.partTime + (s.station i).config.holdTime * 1000) } := by
  unfold State.renewHold
  split
  · next empty => rw [State.modTracker, State.modStation_self]
  · next held => rw [State.startHold, State.modStation_self]

/-- The gaps that are left when the list is aged against q (R76). -/
theorem Gap.not_aged (q : Seq) (g : Gap) : (!g.aged q) =
    (decide (1 ≤ stepsAfter g.first q) && decide (stepsAfter g.first q ≤ 32767)) := by
  rw [Gap.aged, Bool.eq_iff_iff]
  simp only [Bool.not_eq_true', Bool.or_eq_false_iff, decide_eq_false_iff_not, Bool.and_eq_true, decide_eq_true_eq]
  omega

/-- Giving up declares one gap and releases the lowest held record (R71, R73, R75). -/
theorem State.giveUp_spec {s : State} {i : StationId} {q : Seq} {h : Held} {others : List Held}
    (isQ : (s.station i).tracker.q = some q) (hold : (s.station i).tracker.hold = h :: others)
    (stop : ∀ o ∈ others.head?, o.seq ≠ h.seq + 1)
    (own : ∀ y ∈ s.store.slots, y.number = h.slot → y.record.station = i) :
    Advances i 1 s (s.giveUp i) ∧ ((s.giveUp i).station i).tracker.q = some (h.seq + 1) ∧
    ((s.giveUp i).station i).tracker.hold = others ∧
    ((s.giveUp i).station i).tracker.holdDue =
      (if others = [] then none else some (s.partTime + (s.station i).config.holdTime * 1000)) ∧
    ((s.giveUp i).station i).tracker.gaps =
      ((s.station i).tracker.declared q (h.seq - 1)).gaps.filter fun g => !g.aged (h.seq + 1) := by
  have up : s.giveUp i = (s.declareAdvance i q h.seq).renewHold i := by simp only [State.giveUp, isQ, hold]
  have advances : Advances i 1 s (s.declareAdvance i q h.seq) :=
    .declareAdvance (run := [h]) (others := others) q hold ⟨rfl, trivial⟩ stop
      (fun x mem => by obtain rfl := List.mem_singleton.mp mem; exact own)
  have bare : (s.declareAdvance i q h.seq).bare i = ((s.bare i).declared q (h.seq - 1)).movedTo h.seq := by
    rw [State.bare_declareAdvance, Function.update_self, Tracker.advanced]
  have drained : drainTo h.seq ((s.bare i).declared q (h.seq - 1)).hold = (h.seq + 1, others) := by
    have isHold : ((s.bare i).declared q (h.seq - 1)).hold = [h] ++ others := hold
    rw [isHold]
    exact drainTo_run (run := [h]) ⟨rfl, trivial⟩ stop
  have moved : ((s.declareAdvance i q h.seq).bare i).q = some (h.seq + 1) ∧
      ((s.declareAdvance i q h.seq).bare i).hold = others ∧
      ((s.declareAdvance i q h.seq).bare i).gaps =
        ((s.bare i).declared q (h.seq - 1)).gaps.filter fun g => !g.aged (h.seq + 1) := by
    rw [bare, Tracker.movedTo_q, Tracker.movedTo_hold, Tracker.movedTo_gaps, drained]
    exact ⟨rfl, rfl, rfl⟩
  obtain ⟨isQ', hold', gaps'⟩ := moved
  generalize s.declareAdvance i q h.seq = w at *
  have hold' : (w.station i).tracker.hold = others := hold'
  obtain ⟨c, k, e, isOwn⟩ := advances.own
  rw [up]
  refine ⟨advances.trans (.of_releases (.renewHold _ i)), ?_⟩
  rw [State.renewHold_tracker]
  refine ⟨isQ', hold', ?_, gaps'⟩
  rw [hold', State.partTime, advances.timebase, isOwn]
  rfl

/-- A command that makes a station give up: the state `w` it gives up in, and the command's effect (R71, R75). -/
structure GivesUp (dt : Nat) (l : LinkId) (i : StationId) (c : Instr) (s w : State) : Prop where
  links : ∀ k, k ≠ l → w.link k = s.link k
  stations : w.stations = s.stations
  timebase : w.timebase = (s.advance dt).timebase
  reservations : w.reservations = s.reservations
  store : w.store = s.store
  run : exec c s = .next ((w.giveUp i).evalCompletion).endEvent

theorem GivesUp.timer {dt : Nat} (l : LinkId) {i : StationId} {s : State} {d : Nat} (running : s.held = false)
    (timer : (s.station i).tracker.holdDue = some d) (due : d ≤ (s.advance dt).partTime) :
    GivesUp dt l i (.holdTimerExpiry dt i) s (s.advance dt) := by
  refine ⟨fun k _ => State.advance_link s dt k, State.advance_stations s dt, rfl, State.advance_reservations s dt,
    State.advance_store s dt, State.event_of_eq (body := (State.holdExpires · i)) running ?_⟩
  have isDue : (s.advance dt).isDue ((s.advance dt).station i).tracker.holdDue = true := by
    rw [State.advance_station, timer]
    exact State.isDue_of_due due
  exact if_pos isDue

/-- An entry that has left the queue before its station gives up. -/
theorem GivesUp.popped {dt : Nat} {l : LinkId} {i : StationId} {c : Instr} {s : State}
    (run : exec c s = .next ((((s.advance dt).popHead l).giveUp i).evalCompletion).endEvent) :
    GivesUp dt l i c s ((s.advance dt).popHead l) :=
  ⟨fun _ other => (State.modLink_ne _ _ (Ne.symm other)).trans (State.advance_link s dt _), State.advance_stations s dt,
    rfl, State.advance_reservations s dt, State.advance_store s dt, run⟩

theorem GivesUp.damaged {dt : Nat} {l : LinkId} {i : StationId} {s : State} {kind : Byte} {fault : EntryFault}
    {rest : List Entry} (running : s.held = false) (isOpen : (s.link l).blocked = false)
    (queue : (s.link l).queue = .damaged i kind fault :: rest) (enabled : (s.station i).enabled = true) :
    GivesUp dt l i (.headDamaged dt l) s ((s.advance dt).popHead l) := by
  refine popped (State.event_of_eq (body := (State.headDamaged · l)) running ?_)
  simp only [State.headDamaged, State.head?_of_open (s := s.advance dt) isOpen queue]
  exact State.ifEnabled_enabled (s := s.advance dt) enabled _

theorem GivesUp.burstFail {dt : Nat} {l : LinkId} {i : StationId} {s : State} {address : Byte} {rest : List Entry}
    (running : s.held = false) (isOpen : (s.link l).blocked = false)
    (queue : (s.link l).queue = .burstFail (some address) :: rest) (found : s.lookup l address = some i) :
    GivesUp dt l i (.headBurstFail dt l) s ((s.advance dt).popHead l) := by
  refine popped (State.event_of_eq (body := (State.headBurstFail · l)) running ?_)
  have resolved : (s.advance dt).resolve l (some address) = some i := found
  simp only [State.headBurstFail, State.head?_of_open (s := s.advance dt) isOpen queue, resolved]

/-- What a giving up leaves of the part (R71, R73, R75, R76). -/
theorem GivesUp.effect {dt : Nat} {l : LinkId} {i : StationId} {c : Instr} {s w : State} (gives : GivesUp dt l i c s w)
    {q : Seq} {h : Held} {others : List Held} (isQ : (s.station i).tracker.q = some q)
    (hold : (s.station i).tracker.hold = h :: others) (stop : ∀ o ∈ others.head?, o.seq ≠ h.seq + 1)
    (own : ∀ y ∈ s.store.slots, y.number = h.slot → y.record.station = i) :
    let t := (w.giveUp i).evalCompletion
    TrackingFrame i w t ∧ (t.station i).tracker.q = some (h.seq + 1) ∧ (t.station i).tracker.hold = others ∧
    (t.station i).tracker.holdDue = (if others = [] then none
      else some ((s.advance dt).partTime + (s.station i).config.holdTime * 1000)) ∧
    (t.station i).tracker.gaps =
      ((s.station i).tracker.declared q (h.seq - 1)).gaps.filter (fun g => !g.aged (h.seq + 1)) ∧
    (t.station i).counters.gapsDeclared = bump (s.station i).counters.gapsDeclared := by
  intro t
  have station (j : StationId) : w.station j = s.station j := congrArg (·[j]) gives.stations
  have now : w.partTime = (s.advance dt).partTime := congrArg (fun t : Timebase => t.oscNs / 1000000) gives.timebase
  obtain ⟨advances, isQ', hold', due', gaps'⟩ := State.giveUp_spec (s := w) (by rw [station]; exact isQ)
    (by rw [station]; exact hold) stop (by rw [gives.store]; exact own)
  have declared := advances.declared
  rw [station] at declared due' gaps'
  rw [now] at due'
  have frame := (w.giveUp i).evalCompletion_frame
  have after : t.station i = (w.giveUp i).station i := congrArg (·[i]) frame.stations
  rw [after]
  exact ⟨advances.toTrackingFrame.trans (frame.tracking i), isQ', hold', due', gaps', declared⟩

/-- Settles O42. -/
theorem givingUpDeclaresAGap : Obligations.GivingUpDeclaresAGap := by
  refine ⟨fun dt l i kind fault rest s running isOpen queue disabled => ?_, fun dt l i c s running isOpen cause => ?_⟩
  · refine State.event_of_eq (body := (State.headDamaged · l)) running ?_
    simp only [State.headDamaged, State.head?_of_open (s := s.advance dt) isOpen queue]
    exact State.ifEnabled_disabled (s := s.advance dt) disabled queue _
  intro x
  have gives : ∃ w, GivesUp dt l i c s w ∧
      ((∀ d, c ≠ .holdTimerExpiry d i) → w = (s.advance dt).modLink l fun y => { y with queue := y.queue.tail }) := by
    rcases cause with ⟨rfl, d, timer, due⟩ | ⟨rfl, enabled, kind, fault, rest, queue⟩ | ⟨rfl, address, rest, queue, found⟩
    · exact ⟨_, .timer l running timer due, fun other => absurd rfl (other dt)⟩
    · exact ⟨_, .damaged running isOpen queue enabled, fun _ => rfl⟩
    · exact ⟨_, .burstFail running isOpen queue found, fun _ => rfl⟩
  obtain ⟨w, gives, isW⟩ := gives
  have station (j : StationId) : w.station j = s.station j := congrArg (·[j]) gives.stations
  refine ⟨fun q h others isQ hold stop own => ⟨_, gives.run, ?_⟩, fun empty other => ?_⟩
  · obtain ⟨frame, isQ', hold', due', gaps', declared⟩ := gives.effect isQ hold stop own
    obtain ⟨c, k, e, isOwn⟩ := frame.own
    rw [station] at isOwn
    generalize (w.giveUp i).evalCompletion = t at *
    rw [State.endEvent_station, State.endEvent_timebase, State.endEvent_reservations]
    refine ⟨fun j other => ?_, isQ', hold', due', ?_, declared, ?_, ?_, ?_, frame.timebase.trans gives.timebase,
      frame.reservations.trans gives.reservations, fun k other => ?_⟩
    · rw [State.endEvent_station, frame.others j other, station]
    · rw [gaps']
      simp only [Gap.not_aged]
      rfl
    · rw [isOwn]
    · rw [isOwn]
    · rw [isOwn]
    · rw [State.endEvent_link, State.link, frame.links]
      exact gives.links k other
  · have idle : w.giveUp i = w := by
      have isEmpty : (w.station i).tracker.hold = [] := by rw [station]; exact empty
      unfold State.giveUp
      split
      · next isHold => rw [isEmpty] at isHold; cases isHold
      · rfl
    rw [gives.run, idle, isW other]

end Sys2Proof.Machine
end

section
/-! PROOF. DATA heads, the slots they take and the waiting list (R37, R168, R169, R173, R175): O37. -/

namespace Sys2Proof.Machine

/-! ## Taking and freeing slots (R168, R170) -/

theorem State.slotsFree_iff (s : State) : s.slotsFree ≠ 0 ↔ s.store.slots.length < 4096 := by
  unfold State.slotsFree State.slotsInUse slotCount
  omega

/-- What the lowest FREE slot is (R168). -/
theorem State.lowestFree_spec {s : State} (sound : s.slotsSound) (room : s.store.slots.length < 4096) :
    lowestFree 0 s.store.slots < 4096 ∧ (∀ y ∈ s.store.slots, y.number ≠ lowestFree 0 s.store.slots) ∧
    ∀ j, j < lowestFree 0 s.store.slots → ∃ y ∈ s.store.slots, y.number = j :=
  ⟨State.lowestFree_lt room, State.lowestFree_free sound, fun j below =>
    exists_of_lt_lowestFree s.store.slots 0 j (Nat.zero_le j) below⟩

/-- The state in which a record has taken slot k (R168). -/
def State.withSlot (s : State) (k : Nat) (r : Record) : State :=
  s.modStore fun t => { t with slots := insertSlot { number := k, record := r, timing := none, refs := 0 } t.slots }

theorem State.takeData_eq {s : State} {l : LinkId} {r : Record} {rest : List Entry} {e : Entry}
    (queue : (s.link l).queue = e :: rest) : s.takeData l r =
      (((s.modLink l fun x => { x with queue := rest }).withSlot (lowestFree 0 s.store.slots) r).track r.station
        (lowestFree 0 s.store.slots) r.seq).evalCompletion := by
  rw [State.takeData, State.popHead_eq queue]
  rfl

/-! ## Completion of a state that has been evaluated (R157) -/

/-- Nothing to close where no epoch was complete before and none has changed, nor any station's cover. -/
theorem State.evalCompletion_of_settled {s t : State} (settled : s.settled) (grid : t.timebase.grid = s.timebase.grid)
    (table : t.assembler.table = s.assembler.table) (same : ∀ j, (t.station j).tracker.gaps = (s.station j).tracker.gaps ∧
      (t.station j).tracker.covered = (s.station j).tracker.covered) : t.evalCompletion = t := by
  cases set : t.timebase.grid with
  | none => simp only [State.evalCompletion, set]
  | some g =>
    have incomplete (e : Epoch) : t.complete g e = s.complete g e := by
      simp only [State.complete, Station.covers, same]
    have none : t.assembler.table.filter (t.complete g) = [] := by
      rw [List.filter_eq_nil_iff, table]
      intro e mem
      rw [incomplete, settled g (grid ▸ set) e mem]
      exact nofun
    rw [State.evalCompletion_of_grid set, none]
    rfl

/-! ## A record held (R70) -/

/-- A station with a record held in slot k (R70). -/
def Station.holds (q : Seq) (k now : Nat) (a : Seq) (x : Station) : Station :=
  { x with
    tracker := { x.tracker with
      hold := insertHeld q { slot := k, seq := a } x.tracker.hold
      holdDue := if x.tracker.hold = [] then some (now + x.config.holdTime * 1000) else x.tracker.holdDue }
    counters := { x.counters with held := bump x.counters.held } }

/-- A record not held yet is held (R70). -/
theorem State.holdRecord_fresh {s : State} {i : StationId} {a : Seq} (q : Seq) (slot : Nat)
    (fresh : ∀ h ∈ (s.station i).tracker.hold, h.seq ≠ a) :
    s.holdRecord i slot q a = s.setStation i ((s.station i).holds q slot s.partTime a) := by
  have absent : ((s.station i).tracker.hold.any fun h => decide (h.seq = a)) = false := by simpa using fresh
  unfold State.holdRecord Station.holds
  simp only [absent, Bool.false_eq_true, if_false]
  split
  · simp only [State.modTracker_eq, State.count_eq, State.setStation_self, State.setStation_setStation, State.startHold,
      State.modStation_eq]
    rfl
  · simp only [State.modTracker_eq, State.count_eq, State.setStation_self, State.setStation_setStation]

/-- A record 1 to 8 steps after q and not held yet is held (R67, R70). -/
theorem State.track_early {s : State} {i : StationId} {q a : Seq} (slot : Nat)
    (isQ : (s.station i).tracker.q = some q) (after : 1 ≤ stepsAfter q a) (near : stepsAfter q a ≤ 8)
    (fresh : ∀ h ∈ (s.station i).tracker.hold, h.seq ≠ a) :
    s.track i slot a = s.setStation i ((s.station i).holds q slot s.partTime a) := by
  have ahead : ¬ a = q := fun same => by rw [stepsAfter_eq_zero.mpr same] at after; omega
  simp only [State.track, isQ, if_pos near, State.takeNear, if_neg ahead]
  exact State.holdRecord_fresh q slot fresh

/-- An early record at a queue's head is held in the lowest FREE slot, and completes no epoch (R70, R157, R168). -/
theorem State.takeData_early {s : State} {l : LinkId} {r : Record} {rest : List Entry} {e : Entry} {q : Seq}
    (queue : (s.link l).queue = e :: rest) (settled : s.settled)
    (isQ : (s.station r.station).tracker.q = some q) (after : 1 ≤ stepsAfter q r.seq) (near : stepsAfter q r.seq ≤ 8)
    (fresh : ∀ h ∈ (s.station r.station).tracker.hold, h.seq ≠ r.seq) : s.takeData l r =
      ((s.modLink l fun x => { x with queue := rest }).withSlot (lowestFree 0 s.store.slots) r).setStation r.station
        ((s.station r.station).holds q (lowestFree 0 s.store.slots) s.partTime r.seq) := by
  rw [State.takeData_eq queue, State.track_early (s := (s.modLink l fun x => { x with queue := rest }).withSlot _ r)
    (q := q) _ isQ after near fresh]
  refine State.evalCompletion_of_settled settled rfl rfl fun j => ?_
  rw [State.station_setStation]
  split
  · next same => subst same; exact ⟨rfl, rfl⟩
  · exact ⟨rfl, rfl⟩

/-! ## Blocked heads (R168, R173, R175) -/

/-- The state in which a head has blocked, before the policy for slots (R168). -/
def State.withBlocked (s : State) (l : LinkId) : State :=
  ((s.modLink l fun x => { x with blocked := true }).modStore fun t =>
    { t with waiting := t.waiting ++ [l], headBlocks := bump t.headBlocks }).raise .store

theorem State.withBlocked_link (s : State) (l m : LinkId) : (s.withBlocked l).link m =
    if m = l then { s.link l with blocked := true } else s.link m := by
  show (s.modLink l fun x => { x with blocked := true }).link m = _
  rw [State.link_modLink]
  exact if_congr eq_comm rfl rfl

theorem State.withBlocked_raises (s : State) (l : LinkId) : Raises s (s.withBlocked l) :=
  (Raises.of_port fun p => by cases p <;> rfl : Raises s ((s.modLink l fun x => { x with blocked := true }).modStore fun t =>
    { t with waiting := t.waiting ++ [l], headBlocks := bump t.headBlocks })).trans (.raise _ _)

theorem State.withBlocked_raised (s : State) (l : LinkId) : KindRaised 0x20 s (s.withBlocked l) :=
  .before (.of_port fun p => by cases p <;> rfl : Raises s ((s.modLink l fun x => { x with blocked := true }).modStore
    fun t => { t with waiting := t.waiting ++ [l], headBlocks := bump t.headBlocks })) (.raise _ .store)

theorem State.blockHead_eq (s : State) (l : LinkId) : s.blockHead l =
    if s.slotsFree = 0 then (s.withBlocked l).slotPolicy else s.withBlocked l := by
  have same : (s.withBlocked l).slotsFree = s.slotsFree := rfl
  rw [← same]
  rfl

theorem State.slotShortage_iff (s : State) : s.slotShortage = true ↔ 4096 - s.store.slots.length < s.store.waiting.length :=
  decide_eq_true_iff

theorem State.oldestClosed_eq_none {s : State} : s.oldestClosed = none ↔ ∀ e ∈ s.assembler.table, e.state = .forming := by
  rw [State.oldestClosed, Option.map_eq_none_iff, List.find?_eq_none]
  simp only [Bool.not_eq_true, Epoch.isClosed_eq_false_iff]

theorem State.forceForSlots_none {s : State} (forming : ∀ e ∈ s.assembler.table, e.state = .forming) (fuel : Nat) :
    s.forceForSlots fuel = s := by
  cases fuel with
  | zero => rfl
  | succ fuel =>
    unfold State.forceForSlots
    simp only [State.oldestClosed_eq_none.mpr forming, ite_self]

theorem State.forceForSlots_enough {s : State} (enough : s.slotShortage = false) (fuel : Nat) : s.forceForSlots fuel = s := by
  cases fuel with
  | zero => rfl
  | succ fuel => exact if_neg (by rw [enough]; exact nofun)

/-- Forced frees end when the slots suffice or no epoch is CLOSED (R173). -/
theorem State.forceForSlots_ends : ∀ (fuel : Nat) (s : State), s.assembler.table.length ≤ fuel →
    (s.forceForSlots fuel).slotShortage = false ∨ ∀ e ∈ (s.forceForSlots fuel).assembler.table, e.state = .forming
  | 0, s, few => .inr (by
      have empty : s.assembler.table = [] := List.length_eq_zero_iff.mp (Nat.le_zero.mp few)
      intro e mem
      rw [State.forceForSlots, empty] at mem
      cases mem)
  | fuel + 1, s, few => by
    unfold State.forceForSlots
    split
    · split
      · next n oldest =>
        refine State.forceForSlots_ends fuel (s.forceFree n) ?_
        obtain ⟨e, found, number⟩ := Option.map_eq_some_iff.mp oldest
        have mem := List.mem_of_find?_eq_some found
        rw [State.forceFree_table]
        have shorter : (s.assembler.table.filter fun x => decide (x.number ≠ n)).length < s.assembler.table.length :=
          List.length_filter_lt_length_iff_exists.mpr ⟨e, mem, by simp [number]⟩
        omega
      · next none => exact .inr (State.oldestClosed_eq_none.mp none)
    · next enough => exact .inl (Bool.eq_false_iff.mpr enough)

/-- What a forced free does to a port (R175, R184). -/
theorem State.forceFree_port {s : State} {n : Nat} {e : Epoch} (found : s.epoch? n = some e) (p : PortId) :
    (s.forceFree n).port p = { s.port p with
      notices := (s.port p).notices ||| (0x20 &&& (s.port p).mask)
      forcedFrees := if e.needed.has p = true ∧ e.released.has p = false then bump (s.port p).forcedFrees
        else (s.port p).forcedFrees } := by
  have counted (x : Port) (needed released : Bool) : (x.countForced (needed && !released)).raise .store = { x with
      notices := x.notices ||| (0x20 &&& x.mask)
      forcedFrees := if needed = true ∧ released = false then bump x.forcedFrees else x.forcedFrees } := by
    cases needed <;> cases released <;> rfl
  rw [State.forceFree_of_some found]
  cases p
  · exact counted s.mp0 e.needed.mp0 e.released.mp0
  · exact counted s.mp1 e.needed.mp1 e.released.mp1

/-- Forced frees leave the waiting list and its count alone (R173, R175). -/
theorem State.forceFree_store (s : State) (n : Nat) : (s.forceFree n).store.waiting = s.store.waiting ∧
    (s.forceFree n).store.headBlocks = s.store.headBlocks := by
  cases found : s.epoch? n with
  | none => rw [State.forceFree_of_none found]; exact ⟨rfl, rfl⟩
  | some e => rw [State.forceFree_of_some found]; exact ⟨rfl, rfl⟩

theorem State.forceForSlots_store : ∀ (fuel : Nat) (s : State), (s.forceForSlots fuel).store.waiting = s.store.waiting ∧
    (s.forceForSlots fuel).store.headBlocks = s.store.headBlocks
  | 0, _ => ⟨rfl, rfl⟩
  | fuel + 1, s => by
    unfold State.forceForSlots
    split
    · split
      · next n _ =>
        obtain ⟨waiting, blocks⟩ := State.forceForSlots_store fuel (s.forceFree n)
        obtain ⟨waiting', blocks'⟩ := State.forceFree_store s n
        exact ⟨waiting.trans waiting', blocks.trans blocks'⟩
      · exact ⟨rfl, rfl⟩
    · exact ⟨rfl, rfl⟩

/-! ## The DATA head and WAITING_LIST_SERVE (R37, R168, R169) -/

section Heads

variable {s : State} {l : LinkId} {r : Record} {rest : List Entry}

theorem State.headData_enabled (isOpen : (s.link l).blocked = false) (queue : (s.link l).queue = .data r :: rest)
    (enabled : (s.station r.station).enabled = true) : s.headData l =
      if s.store.waiting = [] ∧ s.slotsFree ≠ 0 then s.takeData l r else s.blockHead l := by
  simp only [State.headData, State.head?_of_open isOpen queue]
  rw [State.ifEnabled_enabled enabled]
  rfl

theorem State.serveWaiting_idle (idle : s.store.waiting = [] ∨ s.slotsFree = 0) (fuel : Nat) : s.serveWaiting fuel = s := by
  cases fuel with
  | zero => rfl
  | succ fuel =>
    unfold State.serveWaiting
    split
    · rfl
    · next waits =>
      refine if_pos (idle.resolve_left ?_)
      rw [waits]
      exact nofun

/-- The state in which a link has left the waiting list with an open head (R169). -/
def State.opened (s : State) (l : LinkId) (waiting : List LinkId) : State :=
  (s.modLink l fun x => { x with blocked := false }).modStore fun y => { y with waiting := waiting }

theorem State.opened_link (s : State) (l : LinkId) (waiting : List LinkId) :
    (s.opened l waiting).link l = { s.link l with blocked := false }   := State.modLink_self s l fun x => { x with blocked := false }

/-- The link at the head of the waiting list is served first (R169). -/
theorem State.serveWaiting_first {more : List LinkId} (waits : s.store.waiting = l :: more) (once : l ∉ more)
    (queue : (s.link l).queue = .data r :: rest) (room : s.slotsFree ≠ 0) (fuel : Nat) :
    s.serveWaiting (fuel + 1) = ((s.opened l more).takeData l r).serveWaiting fuel := by
  have left : (s.store.waiting.filter fun x => decide (x ≠ l)) = more := by
    rw [waits, List.filter_cons_of_neg (by simp), List.filter_eq_self.mpr]
    exact fun x mem => decide_eq_true fun same => once (same ▸ mem)
  have opened : (s.leaveWaiting l).modLink l (fun x => { x with blocked := false }) = s.opened l more := by
    rw [State.leaveWaiting, State.opened, ← left]
    rfl
  have queue' : ((s.opened l more).link l).queue = .data r :: rest := by rw [State.opened_link]; exact queue
  rw [State.serveWaiting, waits]
  simp only [if_neg room, State.serveLink, opened, queue']

end Heads

/-- The policy for slots where one CLOSED epoch makes up what lacks (R173, R175). -/
theorem State.slotPolicy_one {s : State} {e : Epoch} {before after : List Epoch}
    (table : s.assembler.table = before ++ e :: after) (forming : ∀ d ∈ before, d.state = .forming)
    (closed : e.state ≠ .forming) (shortage : s.slotShortage = true)
    (enough : (s.forceFree e.number).slotShortage = false) : s.slotPolicy = s.forceFree e.number := by
  have oldest : s.oldestClosed = some e.number := by
    have first : s.assembler.table.find? Epoch.isClosed = some e := by
      rw [table, List.find?_append, List.find?_eq_none.mpr fun d mem => by
        rw [(Epoch.isClosed_eq_false_iff d).mpr (forming d mem)]; exact nofun]
      exact List.find?_cons_of_pos ((Epoch.isClosed_iff e).mpr closed)
    rw [State.oldestClosed, first]
    rfl
  obtain ⟨n, length⟩ : ∃ n, s.assembler.table.length = n + 1 := ⟨before.length + after.length, by
    rw [table, List.length_append, List.length_cons]; omega⟩
  rw [State.slotPolicy, length, State.forceForSlots]
  simp only [if_pos shortage, oldest]
  exact State.forceForSlots_enough enough n

theorem Port.choose_forcedFrees (x : Port) (now : Nat) : (x.choose now).forcedFrees = x.forcedFrees := by
  unfold Port.choose
  split
  · split
    · rfl
    · split <;> rfl
  · rfl
  · rfl

/-- Settles O37. -/
theorem dataHeadsBlockAndAreServed : Obligations.DataHeadsBlockAndAreServed := by
  intro dt l r rest s running queue
  have queue' : ((s.advance dt).link l).queue = .data r :: rest := by rw [State.advance_link]; exact queue
  have free : (s.advance dt).slotsFree ≠ 0 ↔ s.store.slots.length < 4096 := State.slotsFree_iff (s.advance dt)
  have used (full : s.store.slots.length = 4096) : (s.advance dt).slotsFree = 0 :=
    of_not_not fun left => by have := free.mp left; omega
  -- a head that blocks
  have blocks (isOpen : (s.link l).blocked = false) (enabled : (s.station r.station).enabled = true)
      (must : s.store.waiting ≠ [] ∨ s.store.slots.length = 4096) : (s.advance dt).headData l =
        (s.advance dt).blockHead l := by
    refine (State.headData_enabled (s := s.advance dt) isOpen queue' enabled).trans (if_neg fun ⟨idle, left⟩ => ?_)
    exact must.elim (fun waits => waits idle) fun full => left (used full)
  refine ⟨fun isOpen disabled => ?_, fun isOpen enabled full => ?_, fun waits enabled room => ?_, fun idle => ?_,
    fun isOpen enabled full => ?_, fun more waits once room => ?_⟩
  · refine State.event_of_eq (body := (State.headData · l)) running ?_
    simp only [State.headData, State.head?_of_open (s := s.advance dt) isOpen queue]
    exact State.ifEnabled_disabled (s := s.advance dt) disabled queue _
  · refine State.event_of_eq (body := (State.headData · l)) running ?_
    refine (blocks isOpen enabled (full.imp And.left And.left)).trans ((State.blockHead_eq _ l).trans ?_)
    rcases full with ⟨_, room⟩ | ⟨_, forming⟩
    · exact if_neg (free.mpr room)
    · have same : ((s.advance dt).withBlocked l).slotPolicy = (s.advance dt).withBlocked l :=
        State.forceForSlots_none (s := (s.advance dt).withBlocked l) forming _
      rw [same]
      exact ite_self _
  · have one : (s.advance dt).store.waiting.length = 0 + 1 := by rw [State.advance_store, waits]; rfl
    have serve : (s.advance dt).serveWaiting (s.advance dt).store.waiting.length =
        ((s.advance dt).opened l []).takeData l r := by
      rw [one]
      exact State.serveWaiting_first (s := s.advance dt) waits (List.not_mem_nil) queue' (free.mpr room) 0
    have head : ((s.advance dt).opened l []).headData l = ((s.advance dt).opened l []).takeData l r := by
      refine (State.headData_enabled (s := (s.advance dt).opened l []) (r := r) (rest := rest) ?_ ?_ enabled).trans
        (if_pos ⟨rfl, free.mpr room⟩) <;> rw [State.opened_link]
      exact queue'
    exact (State.event_of_eq (body := fun s => s.serveWaiting s.store.waiting.length) running serve).trans
      (State.event_of_eq (s := s.opened l []) (body := (State.headData · l)) running head).symm
  · refine State.event_of_eq (body := fun s => s.serveWaiting s.store.waiting.length) running ?_
    exact State.serveWaiting_idle (idle.imp_right used) _
  · have policy : (s.advance dt).headData l = ((s.advance dt).withBlocked l).slotPolicy :=
      (blocks isOpen enabled (.inr full)).trans ((State.blockHead_eq _ l).trans (if_pos (used full)))
    have run := State.event_of_eq (body := (State.headData · l)) running policy
    refine ⟨⟨_, run, ?_⟩, fun e before after sound table forming closed => ?_⟩
    · have frame := ((s.advance dt).withBlocked l).slotPolicy_frame
      have ends := State.forceForSlots_ends ((s.advance dt).withBlocked l).assembler.table.length
        ((s.advance dt).withBlocked l) le_rfl
      obtain ⟨waiting, headBlocks⟩ := State.forceForSlots_store ((s.advance dt).withBlocked l).assembler.table.length
        ((s.advance dt).withBlocked l)
      have raises : Raises ((s.advance dt).withBlocked l) ((s.advance dt).withBlocked l).slotPolicy :=
        .forceForSlots _ _
      have isLink (m : LinkId) : ((s.advance dt).withBlocked l).link m =
          if m = l then { s.link l with blocked := true } else s.link m := State.withBlocked_link (s.advance dt) l m
      have stations : ((s.advance dt).withBlocked l).stations = s.stations := rfl
      have isWaiting : ((s.advance dt).withBlocked l).store.waiting = s.store.waiting ++ [l] := rfl
      have isBlocks : ((s.advance dt).withBlocked l).store.headBlocks = bump s.store.headBlocks := rfl
      have before : Raises s ((s.advance dt).withBlocked l) :=
        (Raises.of_port (State.advance_port s dt)).trans (State.withBlocked_raises (s.advance dt) l)
      have told : KindRaised 0x20 s ((s.advance dt).withBlocked l) :=
        .before (.of_port (State.advance_port s dt)) (State.withBlocked_raised (s.advance dt) l)
      rw [State.slotPolicy] at frame raises ⊢
      generalize (s.advance dt).withBlocked l = w at *
      generalize State.forceForSlots _ w = t at *
      have link (m : LinkId) : t.endEvent.link m = w.link m := by
        rw [State.endEvent_link, State.link, frame.links, State.link]
      refine ⟨?_, fun k other => ?_, frame.stations.trans stations, waiting.trans isWaiting, headBlocks.trans isBlocks,
        ends.imp_left fun enough => ?_, fun p line => (told.after raises before).endEvent (before.trans raises) p line⟩
      · rw [link, isLink, if_pos rfl]
      · rw [link, isLink, if_neg other]
      · have few := mt (State.slotShortage_iff t).mpr (by rw [enough]; exact nofun)
        have some : 1 ≤ t.store.waiting.length := by rw [waiting, isWaiting, List.length_append]; exact Nat.le_add_left 1 _
        show t.store.slots.length + t.store.waiting.length ≤ 4096
        omega
    · intro left enough
      have mem : e ∈ s.assembler.table := by rw [table]; exact List.mem_append_right _ List.mem_cons_self
      have forced := State.forceFree_of_some (State.epoch?_of_mem (s := (s.advance dt).withBlocked l) sound mem)
      have shortage : ((s.advance dt).withBlocked l).slotShortage = true := by
        refine (State.slotShortage_iff _).mpr ?_
        show 4096 - s.store.slots.length < (s.store.waiting ++ [l]).length
        rw [full, List.length_append]
        exact Nat.succ_pos _
      have suffices_ : (((s.advance dt).withBlocked l).forceFree e.number).slotShortage = false := by
        rw [forced]
        refine decide_eq_false ?_
        show ¬ 4096 - left.length < (s.store.waiting ++ [l]).length
        rw [List.length_append, List.length_singleton]
        omega
      have one : ((s.advance dt).withBlocked l).slotPolicy = _ :=
        (State.slotPolicy_one (s := (s.advance dt).withBlocked l) table forming closed shortage suffices_).trans forced
      have gone : (s.assembler.table.filter fun x => decide (x.number ≠ e.number)) = before ++ after := by
        have sorted := sound.2
        rw [table] at sorted ⊢
        exact filter_number_ne sorted
      have ports (p : PortId) : (((s.advance dt).withBlocked l).forceFree e.number).endEvent.port p = _ :=
        (State.endEvent_port _ p).trans (congrArg (Port.choose _) (State.forceFree_port
          (State.epoch?_of_mem (s := (s.advance dt).withBlocked l) sound mem) p))
      rw [forced] at ports
      rw [one] at run
      refine ⟨_, run, ?_, rfl, rfl, rfl, fun p => ?_, rfl, rfl⟩
      · rw [← gone]
        rfl
      · rw [ports, Port.choose_forcedFrees]
        cases p <;> rfl
  · intro open_
    have isOpened : open_ = (s.advance dt).opened l more := rfl
    have first : (s.advance dt).serveWaiting (s.advance dt).store.waiting.length =
        (open_.takeData l r).serveWaiting more.length := by
      rw [State.advance_store, waits, List.length_cons]
      exact State.serveWaiting_first (s := s.advance dt) waits once queue' (free.mpr room) more.length
    refine ⟨State.event_of_eq (body := fun s => s.serveWaiting s.store.waiting.length) running first,
      fun q almost sound settled isQ after near fresh => ?_⟩
    obtain ⟨low, unused, _⟩ := State.lowestFree_spec sound room
    have isQueue : (open_.link l).queue = .data r :: rest := by
      rw [isOpened, State.opened_link]
      exact queue'
    have taken := State.takeData_early (s := open_) isQueue settled isQ after near fresh
    refine ⟨_, low, unused, State.event_of_eq (body := fun s => s.serveWaiting s.store.waiting.length) running ?_⟩
    rw [first, taken, State.serveWaiting_idle (.inr ?_)]
    · rfl
    · have length : (insertSlot { number := lowestFree 0 s.store.slots, record := r, timing := none, refs := 0 }
          s.store.slots).length = 4096 := by rw [insertSlot_length, almost]
      exact of_not_not fun some => absurd ((State.slotsFree_iff _).mp some) (by
        show ¬ (insertSlot { number := lowestFree 0 s.store.slots, record := r, timing := none, refs := 0 }
          s.store.slots).length < 4096
        rw [length]
        exact lt_irrefl _)

end Sys2Proof.Machine
end

section
/-! PROOF. The samples of a record cut by epoch (R130, R145 to R147): O40. -/

namespace Sys2Proof.Machine

/-! ## Durations (R2, R130) -/

/-- Rounding moves a quotient by no more than a half (R2). -/
theorem roundDiv_bounds (n : Int) {m : Nat} (positive : 0 < m) :
    2 * n - m ≤ 2 * m * roundDiv n m ∧ 2 * m * roundDiv n m ≤ 2 * n + m := by
  have split := Nat.div_add_mod (2 * n.natAbs + m) (2 * m)
  have small := Nat.mod_lt (2 * n.natAbs + m) (show 0 < 2 * m by omega)
  have quotient : ((2 * m * ((2 * n.natAbs + m) / (2 * m)) : Nat) : Int) =
      2 * m * ((2 * n.natAbs + m) / (2 * m) : Nat) := by push_cast; ring
  unfold roundDiv
  dsimp only
  generalize (2 * n.natAbs + m) / (2 * m) = q at *
  split
  · rw [mul_neg, ← quotient]
    omega
  · rw [← quotient]
    omega

theorem duration_zero (period : Nat) (rho : Int) : duration period rho 0 = 0 := by
  simp [duration, roundDiv, nsPerSecond]

/-- One sample more lasts longer, but by less than a second (R130). -/
theorem duration_step (rate : Rate) {rho : Int} (low : -100000 ≤ rho) (high : rho ≤ 100000) (i : Nat) :
    duration rate.period rho i < duration rate.period rho (i + 1) ∧
    duration rate.period rho (i + 1) ≤ duration rate.period rho i + nsPerSecond := by
  have here := roundDiv_bounds ((i : Int) * rate.period * rho) (m := nsPerSecond) (by decide)
  have next := roundDiv_bounds (((i + 1 : Nat) : Int) * rate.period * rho) (m := nsPerSecond) (by decide)
  have moved : ((i + 1 : Nat) : Int) * rate.period * rho = (i : Int) * rate.period * rho + rate.period * rho := by
    push_cast; ring
  have spans : ((i + 1 : Nat) : Int) * rate.period = (i : Int) * rate.period + rate.period := by push_cast; ring
  unfold duration
  rw [moved] at next ⊢
  rw [spans]
  generalize (i : Int) * rate.period * rho = a at *
  generalize (i : Int) * rate.period = b at *
  generalize roundDiv a nsPerSecond = x at *
  generalize roundDiv _ nsPerSecond = y at *
  simp only [nsPerSecond] at *
  cases rate <;> simp only [Rate.period] at * <;> omega

/-- The time of a record's sample i (R130). -/
def sampleTime (rate : Rate) (rho start : Int) (i : Nat) : Int := start + duration rate.period rho i

section Samples

variable (rate : Rate) {rho : Int} (start : Int)

theorem sampleTime_strictMono (low : -100000 ≤ rho) (high : rho ≤ 100000) : StrictMono (sampleTime rate rho start) :=
  strictMono_nat_of_lt_succ fun i => by
    have := (duration_step rate low high i).1
    unfold sampleTime
    omega

theorem sampleTime_succ (low : -100000 ≤ rho) (high : rho ≤ 100000) (i : Nat) :
    sampleTime rate rho start (i + 1) ≤ sampleTime rate rho start i + 1000000000 := by
  have := (duration_step rate low high i).2
  simp only [nsPerSecond] at this
  unfold sampleTime
  omega

end Samples

/-! ## The first sample at or after a time (R147) -/

theorem firstIndexFrom_spec (period : Nat) (rho start t : Int) : ∀ (fuel i : Nat),
    firstIndexFrom period rho start t fuel i ≤ i + fuel ∧
    (∀ j, i ≤ j → j < firstIndexFrom period rho start t fuel i → start + duration period rho j < t) ∧
    (firstIndexFrom period rho start t fuel i < i + fuel →
      t ≤ start + duration period rho (firstIndexFrom period rho start t fuel i))
  | 0, i => ⟨le_rfl, fun j from_ upTo => absurd upTo (not_lt.mpr from_), fun less => absurd less (lt_irrefl _)⟩
  | fuel + 1, i => by
    obtain ⟨most, before, at_⟩ := firstIndexFrom_spec period rho start t fuel (i + 1)
    unfold firstIndexFrom
    split
    · next reached =>
      exact ⟨by omega, fun j from_ upTo => by omega, fun _ => reached⟩
    · next early =>
      refine ⟨by omega, fun j from_ upTo => ?_, fun less => at_ (by omega)⟩
      by_cases here : j = i
      · rw [here]; exact not_le.mp early
      · exact before j (by omega) upTo

/-- The samples before a time are those below its first index (R147). -/
theorem lt_firstIndex_iff {rate : Rate} {rho : Int} (low : -100000 ≤ rho) (high : rho ≤ 100000) (start t : Int) {n i : Nat}
    (below : i < n) : i < firstIndex rate.period rho start n t ↔ sampleTime rate rho start i < t := by
  obtain ⟨_, before, at_⟩ := firstIndexFrom_spec rate.period rho start t n 0
  rw [Nat.zero_add] at at_
  refine ⟨before i (Nat.zero_le i), fun early => ?_⟩
  by_contra late
  have later : firstIndex rate.period rho start n t ≤ i := not_lt.mp late
  have reached := at_ (lt_of_le_of_lt later below)
  have order := (sampleTime_strictMono rate start low high).monotone later
  exact absurd (lt_of_le_of_lt (reached.trans order) early) (lt_irrefl t)

theorem firstIndex_le (period : Nat) (rho start : Int) (n : Nat) (t : Int) : firstIndex period rho start n t ≤ n :=
  (firstIndexFrom_spec period rho start t n 0).1.trans (Nat.zero_add n).le

theorem firstIndex_mono {rate : Rate} {rho : Int} (low : -100000 ≤ rho) (high : rho ≤ 100000) (start : Int) (n : Nat)
    {t u : Int} (order : t ≤ u) : firstIndex rate.period rho start n t ≤ firstIndex rate.period rho start n u := by
  by_contra more
  have less := not_le.mp more
  have below := lt_of_lt_of_le less (firstIndex_le rate.period rho start n t)
  have early := (lt_firstIndex_iff low high start t below).mp less
  exact lt_irrefl _ ((lt_firstIndex_iff low high start u below).mpr (early.trans_le order))

/-! ## Epochs of the grid (R22, R144) -/

theorem Grid.epochEnd_succ (g : Grid) (m : Nat) : g.epochEnd m = g.epochStart (m + 1) := by
  unfold Grid.epochEnd Grid.epochStart
  push_cast
  ring

theorem Grid.epochStart_mono (g : Grid) {m n : Nat} (order : m ≤ n) : g.epochStart m ≤ g.epochStart n := by
  have step : (m : Int) * g.e ≤ n * g.e := by exact_mod_cast Nat.mul_le_mul_right g.e order
  unfold Grid.epochStart
  simp only [nsPerSecond]
  omega

theorem Grid.epochAt_iff (g : Grid) (some : 1 ≤ g.e) (t : Int) (m : Nat) :
    g.epochAt t = m ↔ g.epochStart m ≤ t ∧ t < g.epochEnd m := by
  have positive : (0 : Int) < (g.e : Int) * nsPerSecond := by simp only [nsPerSecond]; omega
  unfold Grid.epochAt
  rw [Int.ediv_eq_iff_of_pos positive]
  unfold Grid.epochEnd Grid.epochStart
  have spread : ((g.o : Int) + m * g.e) * nsPerSecond = g.o * nsPerSecond + m * (g.e * nsPerSecond) := by ring
  rw [spread]
  constructor <;> intro h <;> constructor <;> omega

/-- Settles O40. -/
theorem contributionsCutTheRecordExactly : Obligations.ContributionsCutTheRecordExactly := by
  intro g rate slot r t late first last some samples low high isFirst isLast cut
  let time := sampleTime rate t.rho t.start
  let index := firstIndex rate.period t.rho t.start r.n
  have counts (u : Int) {i : Nat} (below : i < r.n) : i < index u ↔ time i < u := lt_firstIndex_iff low high t.start u below
  have mono {u v : Int} (order : u ≤ v) : index u ≤ index v := firstIndex_mono low high t.start r.n order
  have most (u : Int) : index u ≤ r.n := firstIndex_le ..
  have begins : time 0 = t.start := by simp [time, sampleTime, duration_zero]
  have isI0 (m : Nat) : (cut m).i0 = index (g.epochStart m) := rfl
  have isCount (m : Nat) : (cut m).count = index (g.epochEnd m) - index (g.epochStart m) := rfl
  have length (m : Nat) : g.epochStart m ≤ g.epochEnd m := by
    rw [Grid.epochEnd_succ]; exact g.epochStart_mono (Nat.le_succ m)
  have ends (m : Nat) : (cut m).i0 + (cut m).count = index (g.epochEnd m) := by
    rw [isI0, isCount]; exact Nat.add_sub_of_le (mono (length m))
  obtain ⟨afterFirst, beforeEnd⟩ := (g.epochAt_iff some t.start first).mp isFirst.symm
  obtain ⟨afterLast, beforeLast⟩ := (g.epochAt_iff some (time (r.n - 1)) last).mp isLast.symm
  refine ⟨?_, ?_, fun m from_ upTo => ?_⟩
  · rw [isI0]
    by_contra positive
    have early := (counts (g.epochStart first) (i := 0) samples).mp (Nat.pos_of_ne_zero positive)
    rw [begins] at early
    exact absurd (early.trans_le afterFirst) (lt_irrefl _)
  · rw [ends]
    have all := (counts (g.epochEnd last) (i := r.n - 1) (by omega)).mpr beforeLast
    have := most (g.epochEnd last)
    omega
  -- the first sample of epoch m is one of the record's, and lies inside the epoch
  have inside : index (g.epochStart m) < r.n := by
    by_contra all
    have before := (counts (g.epochStart m) (i := r.n - 1) (by omega)).mp (by omega)
    exact absurd (before.trans_le ((g.epochStart_mono upTo).trans afterLast)) (lt_irrefl _)
  have reached : g.epochStart m ≤ time (index (g.epochStart m)) :=
    not_lt.mp fun early => lt_irrefl _ ((counts _ inside).mpr early)
  have held : time (index (g.epochStart m)) < g.epochEnd m := by
    cases at_ : index (g.epochStart m) with
    | zero =>
      rw [begins]
      refine beforeEnd.trans_le ?_
      rw [Grid.epochEnd_succ, Grid.epochEnd_succ]
      exact g.epochStart_mono (Nat.succ_le_succ from_)
    | succ i =>
      have early := (counts (g.epochStart m) (i := i) (by omega)).mp (by omega)
      have step : time (i + 1) ≤ time i + 1000000000 := sampleTime_succ rate t.start low high i
      have long : g.epochStart m + 1000000000 ≤ g.epochEnd m := by
        unfold Grid.epochEnd
        simp only [nsPerSecond]
        omega
      omega
  have ordered : index (g.epochStart m) < index (g.epochEnd m) := (counts _ inside).mpr held
  have isStart : g.epochStart m = ((g.o : Int) + m * g.e) * 1000000000 := rfl
  have isOffset : (cut m).offset = time (index (g.epochStart m)) - g.epochStart m := rfl
  refine ⟨?_, ?_, ?_, ?_, ?_, fun i from_ upTo => ?_⟩
  · rw [isCount]; omega
  · rw [ends, isI0, Grid.epochEnd_succ]
  · rw [isOffset]; omega
  · rw [isOffset]
    have isEnd : g.epochEnd m = g.epochStart m + g.e * 1000000000 := rfl
    omega
  · rw [isOffset, isStart]; rfl
  · rw [ends] at upTo
    rw [isI0] at from_
    have below : i < r.n := lt_of_lt_of_le upTo (most _)
    exact (g.epochAt_iff some _ m).mpr ⟨reached.trans ((sampleTime_strictMono rate t.start low high).monotone from_),
      (counts _ below).mp upTo⟩

end Sys2Proof.Machine
end

section
/-! PROOF. A record that has taken a slot and is released to its station: timed, or counted and freed (R127 to R140,
R168 to R170). -/

namespace Sys2Proof.Machine

/-! ## The slot that a record has taken (R168, R170) -/

section Slots

variable {x : Slot} {l : List Slot}

theorem find?_insertSlot (unused : ∀ y ∈ l, y.number ≠ x.number) :
    (insertSlot x l).find? (fun y => decide (y.number = x.number)) = some x := by
  induction l with
  | nil => simp [insertSlot]
  | cons z zs ih =>
    rw [insertSlot]
    split
    · simp
    · rw [List.find?_cons_of_neg (by simpa using unused z List.mem_cons_self)]
      exact ih fun y mem => unused y (List.mem_cons_of_mem _ mem)

theorem filter_insertSlot (unused : ∀ y ∈ l, y.number ≠ x.number) :
    (insertSlot x l).filter (fun y => decide (y.number ≠ x.number)) = l := by
  induction l with
  | nil => simp [insertSlot]
  | cons z zs ih =>
    have rest := ih fun y mem => unused y (List.mem_cons_of_mem _ mem)
    have all : (z :: zs).filter (fun y => decide (y.number ≠ x.number)) = z :: zs :=
      List.filter_eq_self.mpr fun y mem => decide_eq_true (unused y mem)
    rw [insertSlot]
    split
    · rw [List.filter_cons_of_neg (by simp), all]
    · rw [List.filter_cons_of_pos (by simpa using unused z List.mem_cons_self), rest]

theorem map_insertSlot (unused : ∀ y ∈ l, y.number ≠ x.number) {f : Slot → Slot} (number : (f x).number = x.number) :
    (insertSlot x l).map (fun y => if y.number = x.number then f y else y) = insertSlot (f x) l := by
  induction l with
  | nil => simp [insertSlot]
  | cons z zs ih =>
    have rest := ih fun y mem => unused y (List.mem_cons_of_mem _ mem)
    have all : (z :: zs).map (fun y => if y.number = x.number then f y else y) = z :: zs :=
      (List.map_congr_left (g := id) fun y mem => if_neg (unused y mem)).trans (List.map_id _)
    rw [insertSlot, insertSlot, number]
    split
    · rw [List.map_cons, if_pos rfl, all]
    · rw [List.map_cons, if_neg (unused z List.mem_cons_self), rest]

end Slots

section Taken

variable {s : State} {k : Nat} (r : Record) (unused : ∀ y ∈ s.store.slots, y.number ≠ k)

include unused

theorem State.slot?_withSlot : (s.withSlot k r).slot? k = some { number := k, record := r, timing := none, refs := 0 } :=
  find?_insertSlot (x := { number := k, record := r, timing := none, refs := 0 }) unused

theorem State.freeSlot_withSlot : (s.withSlot k r).freeSlot k = s := by
  have same := filter_insertSlot (x := { number := k, record := r, timing := none, refs := 0 }) unused
  unfold State.freeSlot State.withSlot State.modStore
  simp only [same]

/-- The state in which a record's slot keeps its timing (R137, R138). -/
theorem State.modSlot_withSlot (t : Timing) : (s.withSlot k r).modSlot k (fun y => { y with timing := some t }) =
    s.modStore fun y => { y with
      slots := insertSlot { number := k, record := r, timing := some t, refs := 0 } y.slots } := by
  have same := map_insertSlot (x := { number := k, record := r, timing := none, refs := 0 }) unused
    (f := fun y => { y with timing := some t }) rfl
  unfold State.modSlot State.withSlot State.modStore
  simp only [same]

/-- The slot that a record has taken names that record's station. -/
theorem State.owns_withSlot : ∀ y ∈ (s.withSlot k r).store.slots, y.number = k → y.record.station = r.station := by
  intro y mem number
  rcases mem_insertSlot.mp mem with rfl | old
  · rfl
  · exact absurd number (unused y old)

end Taken

/-! ## The timing of a record (R128 to R138) -/

theorem Clock.usable_unset {c : Clock} (unset : c.state = .unset) : c.usable = none := by simp only [Clock.usable, unset]

theorem Clock.usable_set {c : Clock} {a : Anchor} (set : c.state ≠ .unset) (anchor : c.anchor = some a) :
    c.usable = some a := by
  unfold Clock.usable
  cases state : c.state with
  | unset => exact absurd state set
  | _ => exact anchor

theorem Station.time_unset {x : Station} (unset : x.clock.state = .unset) (stream : Stream) (r : Record) :
    x.time stream r = .untimed := by simp only [Station.time, Clock.usable_unset unset]

/-- The bounds within which a record is timed (R106, R129). -/
def TimingFits (delta start stop : Int) : Prop :=
  -2147483647 ≤ delta ∧ delta ≤ 2147483647 ∧ -9223372036854775808 ≤ start ∧ start ≤ 9223372036854775807 ∧
    -9223372036854775808 ≤ stop ∧ stop ≤ 9223372036854775807

theorem ClockState.quality_eq (c : ClockState) : c.quality =
    if c = .locked then .qualified else if c = .holdover then .holdover else .unqualified := by
  cases c <;> rfl

section Time

variable {x : Station} {a : Anchor} {stream : Stream} {r : Record} (usable : x.clock.usable = some a)

include usable

theorem Station.time_fits {c : Case} {stop : Int} (isCase : x.timingCase stream r.kFirst (x.modelStart a r.kFirst) = c)
    (isStop : c.start + duration x.period x.clock.rho r.n = stop)
    (fits : TimingFits (counterDiff r.kFirst a.k0) c.start stop) : x.time stream r = .timed c
      { start := c.start, rho := x.clock.rho, quality := x.clock.state.quality, path := c.path } stop := by
  obtain ⟨low, high, startLow, startHigh, stopLow, stopHigh⟩ := fits
  have span : inSpan (counterDiff r.kFirst a.k0) = true := by simp [inSpan, spanLimit, low, high]
  have start : (inNetworkTime c.start && inNetworkTime stop) = true := by
    simp [inNetworkTime, startLow, startHigh, stopLow, stopHigh]
  simp only [Station.time, usable, isCase, isStop, if_pos span, if_pos start]

theorem Station.time_beyond {c : Case} {stop : Int} (isCase : x.timingCase stream r.kFirst (x.modelStart a r.kFirst) = c)
    (isStop : c.start + duration x.period x.clock.rho r.n = stop)
    (beyond : ¬ TimingFits (counterDiff r.kFirst a.k0) c.start stop) : x.time stream r = .beyondSpan := by
  simp only [Station.time, usable, isCase, isStop]
  split
  · next span =>
    split
    · next times =>
      simp only [inSpan, spanLimit, inNetworkTime, Bool.and_eq_true] at span times
      obtain ⟨⟨low, high⟩, ⟨startLow, startHigh⟩, stopLow, stopHigh⟩ := And.intro span times
      exact absurd ⟨of_decide_eq_true low, of_decide_eq_true high, of_decide_eq_true startLow,
        of_decide_eq_true startHigh, of_decide_eq_true stopLow, of_decide_eq_true stopHigh⟩ beyond
    · rfl
  · rfl

end Time

/-! ## A record released from the slot it has just taken -/

theorem State.countFreed_eq (s : State) (i : StationId) (k : Nat) (f : StationCounters → StationCounters) :
    s.countFreed i k f = (s.freeSlot k).count i f := rfl

section Correct

variable {s : State} {k : Nat} {r : Record} {stream : Stream} (unused : ∀ y ∈ s.store.slots, y.number ≠ k)

include unused

theorem State.correct_taken_untimed (h : (s.station r.station).time stream r = .untimed) :
    (s.withSlot k r).correct stream r.station k = s.count r.station fun c => { c with untimed := bump c.untimed } := by
  rw [State.correct_untimed (State.slot?_withSlot r unused) h]
  rw [State.countFreed_eq, State.freeSlot_withSlot r unused]

theorem State.correct_taken_beyond (h : (s.station r.station).time stream r = .beyondSpan) :
    (s.withSlot k r).correct stream r.station k = s.count r.station fun c => { c with beyondSpan := bump c.beyondSpan } := by
  rw [State.correct_beyondSpan (State.slot?_withSlot r unused) h]
  rw [State.countFreed_eq, State.freeSlot_withSlot r unused]

theorem State.correct_taken_noGrid {c : Case} {t : Timing} {stop : Int}
    (h : (s.station r.station).time stream r = .timed c t stop) (noGrid : s.timebase.grid = none) :
    (s.withSlot k r).correct stream r.station k = (s.modStation r.station fun y => y.afterTiming stream r c stop).count
      r.station fun c => { c with noGrid := bump c.noGrid } := by
  rw [State.correct_noGrid (State.slot?_withSlot r unused) h noGrid]
  have freed : ((s.withSlot k r).modSlot k fun y => { y with timing := some t }).freeSlot k = s := by
    rw [State.modSlot_withSlot r unused]
    have same := filter_insertSlot (x := { number := k, record := r, timing := some t, refs := 0 }) unused
    unfold State.freeSlot State.modStore
    simp only [same]
  exact congrArg (fun w : State => (w.modStation r.station fun y => y.afterTiming stream r c stop).count
    r.station fun c => { c with noGrid := bump c.noGrid }) freed

theorem State.correct_taken_placed {c : Case} {t : Timing} {stop : Int} {g : Grid}
    (h : (s.station r.station).time stream r = .timed c t stop) (grid : s.timebase.grid = some g) :
    (s.withSlot k r).correct stream r.station k = ((s.modStore fun y => { y with
      slots := insertSlot { number := k, record := r, timing := some t, refs := 0 } y.slots }).modStation r.station
        fun y => y.afterTiming stream r c stop).place g (s.station r.station).period k r t := by
  rw [State.correct_placed (State.slot?_withSlot r unused) h grid]
  have timed : (s.withSlot k r).timedAt stream r.station k r c t stop = (s.modStore fun y => { y with
      slots := insertSlot { number := k, record := r, timing := some t, refs := 0 } y.slots }).modStation r.station
        fun y => y.afterTiming stream r c stop := by
    rw [← State.modSlot_withSlot r unused]
    rfl
  have period : (((s.withSlot k r).timedAt stream r.station k r c t stop).station r.station).period =
      (s.station r.station).period := by
    rw [timed, State.modStation_self]
    cases stream <;> rfl
  rw [period, timed]

end Correct

end Sys2Proof.Machine
end

section
/-! PROOF. Main-stream records (R67 to R69, R128 to R140): O39. -/

namespace Sys2Proof.Machine

/-! ## A record at q, and the run that is held behind it (R69) -/

theorem State.track_next {s : State} {i : StationId} {a : Seq} (slot : Nat) (next : (s.station i).tracker.q = some a) :
    s.track i slot a = s.inSequence i slot a := by
  have near : stepsAfter a a ≤ 8 := by rw [stepsAfter_eq_zero.mpr rfl]; exact Nat.zero_le 8
  simp only [State.track, next, if_pos near, State.takeNear, if_true]

/-- A record at its station's q, or its first, is released main-stream (R67, R68). -/
theorem State.track_front {s : State} {i : StationId} {a : Seq} (slot : Nat)
    (front : (s.station i).tracker.q = none ∨ (s.station i).tracker.q = some a) :
    s.track i slot a = (s.modTracker i fun t => { t with q := some a }).inSequence i slot a := by
  rcases front with first | next
  · simp only [State.track, first]
  · have same : (s.modTracker i fun t => { t with q := some a }) = s := by
      rw [State.modTracker_eq, ← next]
      exact State.setStation_station s i
    rw [same, State.track_next slot next]

/-- The state with one more record of a station counted in sequence (R69). -/
def State.countsInSequence (s : State) (i : StationId) : State :=
  s.count i fun y => { y with inSequence := bump y.inSequence }

/-- Tracking after a record at q and the run behind it are released, before the gap list is aged (R69). -/
def Tracker.passes (q : Seq) (others : List Held) (t : Tracker) : Tracker :=
  { t with q := some q, hold := others, holdDue := if others = [] then none else t.holdDue }

theorem Tracker.rested_eq (q : Seq) (others : List Held) (t : Tracker) :
    ({ t with q := some q, hold := others } : Tracker).rested = t.passes q others := by
  cases others <;> rfl

/-- A record at q releases the run behind it; what is left is the ageing of the gap list (R69). -/
theorem State.inSequence_spec {s : State} {i : StationId} {a : Seq} {run others : List Held} (slot : Nat)
    (hold : (s.station i).tracker.hold = run ++ others) (isRun : runsFrom (a + 1) run)
    (stop : ∀ o ∈ others.head?, o.seq ≠ a + 1 + BitVec.ofNat 16 run.length)
    (own : ∀ y ∈ s.store.slots, y.number = slot → y.record.station = i)
    (runOwn : ∀ h ∈ run, ∀ y ∈ s.store.slots, y.number = h.slot → y.record.station = i) :
    ∃ w, Releases i (s.countsInSequence i) w ∧
      w.bare i = (s.bare i).passes (a + 1 + BitVec.ofNat 16 run.length) others ∧
      s.inSequence i slot a = w.abandonWhere i (Gap.aged (a + 1 + BitVec.ofNat 16 run.length)) := by
  have timed := Releases.correct (s := s.countsInSequence i) own .main
  have moved := timed.trans (.modTracker _ i fun t => { t with q := some (a + 1) })
  have bare : (((s.countsInSequence i).correct .main i slot).modTracker i
      fun t => { t with q := some (a + 1) }).bare i = { s.bare i with q := some (a + 1) } := by
    rw [State.bare_putQ, Function.update_self, State.bare_correct, State.countsInSequence, State.bare_count]
  have enter : s.inSequence i slot a = (((((s.countsInSequence i).correct .main i slot).modTracker i
      fun t => { t with q := some (a + 1) }).drainHold i).restHold i).ageGaps i := rfl
  rw [enter]
  generalize ((s.countsInSequence i).correct .main i slot).modTracker i (fun t => { t with q := some (a + 1) }) = v at *
  have isQ : (v.station i).tracker.q = some (a + 1) := congrArg Tracker.q bare
  have isHold : (v.station i).tracker.hold = run ++ others := (congrArg Tracker.hold bare).trans hold
  have enough : run.length ≤ (v.station i).tracker.hold.length := by rw [isHold, List.length_append]; omega
  have drained := State.drain_releases run enough isQ isHold isRun stop fun h mem => moved.owned (runOwn h mem)
  have rested := drained.trans (.modTracker _ i fun t => if t.hold = [] then { t with holdDue := none } else t)
  have bare' : ((v.drainHold i).restHold i).bare i =
      (s.bare i).passes (a + 1 + BitVec.ofNat 16 run.length) others := by
    have drain : drainTo (a + 1) ({ s.bare i with q := some (a + 1) } : Tracker).hold =
        (a + 1 + BitVec.ofNat 16 run.length, others) := by
      have isBare : ({ s.bare i with q := some (a + 1) } : Tracker).hold = run ++ others := hold
      rw [isBare]
      exact drainTo_run isRun stop
    rw [State.bare_restHold, Function.update_self, State.bare_drainHold, Function.update_self, bare]
    simp only [Tracker.drained, drain, Tracker.rested_eq]
  refine ⟨_, moved.trans rested, bare', ?_⟩
  have isQ' : (((v.drainHold i).restHold i).station i).tracker.q = some (a + 1 + BitVec.ofNat 16 run.length) :=
    congrArg Tracker.q bare'
  show ((v.drainHold i).restHold i).ageGaps i = _
  simp only [State.ageGaps, isQ']
  rfl

/-- What the release of a record at q, and of the run behind it up to `q`, leaves of the part: the station's tracking
and tracker counters, the GAP notice of its aged gaps, and all else as a tracking frame has it (R69, R76). -/
structure Sequences (i : StationId) (q : Seq) (kept : List Held) (s t : State) : Prop extends TrackingFrame i s t where
  raises : Raises s t
  bare : t.bare i = ((s.bare i).passes q kept).aged
  inSequence : (t.station i).counters.inSequence = bump (s.station i).counters.inSequence
  heldCount : (t.station i).counters.held = (s.station i).counters.held
  declared : (t.station i).counters.gapsDeclared = (s.station i).counters.gapsDeclared
  abandoned : (t.station i).counters.gapsAbandoned =
    bumpBy (s.station i).counters.gapsAbandoned ((s.station i).tracker.gaps.countP (Gap.aged q))
  told : 0 < (s.station i).tracker.gaps.countP (Gap.aged q) → KindRaised 0x04 s t

theorem Sequences.of_inSequence {s : State} {i : StationId} {a : Seq} {run others : List Held} (slot : Nat)
    (hold : (s.station i).tracker.hold = run ++ others) (isRun : runsFrom (a + 1) run)
    (stop : ∀ o ∈ others.head?, o.seq ≠ a + 1 + BitVec.ofNat 16 run.length)
    (own : ∀ y ∈ s.store.slots, y.number = slot → y.record.station = i)
    (runOwn : ∀ h ∈ run, ∀ y ∈ s.store.slots, y.number = h.slot → y.record.station = i) :
    Sequences i (a + 1 + BitVec.ofNat 16 run.length) others s (s.inSequence i slot a) := by
  obtain ⟨w, releases, bare, isW⟩ := State.inSequence_spec slot hold isRun stop own runOwn
  generalize a + 1 + BitVec.ofNat 16 run.length = q at *
  have counted : Raises s w := (SlotFrame.count s i _).raises.trans releases.raises
  have gaps : (w.station i).tracker.gaps = (s.station i).tracker.gaps := by
    have same : (w.bare i).gaps = _ := congrArg Tracker.gaps bare
    exact same
  have counters := releases.counters
  rw [State.countsInSequence, State.count_self] at counters
  have moved := Advances.abandonWhere w i (Gap.aged q)
  have left : ((w.abandonWhere i (Gap.aged q)).station i).counters.gapsAbandoned =
      bumpBy (w.station i).counters.gapsAbandoned ((w.station i).tracker.gaps.countP (Gap.aged q)) := by
    rw [State.abandonWhere_eq, State.raiseIf_station, State.setStation_self]
    rfl
  rw [isW]
  refine ⟨((s.count_tracking i _).trans releases.toTrackingFrame).trans moved.toTrackingFrame,
    counted.trans moved.raises, ?_, moved.inSequence.trans counters.inSequence, moved.heldCount.trans counters.held,
    moved.declared.trans counters.gapsDeclared, ?_, fun some => ?_⟩
  · rw [State.bare_abandonWhere, Function.update_self, bare]
    rfl
  · rw [left, counters.gapsAbandoned, gaps]
  · rw [State.abandonWhere_eq, gaps, State.raiseIf_of (decide_eq_true some)]
    exact .before (counted.trans (SlotFrame.modStation w i fun _ => _).raises) (.raise _ .gap)

/-! ## An UNSET clock: every record is counted untimed and freed (R129) -/

/-- The state in which the slots of a run of held records are FREE. -/
def State.freeRun (s : State) (run : List Held) : State :=
  s.modStore fun y => { y with slots := y.slots.filter fun z => run.all fun h => decide (h.slot ≠ z.number) }

/-- A station that has released a run up to q without timing it (R69, R129). -/
def Station.drainsUntimed (q : Seq) (run others : List Held) (x : Station) : Station :=
  { x with
    tracker := { x.tracker with q := some q, hold := others }
    counters := { x.counters with untimed := bumpBy x.counters.untimed run.length } }

theorem State.freeRun_cons (s : State) (h : Held) (run : List Held) :
    (s.freeSlot h.slot).freeRun run = s.freeRun (h :: run) := by
  unfold State.freeSlot State.freeRun State.modStore
  simp only [List.filter_filter, List.all_cons, Bool.and_comm, ne_comm (a := h.slot)]

theorem State.freeSlot_setStation (s : State) (i : StationId) (x : Station) (k : Nat) :
    (s.setStation i x).freeSlot k = (s.freeSlot k).setStation i x := rfl

theorem State.freeRun_setStation (s : State) (i : StationId) (x : Station) (run : List Held) :
    (s.setStation i x).freeRun run = (s.freeRun run).setStation i x := rfl

theorem Station.drainsUntimed_drainsUntimed (x : Station) (p q : Seq) (h : Held) (run held others : List Held) :
    (x.drainsUntimed p [h] held).drainsUntimed q run others = x.drainsUntimed q (h :: run) others := by
  have sum : bumpBy (bump x.counters.untimed) run.length = bumpBy x.counters.untimed (run.length + 1) := bumpBy_bump _ _
  simp only [Station.drainsUntimed, List.length_cons, List.length_nil, Nat.zero_add, bumpBy_one, sum]

/-- A record in a slot, released under an UNSET clock (R129). -/
theorem State.correct_unset {s : State} {i : StationId} {k : Nat} {z : Slot} (found : s.slot? k = some z)
    (unset : (s.station i).clock.state = .unset) (stream : Stream) :
    s.correct stream i k = (s.freeSlot k).count i fun c => { c with untimed := bump c.untimed } :=
  (State.correct_untimed found (Station.time_unset unset _ _)).trans (State.countFreed_eq _ _ _ _)

/-- A drain of a run of records in use, under an UNSET clock (R69, R129). -/
theorem State.drain_untimed {i : StationId} (run : List Held) :
    ∀ {others : List Held} {q : Seq} {s : State} {fuel : Nat},
    run.length ≤ fuel → (s.station i).tracker.q = some q → (s.station i).tracker.hold = run ++ others → runsFrom q run →
    (∀ o ∈ others.head?, o.seq ≠ q + BitVec.ofNat 16 run.length) → (s.station i).clock.state = .unset →
    (run.map Held.slot).Nodup → (∀ h ∈ run, ∃ y ∈ s.store.slots, y.number = h.slot) →
    s.drain i fuel = (s.freeRun run).setStation i
      ((s.station i).drainsUntimed (q + BitVec.ofNat 16 run.length) run others) := by
  induction run with
  | nil =>
    intro others q s fuel _ isQ hold _ stop _ _ _
    rw [List.length_nil, seq_add_zero] at stop ⊢
    rw [State.drain_stop isQ (by rw [hold]; exact stop)]
    have same : (s.station i).drainsUntimed q [] others = s.station i := by
      have isOthers : others = (s.station i).tracker.hold := hold.symm
      rw [Station.drainsUntimed, ← isQ, isOthers, List.length_nil, bumpBy_zero]
    have all : s.freeRun [] = s := by
      unfold State.freeRun State.modStore
      simp only [List.all_nil, List.filter_true]
    rw [same, all, State.setStation_station]
  | cons h rest ih =>
    intro others q s fuel enough isQ hold run stop unset once inUse
    obtain ⟨rfl, run⟩ := run
    obtain ⟨fuel, rfl⟩ := Nat.exists_eq_add_of_le' (Nat.one_le_of_lt (Nat.lt_of_lt_of_le (Nat.succ_pos _) enough))
    rw [List.length_cons, ← seq_add_succ] at stop ⊢
    obtain ⟨notIn, once⟩ := List.nodup_cons.mp once
    obtain ⟨y, mem, number⟩ := inUse h List.mem_cons_self
    obtain ⟨z, found⟩ : ∃ z, s.slot? h.slot = some z := Option.isSome_iff_exists.mp
      (List.find?_isSome.mpr ⟨y, mem, decide_eq_true number⟩)
    have freed : (s.modTracker i fun t =>
        { t with q := some (h.seq + 1), hold := rest ++ others }).correct .main i h.slot =
        (s.freeSlot h.slot).setStation i ((s.station i).drainsUntimed (h.seq + 1) [h] (rest ++ others)) := by
      have isUnset : ((s.modTracker i fun t => { t with q := some (h.seq + 1), hold := rest ++ others }).station
          i).clock.state = .unset := by
        rw [State.modTracker, State.modStation_self]
        exact unset
      refine (State.correct_unset (s := s.modTracker i _) (z := z) found isUnset .main).trans ?_
      simp only [State.count_eq, State.modTracker_eq, State.freeSlot_setStation, State.setStation_self,
        State.setStation_setStation]
      rfl
    rw [State.drain_front isQ hold]
    refine (congrArg (State.drain i fuel) freed).trans ?_
    rw [ih (others := others) (q := h.seq + 1), State.setStation_self, State.freeRun_setStation,
      State.setStation_setStation, State.freeRun_cons, Station.drainsUntimed_drainsUntimed]
    · exact Nat.le_of_succ_le_succ enough
    · rw [State.setStation_self]; rfl
    · rw [State.setStation_self]; rfl
    · exact run
    · exact stop
    · rw [State.setStation_self]; exact unset
    · exact once
    · intro x mem
      obtain ⟨y, isIn, same⟩ := inUse x (List.mem_cons_of_mem _ mem)
      exact ⟨y, List.mem_filter.mpr ⟨isIn, decide_eq_true fun both =>
        notIn (List.mem_map.mpr ⟨x, mem, same.symm.trans both⟩)⟩, same⟩

/-- A station that has released a record at q and the run behind it without timing them (R69, R76, R129). -/
def Station.sequencedUntimed (q : Seq) (run others : List Held) (x : Station) : Station :=
  { x with
    tracker := { x.tracker.passes q others with gaps := x.tracker.gaps.filter fun g => !g.aged q }
    counters := { x.counters with
      inSequence := bump x.counters.inSequence
      untimed := bumpBy x.counters.untimed (run.length + 1)
      gapsAbandoned := bumpBy x.counters.gapsAbandoned (x.tracker.gaps.countP (Gap.aged q)) } }

/-- A record released at q from the slot it has just taken, under an UNSET clock (R69, R129). -/
theorem State.inSequence_untimed {s : State} {r : Record} {k : Nat} {run others : List Held}
    (unused : ∀ y ∈ s.store.slots, y.number ≠ k) (hold : (s.station r.station).tracker.hold = run ++ others)
    (isRun : runsFrom (r.seq + 1) run) (stop : ∀ o ∈ others.head?, o.seq ≠ r.seq + 1 + BitVec.ofNat 16 run.length)
    (unset : (s.station r.station).clock.state = .unset) (once : (run.map Held.slot).Nodup)
    (inUse : ∀ h ∈ run, ∃ y ∈ s.store.slots, y.number = h.slot) :
    (s.withSlot k r).inSequence r.station k r.seq =
      ((s.freeRun run).setStation r.station ((s.station r.station).sequencedUntimed
        (r.seq + 1 + BitVec.ofNat 16 run.length) run others)).raiseIf
          (decide (0 < (s.station r.station).tracker.gaps.countP
            (Gap.aged (r.seq + 1 + BitVec.ofNat 16 run.length)))) .gap := by
  generalize same : s.station r.station = x at *
  generalize isQ : r.seq + 1 + BitVec.ofNat 16 run.length = q at *
  have counted : ((s.withSlot k r).countsInSequence r.station).correct .main r.station k =
      s.setStation r.station { x with counters := { x.counters with
        inSequence := bump x.counters.inSequence, untimed := bump x.counters.untimed } } := by
    have timed := State.correct_taken_untimed (s := s.countsInSequence r.station) (r := r) (stream := .main) unused
      (Station.time_unset (by rw [State.countsInSequence, State.count_self, same]; exact unset) _ _)
    refine timed.trans ?_
    simp only [State.countsInSequence, State.count_eq, State.setStation_self, State.setStation_setStation, same]
  show (((((s.withSlot k r).countsInSequence r.station).correct .main r.station k |>.modTracker r.station fun t =>
    { t with q := some (r.seq + 1) }).drainHold r.station).restHold r.station).ageGaps r.station = _
  rw [counted, State.modTracker_eq, State.setStation_self, State.setStation_setStation]
  have drained := State.drain_untimed (i := r.station) (others := others) (q := r.seq + 1) run
      (s := s.setStation r.station
    { x with
      tracker := { x.tracker with q := some (r.seq + 1) }
      counters := { x.counters with
        inSequence := bump x.counters.inSequence, untimed := bump x.counters.untimed } })
          (fuel := x.tracker.hold.length)
    (by rw [hold, List.length_append]; exact Nat.le_add_right _ _) (by rw [State.setStation_self])
    (by rw [State.setStation_self]; exact hold) isRun (by rw [isQ]; exact stop)
    (by rw [State.setStation_self]; exact unset) once inUse
  rw [isQ, State.setStation_self, State.freeRun_setStation, State.setStation_setStation] at drained
  have left : (s.freeRun run).setStation r.station (Station.drainsUntimed q run others { x with
      tracker := { x.tracker with q := some (r.seq + 1) }
      counters := { x.counters with
        inSequence := bump x.counters.inSequence, untimed := bump x.counters.untimed } }) = 
      (s.freeRun run).setStation r.station { x with
        tracker := { x.tracker with q := some q, hold := others }
        counters := { x.counters with
          inSequence := bump x.counters.inSequence
          untimed := bumpBy x.counters.untimed (run.length + 1) } } := by
    simp only [Station.drainsUntimed, bumpBy_bump]
  rw [State.drainHold, State.setStation_self]
  refine (congrArg (fun w : State => (w.restHold r.station).ageGaps r.station) (drained.trans left)).trans ?_
  have rested (t : Tracker) : (if ({ t with q := some q, hold := others } : Tracker).hold = [] then
      { ({ t with q := some q, hold := others } : Tracker) with holdDue := none }
      else ({ t with q := some q, hold := others } : Tracker)) = t.passes q others := Tracker.rested_eq q others t
  simp only [State.restHold, State.modTracker_eq, State.setStation_self, State.setStation_setStation, State.ageGaps,
    rested]
  simp only [Tracker.passes, State.abandonWhere_eq, State.setStation_self, State.setStation_setStation]
  rfl

/-! ## HEAD_DATA of a record that finds a slot (R168) -/

/-- The part at an event that takes the entry at a queue's head: time has passed, and the entry has left (R37). -/
def State.atHead (s : State) (dt : Nat) (l : LinkId) (rest : List Entry) : State :=
  (s.advance dt).modLink l fun y => { y with queue := rest }

section AtHead

variable {s : State} (dt : Nat) (l : LinkId) (rest : List Entry)

theorem State.atHead_station (j : StationId) : (s.atHead dt l rest).station j = s.station j :=
  State.advance_station s dt j

theorem State.atHead_link_self : (s.atHead dt l rest).link l = { s.link l with queue := rest } := by
  rw [State.atHead, State.modLink_self, State.advance_link]

theorem State.atHead_link_other {m : LinkId} (other : m ≠ l) : (s.atHead dt l rest).link m = s.link m := by
  rw [State.atHead, State.modLink_ne _ _ (Ne.symm other), State.advance_link]

theorem State.atHead_raises : Raises s (s.atHead dt l rest) :=
  .of_port fun p => (show _ = (s.advance dt).port p by cases p <;> rfl).trans (State.advance_port s dt p)

theorem State.atHead_settled (settled : s.settled) : (s.atHead dt l rest).settled := settled

end AtHead

/-- A DATA entry of an enabled station, at the head of an open queue, that finds a slot (R37, R168). -/
theorem State.exec_headData {s : State} (dt : Nat) {l : LinkId} {r : Record} {rest : List Entry}
    (running : s.held = false)
    (isOpen : (s.link l).blocked = false) (queue : (s.link l).queue = .data r :: rest)
    (enabled : (s.station r.station).enabled = true) (waiting : s.store.waiting = [])
      (room : s.store.slots.length < 4096) :
    exec (.headData dt l) s = .next ((((s.atHead dt l rest).withSlot (lowestFree 0 s.store.slots) r).track r.station
      (lowestFree 0 s.store.slots) r.seq).evalCompletion).endEvent := by
  have queue' : ((s.advance dt).link l).queue = .data r :: rest := by rw [State.advance_link]; exact queue
  have takes : (s.advance dt).headData l = (s.advance dt).takeData l r :=
    (State.headData_enabled (s := s.advance dt) (r := r) (rest := rest) isOpen queue' enabled).trans
      (if_pos ⟨waiting, (State.slotsFree_iff (s.advance dt)).mpr room⟩)
  exact State.event_of_eq (body := (State.headData · l)) running (takes.trans (State.takeData_eq queue'))

/-! ## O39, first part: a record at q with records held -/

theorem countP_aged (q : Seq) (gaps : List Gap) : gaps.countP (Gap.aged q) = gaps.length - (gaps.filter fun g =>
    decide (1 ≤ stepsAfter g.first q) && decide (stepsAfter g.first q ≤ 32767)).length := by
  rw [length_sub_filter]
  refine congrArg (List.countP · gaps) (funext fun g => ?_)
  rw [← Gap.not_aged, Bool.not_not]

theorem Tracker.passes_aged (t : Tracker) (q : Seq) (others : List Held) : (t.passes q others).aged =
    { t with
      q := some q, hold := others
      gaps := t.gaps.filter fun g => decide (1 ≤ stepsAfter g.first q) && decide (stepsAfter g.first q ≤ 32767)
      holdDue := if others = [] then none else t.holdDue } := by
  simp only [Tracker.aged, Tracker.passes, Gap.not_aged]

/-- A slot that named a station's record before names one after the station's record has taken a slot. -/
theorem State.withSlot_own {s : State} {k n : Nat} {r : Record}
    (own : ∀ y ∈ s.store.slots, y.number = n → y.record.station = r.station) :
    ∀ y ∈ (s.withSlot k r).store.slots, y.number = n → y.record.station = r.station := by
  intro y mem number
  rcases mem_insertSlot.mp mem with rfl | old
  · rfl
  · exact own y old number

/-- What a HEAD_DATA event leaves of the part, where its record has moved no station but its own (R67). -/
theorem TrackingFrame.atHead {dt : Nat} {l : LinkId} {rest : List Entry} {i : StationId} {s w : State} {k : Nat}
    {r : Record}
    (h : TrackingFrame i ((s.atHead dt l rest).withSlot k r) w) :
    let t := w.evalCompletion.endEvent
    t.station i = w.station i ∧
    t.station i = { s.station i with
      tracker := (t.station i).tracker
      expectation := (t.station i).expectation
      counters := (t.station i).counters } ∧
    (∀ j, j ≠ i → t.station j = s.station j) ∧ t.link l = { s.link l with queue := rest } ∧
    (∀ k, k ≠ l → t.link k = s.link k) ∧ t.timebase = (s.advance dt).timebase ∧ t.reservations = s.reservations := by
  intro t
  have frame := w.evalCompletion_frame
  have link (m : LinkId) : t.link m = (s.atHead dt l rest).link m := by
    rw [State.endEvent_link, State.link, frame.links, h.links]
    rfl
  have same (j : StationId) : t.station j = w.station j := by
    rw [State.endEvent_station, State.station, frame.stations]
    rfl
  refine ⟨same i, ?_, fun j other => ?_, ?_, fun m other => ?_, ?_, ?_⟩
  · obtain ⟨c, e, x, own⟩ := h.own
    have isS : ((s.atHead dt l rest).withSlot k r).station i = s.station i := State.atHead_station dt l rest i
    rw [same, own, isS]
  · rw [same, h.others j other]
    exact State.atHead_station dt l rest j
  · rw [link, State.atHead_link_self]
  · rw [link, State.atHead_link_other dt l rest other]
  · rw [State.endEvent_timebase, frame.timebase, h.timebase]
    rfl
  · rw [State.endEvent_reservations, frame.reservations, h.reservations]
    rfl

/-! ## O39, second part: a record at q alone, timed on the model -/

/-- With nothing held and no gap, q passes the record alone, and the hold timer is stopped (R69). -/
theorem State.inSequence_alone {s : State} {i : StationId} {a : Seq} (slot : Nat)
    (hold : (s.station i).tracker.hold = []) (gaps : (s.station i).tracker.gaps = []) :
    s.inSequence i slot a = ((s.countsInSequence i).correct .main i slot).modTracker i fun t =>
      { t with q := some (a + 1), holdDue := none } := by
  have bare : ((s.countsInSequence i).correct .main i slot).bare i = s.bare i := by
    rw [State.bare_correct, State.countsInSequence, State.bare_count]
  show (((((s.countsInSequence i).correct .main i slot).modTracker i fun t => { t with q := some (a + 1) }).drainHold
    i).restHold i).ageGaps i = _
  generalize (s.countsInSequence i).correct .main i slot = w at *
  have hold' : (w.station i).tracker.hold = [] := (congrArg Tracker.hold bare).trans hold
  have gaps' : (w.station i).tracker.gaps = [] := by
    have same : (w.bare i).gaps = _ := congrArg Tracker.gaps bare
    exact same.trans gaps
  simp only [State.modTracker_eq, State.drainHold, State.setStation_self, hold', List.length_nil, State.drain,
    State.restHold, if_true, State.setStation_setStation, State.ageGaps, State.abandonWhere_eq, Station.abandoned,
    gaps', List.filter_nil, List.countP_nil, bumpBy_zero]
  rfl

/-- A record that its station's expectation does not continue (R131). -/
def Station.breaks (x : Station) (r : Record) : Prop :=
  x.expectation = none ∨ ∃ e, x.expectation = some e ∧ r.kFirst.toNat ≠ e.kx

/-- A record that its station's expectation continues, but at a time outside the tear tolerance (R131, R134). -/
def Station.tears (x : Station) (r : Record) (tmod : Int) : Prop :=
  ∃ e, x.expectation = some e ∧ r.kFirst.toNat = e.kx ∧ x.config.tearTolerance < (tmod - e.tx).natAbs

/-- How a main-stream record is timed, by its station's expectation (R131 to R134). -/
structure MainCase (x : Station) (r : Record) (tmod start : Int) (c : Case) : Prop where
  start : c.start = start
  discontinuity : c.discontinuity = true ↔ x.expectation ≠ none ∧ x.breaks r
  tear : c.tear = true ↔ x.tears r tmod
  broke : x.breaks r → c.path = .broke
  torn : x.tears r tmod → c.path = .tear
  continuity : ¬ x.breaks r → ¬ x.tears r tmod → c.path = .continuity

theorem Station.mainCase {x : Station} {r : Record} {tmod start : Int}
    (model : x.breaks r ∨ x.tears r tmod → start = tmod)
    (carried : ¬ x.breaks r → ¬ x.tears r tmod → ∃ e, x.expectation = some e ∧ start = e.tx) :
    MainCase x r tmod start (x.timingCase .main r.kFirst tmod) := by
  cases expected : x.expectation with
  | none =>
    have breaks : x.breaks r := .inl expected
    have whole : ¬ x.tears r tmod := fun ⟨e, isE, _⟩ => by rw [expected] at isE; cases isE
    have isCase : x.timingCase .main r.kFirst tmod =
        { start := tmod, path := .broke, discontinuity := false, tear := false } := by
      simp only [Station.timingCase, expected]
    rw [isCase]
    exact ⟨(model (.inl breaks)).symm, ⟨nofun, fun ⟨known, _⟩ => absurd expected known⟩,
      ⟨nofun, fun torn => absurd torn whole⟩, fun _ => rfl, fun torn => absurd torn whole, fun no => absurd breaks no⟩
  | some e =>
    have isE {e' : Expectation} (h : x.expectation = some e') : e' = e := Option.some.inj (h.symm.trans expected)
    have known : x.expectation ≠ none := by rw [expected]; exact nofun
    by_cases counter : r.kFirst.toNat = e.kx
    · have unbroken : ¬ x.breaks r := fun
        | .inl unknown => known unknown
        | .inr ⟨e', same, other⟩ => other (isE same ▸ counter)
      by_cases near : (tmod - e.tx).natAbs ≤ x.config.tearTolerance
      · have whole : ¬ x.tears r tmod := fun ⟨e', same, _, far⟩ => absurd (isE same ▸ far) (Nat.not_lt.mpr near)
        have isCase : x.timingCase .main r.kFirst tmod =
            { start := e.tx, path := .continuity, discontinuity := false, tear := false } := by
          simp only [Station.timingCase, expected, if_pos near, if_neg (not_not.mpr counter)]
        obtain ⟨e', same, isStart⟩ := carried unbroken whole
        rw [isCase]
        exact ⟨(isE same ▸ isStart).symm, ⟨nofun, fun ⟨_, breaks⟩ => absurd breaks unbroken⟩,
          ⟨nofun, fun torn => absurd torn whole⟩, fun breaks => absurd breaks unbroken, fun torn => absurd torn whole,
          fun _ _ => rfl⟩
      · have torn : x.tears r tmod := ⟨e, expected, counter, Nat.not_le.mp near⟩
        have isCase : x.timingCase .main r.kFirst tmod =
            { start := tmod, path := .tear, discontinuity := false, tear := true } := by
          simp only [Station.timingCase, expected, if_neg near, if_neg (not_not.mpr counter)]
        rw [isCase]
        exact ⟨(model (.inr torn)).symm, ⟨nofun, fun ⟨_, breaks⟩ => absurd breaks unbroken⟩,
          ⟨fun _ => torn, fun _ => rfl⟩,
          fun breaks => absurd breaks unbroken, fun _ => rfl, fun _ whole => absurd torn whole⟩
    · have breaks : x.breaks r := .inr ⟨e, expected, counter⟩
      have whole : ¬ x.tears r tmod := fun ⟨e', same, equal, _⟩ => counter (isE same ▸ equal)
      have isCase : x.timingCase .main r.kFirst tmod =
          { start := tmod, path := .broke, discontinuity := true, tear := false } := by
        simp only [Station.timingCase, expected, if_pos counter]
      rw [isCase]
      exact ⟨(model (.inl breaks)).symm, ⟨fun _ => ⟨known, breaks⟩, fun _ => rfl⟩,
        ⟨nofun, fun torn => absurd torn whole⟩, fun _ => rfl, fun torn => absurd torn whole, fun no => absurd breaks no⟩

/-- A station at whose q a record counts in sequence (R69). -/
def Station.fronts (a : Seq) (x : Station) : Station :=
  { x with
    tracker := { x.tracker with q := some a }
    counters := { x.counters with inSequence := bump x.counters.inSequence } }

/-- A record at q alone, released from the slot it has just taken (R67 to R69). -/
theorem State.track_alone {s : State} {r : Record} (k : Nat)
    (front : (s.station r.station).tracker.q = none ∨ (s.station r.station).tracker.q = some r.seq)
    (hold : (s.station r.station).tracker.hold = []) (gaps : (s.station r.station).tracker.gaps = []) :
    (s.withSlot k r).track r.station k r.seq =
      (((s.setStation r.station ((s.station r.station).fronts r.seq)).withSlot k r).correct .main r.station
        k).modTracker r.station fun t => { t with q := some (r.seq + 1), holdDue := none } := by
  have isFront : ((s.withSlot k r).modTracker r.station fun t =>
      { t with q := some r.seq }).countsInSequence r.station =
      (s.setStation r.station ((s.station r.station).fronts r.seq)).withSlot k r := by
    simp only [State.countsInSequence, State.count_eq, State.modTracker_eq, State.setStation_self,
      State.setStation_setStation]
    rfl
  rw [State.track_front (s := s.withSlot k r) k front, State.inSequence_alone, isFront]
  · rw [State.modTracker, State.modStation_self]; exact hold
  · rw [State.modTracker, State.modStation_self]; exact gaps

/-- Tracking of a station that has released a record alone (R69). -/
def Tracker.passedAlone (a : Seq) (t : Tracker) : Tracker :=
  { t with q := some (a + 1), hold := [], holdDue := none, gaps := [] }

/-- The state in which a record has taken slot k, which keeps its timing (R137, R138, R168). -/
def State.withTimed (s : State) (k : Nat) (r : Record) (t : Timing) : State :=
  s.modStore fun y => { y with slots := insertSlot { number := k, record := r, timing := some t, refs := 0 } y.slots }

theorem State.evalCompletion_ungridded {s : State} (ungridded : s.timebase.grid = none) : s.evalCompletion = s := by
  simp only [State.evalCompletion, ungridded]

section Alone

variable {dt : Nat} {l : LinkId} {r : Record} {rest : List Entry} {s : State}

/-- A HEAD_DATA event whose record is at its station's q, with nothing held and no gap (R67 to R69). -/
structure TakesAlone (dt : Nat) (l : LinkId) (r : Record) (rest : List Entry) (s : State) : Prop where
  running : s.held = false
  sound : s.slotsSound
  settled : s.settled
  isOpen : (s.link l).blocked = false
  queue : (s.link l).queue = .data r :: rest
  enabled : (s.station r.station).enabled = true
  waiting : s.store.waiting = []
  room : s.store.slots.length < 4096
  hold : (s.station r.station).tracker.hold = []
  gaps : (s.station r.station).tracker.gaps = []
  front : (s.station r.station).tracker.q = none ∨ (s.station r.station).tracker.q = some r.seq

/-- The part as it times the record. -/
def State.fronting (s : State) (dt : Nat) (l : LinkId) (r : Record) (rest : List Entry) : State :=
  (s.atHead dt l rest).setStation r.station ((s.station r.station).fronts r.seq)

theorem State.fronting_station : (s.fronting dt l r rest).station r.station = (s.station r.station).fronts r.seq :=
  State.setStation_self _ _ _

theorem TakesAlone.exec (h : TakesAlone dt l r rest s) : exec (.headData dt l) s =
    .next (((((s.fronting dt l r rest).withSlot (lowestFree 0 s.store.slots) r).correct .main r.station
      (lowestFree 0 s.store.slots)).modTracker r.station fun t =>
        { t with q := some (r.seq + 1), holdDue := none }).evalCompletion).endEvent := by
  rw [State.exec_headData dt h.running h.isOpen h.queue h.enabled h.waiting h.room,
    State.track_alone (s := s.atHead dt l rest) _ h.front h.hold h.gaps]
  rfl

theorem Station.fronts_passed (x : Station) (a : Seq) (hold : x.tracker.hold = []) (gaps : x.tracker.gaps = []) :
    ({ (x.fronts a).tracker with q := some (a + 1), holdDue := none } : Tracker) = x.tracker.passedAlone a := by
  unfold Station.fronts Tracker.passedAlone
  dsimp only
  rw [hold, gaps]

/-- A record that is counted and freed untimed (R69, R129). -/
theorem TakesAlone.exec_dropped (h : TakesAlone dt l r rest s) {f : StationCounters → StationCounters}
    (drops : ((s.fronting dt l r rest).withSlot (lowestFree 0 s.store.slots) r).correct .main r.station
      (lowestFree 0 s.store.slots) = (s.fronting dt l r rest).count r.station f) :
    Machine.exec (.headData dt l) s = .next ((s.atHead dt l rest).setStation r.station { s.station r.station with
      tracker := (s.station r.station).tracker.passedAlone r.seq
      counters := f ((s.station r.station).fronts r.seq).counters }).endEvent := by
  have moved : ((s.fronting dt l r rest).count r.station f).modTracker r.station (fun t =>
      { t with q := some (r.seq + 1), holdDue := none }) = (s.atHead dt l rest).setStation r.station
        { s.station r.station with
          tracker := (s.station r.station).tracker.passedAlone r.seq
          counters := f ((s.station r.station).fronts r.seq).counters } := by
    simp only [State.modTracker_eq, State.count_eq, State.setStation_self, State.setStation_setStation,
      State.fronting, Station.fronts_passed _ _ h.hold h.gaps]
    rfl
  rw [h.exec, drops, moved]
  refine congrArg (fun t : State => Host.Outcome.next t.endEvent) (State.evalCompletion_of_settled h.settled rfl rfl
    fun j => ?_)
  rw [State.station_setStation]
  split
  · next same => subst same; exact ⟨h.gaps.symm, rfl⟩
  · exact ⟨congrArg (·.tracker.gaps) (State.atHead_station dt l rest j),
      congrArg (·.tracker.covered) (State.atHead_station dt l rest j)⟩

end Alone

/-- Settles O39. -/
theorem mainStreamRecordsAreTimed : Obligations.MainStreamRecordsAreTimed := by
  refine ⟨fun dt l r rest run others s running sound settled isOpen queue enabled waiting room => ?_, ?_⟩
  · intro i x q isQ hold inRun stop own kept lost taken
    have run' := (runsFrom_iff (r.seq + 1) run).mpr inRun
    obtain ⟨_, unused, _⟩ := State.lowestFree_spec sound room
    have exec_ := State.exec_headData dt running isOpen queue enabled waiting room
    have lost' : x.tracker.gaps.countP (Gap.aged q) = lost := countP_aged q x.tracker.gaps
    have station (j : StationId) (k : Nat) : ((s.atHead dt l rest).withSlot k r).station j = s.station j :=
      State.atHead_station dt l rest j
    rw [State.track_next _ ((congrArg (fun y : Station => y.tracker.q) (station i _)).trans isQ)] at exec_
    refine ⟨⟨_, exec_, ?_⟩, fun unset once inUse => ?_⟩
    · have sequences := Sequences.of_inSequence (s := (s.atHead dt l rest).withSlot (lowestFree 0 s.store.slots) r)
        (lowestFree 0 s.store.slots) (by rw [station]; exact hold) run' stop
        (State.owns_withSlot (s := s.atHead dt l rest) r unused) fun h mem => State.withSlot_own (own h mem)
      have before : Raises s ((s.atHead dt l rest).withSlot (lowestFree 0 s.store.slots) r) :=
        (State.atHead_raises dt l rest).trans (.of_port fun p => by cases p <;> rfl)
      obtain ⟨same, isT, others_, link, links, timebase, reservations⟩ := sequences.toTrackingFrame.atHead
      have tracker := State.tracker_of_bare (i := i) (k := (x.tracker.passes q others).aged) (sequences.bare.trans (by
        rw [State.bare, station]
        rfl))
      obtain ⟨_, raises, _, inSequence, heldCount, _, abandoned, told⟩ := sequences
      rw [station] at inSequence heldCount abandoned told
      rw [Tracker.passes_aged] at tracker
      generalize ((s.atHead dt l rest).withSlot (lowestFree 0 s.store.slots) r).inSequence i
        (lowestFree 0 s.store.slots)
        r.seq = w at *
      rw [same]
      refine ⟨?_, inSequence, heldCount, abandoned.trans (by rw [← lost']), fun some p line => ?_, others_, link, links,
        timebase, reservations⟩
      · rw [same] at isT
        exact isT.trans (congrArg (fun t : Tracker => ({ x with
          tracker := t, expectation := (w.station i).expectation, counters := (w.station i).counters } :
            Station)) tracker)
      · have raised := (told (lost'.symm ▸ some)).after (SlotFrame.evalCompletion w).raises raises
        exact (KindRaised.before before raised).endEvent
          (before.trans (raises.trans (SlotFrame.evalCompletion w).raises)) p line
    · have released := State.inSequence_untimed (s := s.atHead dt l rest) (r := r) (k := lowestFree 0 s.store.slots)
        (run := run) (others := others) unused hold run' stop unset once inUse
      rw [exec_, released]
      have isX : (s.station i).sequencedUntimed q run others = { x with
          tracker := taken
          counters := { x.counters with
            inSequence := bump x.counters.inSequence
            untimed := bumpBy x.counters.untimed (run.length + 1)
            gapsAbandoned := bumpBy x.counters.gapsAbandoned lost } } := by
        simp only [Station.sequencedUntimed, Tracker.passes, Gap.not_aged, ← lost']
        rfl
      rw [← isX, ← lost']
      rfl
  · intro dt l r rest s running sound settled isOpen queue enabled waiting room hold gaps front i x popped taken counted
    have takes : TakesAlone dt l r rest s := ⟨running, sound, settled, isOpen, queue, enabled, waiting, room, hold,
        gaps, front⟩
    obtain ⟨low, unused, lowest⟩ := State.lowestFree_spec sound room
    have isY : (s.fronting dt l r rest).station r.station = x.fronts r.seq := State.fronting_station
    refine ⟨fun unset => takes.exec_dropped (State.correct_taken_untimed unused (Station.time_unset (by
      rw [isY]; exact unset) _ _)), ?_⟩
    intro a set anchor delta tmod broken torn start model carried stop fits
    have isCase := Station.mainCase (x := x) (r := r) model carried
    generalize timed : x.timingCase .main r.kFirst tmod = c at isCase
    have isStop : c.start + duration x.period x.clock.rho r.n = stop := by
      rw [isCase.start, duration, ← Int.add_assoc]
      rfl
    have timed' : (x.fronts r.seq).timingCase .main r.kFirst ((x.fronts r.seq).modelStart a r.kFirst) = c := timed
    have isStop' : c.start + duration (x.fronts r.seq).period (x.fronts r.seq).clock.rho r.n = stop := isStop
    have usable : (x.fronts r.seq).clock.usable = some a := Clock.usable_set set anchor
    have within : TimingFits (counterDiff r.kFirst a.k0) c.start stop ↔ fits := by rw [isCase.start]; exact Iff.rfl
    refine ⟨fun no => takes.exec_dropped (State.correct_taken_beyond unused (by
      rw [isY]; exact Station.time_beyond usable timed' isStop' (mt within.mp no))), fun yes dc tc isDc isTc => ?_⟩
    have isTime := Station.time_fits usable timed' isStop' (within.mpr yes)
    have isDc' : (if c.discontinuity then bump x.counters.discontinuities else x.counters.discontinuities) = dc := by
      rw [isDc]
      exact if_congr isCase.discontinuity rfl rfl
    have isTc' : (if c.tear then bump x.counters.tears else x.counters.tears) = tc := by
      rw [isTc]
      exact if_congr isCase.tear rfl rfl
    have after : (x.fronts r.seq).afterTiming .main r c stop = { x with
        tracker := { x.tracker with q := some r.seq, covered := some stop }
        expectation := some { kx := r.kFirst.toNat + r.n, tx := stop }
        counters := { counted with discontinuities := dc, tears := tc } } := by
      rw [← isDc', ← isTc']
      rfl
    refine ⟨fun noGrid => ?_, ?_⟩
    · rw [takes.exec, State.correct_taken_noGrid (s := s.fronting dt l r rest) unused
        (by rw [isY]; exact isTime) noGrid]
      have moved : (((s.fronting dt l r rest).modStation r.station fun y =>
          y.afterTiming .main r c stop).count r.station
          fun c => { c with noGrid := bump c.noGrid }).modTracker r.station (fun t =>
            { t with q := some (r.seq + 1), holdDue := none }) = popped.setStation i { x with
          tracker := { taken with covered := some stop }
          expectation := some { kx := r.kFirst.toNat + r.n, tx := stop }
          counters := { counted with
            discontinuities := dc, tears := tc, noGrid := bump x.counters.noGrid } } := by
        simp only [State.modStation_eq, State.modTracker_eq, State.count_eq, after, State.setStation_self,
          State.setStation_setStation, State.fronting, x, i, taken, hold, gaps]
        rfl
      rw [moved]
      refine congrArg (fun t : State => Host.Outcome.next t.endEvent) (State.evalCompletion_ungridded noGrid)
    · intro g path grid broke tear whole quality timing
      have isPath : c.path = path := by
        by_cases breaks : x.breaks r
        · exact (isCase.broke breaks).trans (broke breaks).symm
        · by_cases tears : x.tears r tmod
          · exact (isCase.torn tears).trans (tear tears).symm
          · exact (isCase.continuity breaks tears).trans (whole breaks tears).symm
      have isTiming : { start := c.start, rho := x.clock.rho, quality := x.clock.state.quality, path := c.path } =
          timing := by
        rw [isCase.start, isPath, ClockState.quality_eq]
      have isTimed : (x.fronts r.seq).time .main r = .timed c timing stop := by rw [← isTiming]; exact isTime
      refine ⟨_, low, unused, lowest, ?_⟩
      rw [takes.exec, State.correct_taken_placed (s := s.fronting dt l r rest) unused
        (by rw [isY]; exact isTimed) grid, isY]
      have placed : ((s.fronting dt l r rest).withTimed (lowestFree 0 s.store.slots) r timing).modStation r.station
          (fun y => y.afterTiming .main r c stop) =
            (popped.withTimed (lowestFree 0 s.store.slots) r timing).setStation i
            { x with
              tracker := { x.tracker with q := some r.seq, covered := some stop }
              expectation := some { kx := r.kFirst.toNat + r.n, tx := stop }
              counters := { counted with discontinuities := dc, tears := tc } } := by
        have isY' : ((s.fronting dt l r rest).withTimed (lowestFree 0 s.store.slots) r timing).station r.station =
            x.fronts r.seq := isY
        rw [State.modStation_eq, isY', after]
        exact State.setStation_setStation (popped.withTimed (lowestFree 0 s.store.slots) r timing) i _ _
      refine (congrArg (fun w : State => Host.Outcome.next ((((w.placeRecord g x.period (lowestFree 0 s.store.slots) r
        timing).evalCompletion).modTracker r.station fun t => { t with q := some (r.seq + 1), holdDue := none
          }).evalCompletion).endEvent) placed).trans ?_
      rfl

end Sys2Proof.Machine
end

section
/-! PROOF. Records off their station's q (R67, R70, R73, R74, R76 to R79, R136): O38. -/

namespace Sys2Proof.Machine

/-! ## Duplicates (R70, R77) -/

/-- A duplicate leaves the slot it has taken FREE, and is counted (R70, R77). -/
theorem State.dropDuplicate_withSlot {s : State} {k : Nat} (r : Record) (unused : ∀ y ∈ s.store.slots, y.number ≠ k)
    (i : StationId) : (s.withSlot k r).dropDuplicate i k = s.count i fun y =>
      { y with duplicates := bump y.duplicates } :=
  State.freeSlot_withSlot (s := s.count i fun y => { y with duplicates := bump y.duplicates }) r unused

/-- A copy of a held record is a duplicate (R70). -/
theorem State.track_copy {s : State} {i : StationId} {q a : Seq} (slot : Nat) (isQ : (s.station i).tracker.q = some q)
    (after : 1 ≤ stepsAfter q a) (near : stepsAfter q a ≤ 8) (copy : ∃ h ∈ (s.station i).tracker.hold, h.seq = a) :
    s.track i slot a = s.dropDuplicate i slot := by
  have ahead : ¬ a = q := fun same => by rw [stepsAfter_eq_zero.mpr same] at after; omega
  have held : ((s.station i).tracker.hold.any fun h => decide (h.seq = a)) = true := by simpa using copy
  simp only [State.track, isQ, if_pos near, State.takeNear, if_neg ahead, State.holdRecord, if_pos held]

theorem State.track_behind {s : State} {i : StationId} {q a : Seq} (slot : Nat) (isQ : (s.station i).tracker.q = some q)
    (behind : 32768 ≤ stepsAfter q a) : s.track i slot a = s.takeBehind i slot a := by
  have far : ¬ stepsAfter q a ≤ 8 := by omega
  have past : ¬ stepsAfter q a ≤ 32767 := by omega
  simp only [State.track, isQ, if_neg far, if_neg past]

theorem Gap.holds_iff {g : Gap} {a : Seq} : g.holds a = true ↔ stepsAfter g.first a ≤ stepsAfter g.first g.last :=
  decide_eq_true_iff

/-- A record behind q that no gap holds is a duplicate (R77). -/
theorem State.takeBehind_duplicate {s : State} {i : StationId} {a : Seq} (slot : Nat)
    (outside : ∀ g ∈ (s.station i).tracker.gaps, stepsAfter g.first g.last < stepsAfter g.first a) :
    s.takeBehind i slot a = s.dropDuplicate i slot := by
  have absent : ((s.station i).tracker.gaps.find? fun g => g.holds a) = none :=
    List.find?_eq_none.mpr fun g mem holds => absurd (Gap.holds_iff.mp holds) (Nat.not_le.mpr (outside g mem))
  simp only [State.takeBehind, absent]

/-! ## The gap that a fill leaves (R78, R79) -/

theorem replaceGap_split {test : Gap → Bool} {before after new : List Gap} {g : Gap} (isIt : test g = true)
    (others : ∀ h ∈ before, test h = false) : replaceGap test new (before ++ g :: after) = before ++ new ++ after := by
  induction before with
  | nil => exact if_pos isIt
  | cons h rest ih =>
    have skip : ¬ test h = true := by rw [others h List.mem_cons_self]; exact nofun
    exact (if_neg skip).trans (congrArg (h :: ·) (ih fun x mem => others x (List.mem_cons_of_mem _ mem)))

/-- A fill of seq a fills its gap (R78). -/
abbrev Gap.isFilled (a : Seq) (g : Gap) : Prop := g.first = a ∧ g.last = a

/-- A fill of seq a splits its gap (R79). -/
abbrev Gap.isSplit (a : Seq) (g : Gap) : Prop := g.first ≠ a ∧ g.last ≠ a

/-- What is left of a gap by a fill of seq a, on a full list or on one with room (R78, R79). -/
def Gap.shrunk (a : Seq) (gaps : List Gap) (g : Gap) : List Gap :=
  if g.isFilled a then [] else if g.first = a then [{ g with first := a + 1 }]
  else if g.last = a ∨ 4 ≤ gaps.length then [{ g with last := a - 1 }]
  else [{ g with last := a - 1 }, { g with first := a + 1 }]

/-- A fill that raises GAP: of a gap that was requested, or of one whose upper part is abandoned (R78, R79). -/
abbrev Gap.tells (a : Seq) (gaps : List Gap) (g : Gap) : Prop :=
  (g.isFilled a ∧ (g.request ≠ none ∨ 1 ≤ g.attempts)) ∨ (g.isSplit a ∧ 4 ≤ gaps.length)

/-- A station whose gap g has taken a fill of seq a (R78, R79). -/
def Station.filled (a : Seq) (before : List Gap) (g : Gap) (after : List Gap) (x : Station) : Station :=
  { x with
    tracker := { x.tracker with gaps := before ++ g.shrunk a x.tracker.gaps ++ after }
    counters := { x.counters with
      fills := bump x.counters.fills
      gapsFilled := if g.isFilled a then bump x.counters.gapsFilled else x.counters.gapsFilled
      gapsAbandoned := if g.isSplit a ∧ 4 ≤ x.tracker.gaps.length then bump x.counters.gapsAbandoned
        else x.counters.gapsAbandoned } }

/-- The state in which a station's gap has taken a fill (R78, R79). -/
def State.recovered (s : State) (i : StationId) (a : Seq) (before : List Gap) (g : Gap) (after : List Gap) : State :=
  (s.setStation i ((s.station i).filled a before g after)).raiseIf (decide (g.tells a (s.station i).tracker.gaps)) .gap

section Recovers

variable {s : State} {i : StationId} {a : Seq} {before after : List Gap} {g : Gap}

/-- A gap that takes a fill is filled, shrunk or split (R78, R79). -/
theorem State.shrinkGap_eq (gaps : (s.station i).tracker.gaps = before ++ g :: after) (holds : g.holds a = true)
    (others : ∀ h ∈ before, h.holds a = false) :
    (s.shrinkGap i a g).count i (fun y => { y with fills := bump y.fills }) = s.recovered i a before g after := by
  have put (new : List Gap) : (s.modTracker i fun t =>
      { t with gaps := replaceGap (fun x => x.holds a) new t.gaps }) = s.setStation i { s.station i with
        tracker := { (s.station i).tracker with gaps := before ++ new ++ after } } := by
    rw [State.modTracker_eq, gaps, replaceGap_split holds others]
  by_cases filled : g.isFilled a
  · have whole : ¬ g.isSplit a := fun split => split.1 filled.1
    have told : decide (g.tells a (s.station i).tracker.gaps) = (g.request.isSome || decide (1 ≤ g.attempts)) := by
      have tells : g.tells a (s.station i).tracker.gaps ↔ (g.request ≠ none ∨ 1 ≤ g.attempts) :=
        ⟨fun | .inl wanted => wanted.2 | .inr split => absurd split.1 whole, fun wanted => .inl ⟨filled, wanted⟩⟩
      rw [Bool.eq_iff_iff, decide_eq_true_iff, tells, Bool.or_eq_true, decide_eq_true_iff, Option.isSome_iff_ne_none]
    simp only [State.shrinkGap, put, if_pos filled, State.recovered, told, Station.filled, Gap.shrunk, whole, false_and,
      if_false, State.count_eq, State.raiseIf_station, State.setStation_self, State.raiseIf_setStation,
      State.setStation_setStation]
  · by_cases first : g.first = a
    · have whole : ¬ g.isSplit a := fun split => split.1 first
      have silent : decide (g.tells a (s.station i).tracker.gaps) = false := by simp [filled, whole]
      simp only [State.shrinkGap, put, if_neg filled, if_pos first, State.recovered, silent, State.raiseIf_not,
        Station.filled, Gap.shrunk, whole, false_and, if_false, State.count_eq, State.setStation_self,
        State.setStation_setStation]
    · by_cases last : g.last = a
      · have whole : ¬ g.isSplit a := fun split => split.2 last
        have silent : decide (g.tells a (s.station i).tracker.gaps) = false := by simp [filled, whole]
        have lower : g.last = a ∨ 4 ≤ (s.station i).tracker.gaps.length := .inl last
        simp only [State.shrinkGap, put, if_neg filled, if_neg first, if_pos last, State.recovered, silent,
          State.raiseIf_not, Station.filled, Gap.shrunk, if_pos lower, whole, false_and, if_false, State.count_eq,
          State.setStation_self, State.setStation_setStation]
      · have split : g.isSplit a := ⟨first, last⟩
        by_cases full : 4 ≤ (s.station i).tracker.gaps.length
        · have told : decide (g.tells a (s.station i).tracker.gaps) = true := decide_eq_true (.inr ⟨split, full⟩)
          have lower : g.last = a ∨ 4 ≤ (s.station i).tracker.gaps.length := .inr full
          have lost : g.isSplit a ∧ 4 ≤ (s.station i).tracker.gaps.length := ⟨split, full⟩
          simp only [State.shrinkGap, put, if_neg filled, if_neg first, if_neg last, gapLimit, if_pos full,
            State.recovered,
            told, Station.filled, Gap.shrunk, if_pos lower, if_pos lost, State.countAbandoned, State.count_eq,
            State.raiseIf_station, State.setStation_self, State.raiseIf_setStation, State.setStation_setStation]
          rfl
        · have silent : decide (g.tells a (s.station i).tracker.gaps) = false := by simp [filled, full]
          have room : ¬ (g.last = a ∨ 4 ≤ (s.station i).tracker.gaps.length) := fun
            | .inl at_ => last at_
            | .inr isFull => full isFull
          have kept : ¬ (g.isSplit a ∧ 4 ≤ (s.station i).tracker.gaps.length) := fun lost => full lost.2
          simp only [State.shrinkGap, put, if_neg filled, if_neg first, if_neg last, gapLimit, if_neg full,
            State.recovered,
            silent, State.raiseIf_not, Station.filled, Gap.shrunk, if_neg room, if_neg kept, State.count_eq,
            State.setStation_self, State.setStation_setStation]

/-- A record behind q that a gap holds is a fill (R77). -/
theorem State.takeBehind_fill (slot : Nat) (gaps : (s.station i).tracker.gaps = before ++ g :: after)
    (holds : g.holds a = true) (others : ∀ h ∈ before, h.holds a = false) :
    s.takeBehind i slot a = (s.recovered i a before g after).correct .fill i slot := by
  have found : ((s.station i).tracker.gaps.find? fun g => g.holds a) = some g := by
    rw [gaps, List.find?_append, List.find?_eq_none.mpr fun h mem => by rw [others h mem]; exact nofun]
    exact List.find?_cons_of_pos (p := fun g => Gap.holds g a) holds
  simp only [State.takeBehind, found, State.shrinkGap_eq gaps holds others]

theorem State.recovered_withSlot (s : State) (k : Nat) (r : Record) (i : StationId) (a : Seq) (before : List Gap)
    (g : Gap) (after : List Gap) : (s.withSlot k r).recovered i a before g after =
      (s.recovered i a before g after).withSlot k r := by
  unfold State.recovered
  show _ = State.withSlot (State.raiseIf _ (decide (g.tells a ((s.withSlot k r).station i).tracker.gaps)) _) k r
  cases decide (g.tells a ((s.withSlot k r).station i).tracker.gaps) <;> rfl

theorem State.recovered_station (s : State) (i : StationId) (a : Seq) (before : List Gap) (g : Gap) (after : List Gap) :
    (s.recovered i a before g after).station i = (s.station i).filled a before g after := by
  rw [State.recovered, State.raiseIf_station, State.setStation_self]

theorem State.recovered_slots (s : State) (i : StationId) (a : Seq) (before : List Gap) (g : Gap) (after : List Gap) :
    (s.recovered i a before g after).store.slots = s.store.slots := by
  rw [State.recovered, State.raiseIf_store]
  rfl

theorem State.recovered_tracking (s : State) (i : StationId) (a : Seq) (before : List Gap) (g : Gap)
    (after : List Gap) :
    TrackingFrame i s (s.recovered i a before g after) :=
  .trans (s.modStation_tracking i (fun x => x.filled a before g after) ⟨_, _, _, rfl⟩)
    ((State.raiseIf_frame _ _ _).tracking i)

theorem State.recovered_raises (s : State) (i : StationId) (a : Seq) (before : List Gap) (g : Gap) (after : List Gap) :
    Raises s (s.recovered i a before g after) :=
  (SlotFrame.modStation s i fun x => x.filled a before g after).raises.trans (.raiseIf _ _ _)

/-- The timing of a fill changes of the stations but counters that are not the tracker's (R136). -/
theorem State.correct_fill_placing {slot : Nat} (own : ∀ y ∈ s.store.slots, y.number = slot → y.record.station = i) :
    PlacingFrame i s (s.correct .fill i slot) := by
  have timed (r : Record) (c : Case) (t : Timing) (stop : Int) :
      PlacingFrame i s (s.timedAt .fill i slot r c t stop) := by
    have same : (s.modStation i fun y => y.afterTiming .fill r c stop) = s := State.setStation_station s i
    rw [State.timedAt, same]
    exact (State.modSlot_frame _ _ _).placing i
  have freed (w : State) {f : StationCounters → StationCounters}
      (h : (w.station i).counters.SameTracking (f (w.station i).counters)) : PlacingFrame i w (w.countFreed i slot f) :=
    (w.count_placing i h).trans ((State.freeSlot_frame _ _).placing i)
  cases found : s.slot? slot with
  | none => rw [State.correct_of_none found]; exact .refl i s
  | some x =>
    have isOwn : x.record.station = i :=
      own x (List.mem_of_find?_eq_some found) (by simpa using List.find?_some found)
    cases h : (s.station i).time .fill x.record with
    | untimed => rw [State.correct_untimed found h]; exact freed s ⟨rfl, rfl, rfl, rfl, rfl, rfl, rfl⟩
    | beyondSpan => rw [State.correct_beyondSpan found h]; exact freed s ⟨rfl, rfl, rfl, rfl, rfl, rfl, rfl⟩
    | timed c t stop =>
      cases grid : s.timebase.grid with
      | none =>
        rw [State.correct_noGrid found h grid]
        exact (timed _ c t stop).trans (freed _ ⟨rfl, rfl, rfl, rfl, rfl, rfl, rfl⟩)
      | some g =>
        rw [State.correct_placed found h grid]
        refine (timed x.record c t stop).trans ?_
        subst isOwn
        exact State.place_placing _ _ _ _ _ _

end Recovers

/-! ## A fill, timed on the model (R128 to R130, R136 to R140) -/

section TimedFill

variable {s : State} {k : Nat} {r : Record} {a : Anchor} (unused : ∀ y ∈ s.store.slots, y.number ≠ k)
  (usable : (s.station r.station).clock.usable = some a)

/-- Where a fill ends by the model (R130, R136). -/
def Station.modelStop (x : Station) (a : Anchor) (r : Record) : Int :=
  x.modelStart a r.kFirst + duration x.period x.clock.rho r.n

/-- The timing of a fill, by the model alone (R136, R137). -/
def Station.fillTiming (x : Station) (a : Anchor) (r : Record) : Timing :=
  { start := x.modelStart a r.kFirst, rho := x.clock.rho, quality := x.clock.state.quality, path := .fill }

include unused usable

theorem State.correct_fill_beyond
    (beyond : ¬ TimingFits (counterDiff r.kFirst a.k0) ((s.station r.station).modelStart a r.kFirst)
      ((s.station r.station).modelStop a r)) :
    (s.withSlot k r).correct .fill r.station k = s.count r.station fun c =>
      { c with beyondSpan := bump c.beyondSpan } :=
  State.correct_taken_beyond unused (Station.time_beyond (stream := .fill) usable rfl rfl beyond)

theorem State.correct_fill_noGrid
    (fits : TimingFits (counterDiff r.kFirst a.k0) ((s.station r.station).modelStart a r.kFirst)
      ((s.station r.station).modelStop a r)) (noGrid : s.timebase.grid = none) :
    (s.withSlot k r).correct .fill r.station k = s.count r.station fun c => { c with noGrid := bump c.noGrid } := by
  rw [State.correct_taken_noGrid unused (Station.time_fits (stream := .fill) usable rfl rfl fits) noGrid]
  exact congrArg (fun w : State => w.count r.station fun c => { c with noGrid := bump c.noGrid })
    (State.setStation_station s r.station)

theorem State.correct_fill_placed {g : Grid}
    (fits : TimingFits (counterDiff r.kFirst a.k0) ((s.station r.station).modelStart a r.kFirst)
      ((s.station r.station).modelStop a r)) (grid : s.timebase.grid = some g) :
    (s.withSlot k r).correct .fill r.station k = (s.withTimed k r ((s.station r.station).fillTiming a r)).place g
      (s.station r.station).period k r ((s.station r.station).fillTiming a r) := by
  rw [State.correct_taken_placed unused (Station.time_fits (stream := .fill) usable rfl rfl fits) grid]
  exact congrArg (State.place g (s.station r.station).period k r ((s.station r.station).fillTiming a r))
    (State.setStation_station _ _)

end TimedFill

section Fill

variable {dt : Nat} {l : LinkId} {r : Record} {rest : List Entry} {s : State}

/-- A HEAD_DATA event that finds a slot (R37, R168). -/
structure TakesSlot (dt : Nat) (l : LinkId) (r : Record) (rest : List Entry) (s : State) : Prop where
  running : s.held = false
  sound : s.slotsSound
  settled : s.settled
  isOpen : (s.link l).blocked = false
  queue : (s.link l).queue = .data r :: rest
  enabled : (s.station r.station).enabled = true
  waiting : s.store.waiting = []
  room : s.store.slots.length < 4096

/-- The part with the record in the lowest FREE slot (R168). -/
def State.taking (s : State) (dt : Nat) (l : LinkId) (r : Record) (rest : List Entry) : State :=
  (s.atHead dt l rest).withSlot (lowestFree 0 s.store.slots) r

namespace TakesSlot

theorem exec (h : TakesSlot dt l r rest s) : exec (.headData dt l) s =
    .next (((s.taking dt l r rest).track r.station (lowestFree 0 s.store.slots) r.seq).evalCompletion).endEvent :=
  State.exec_headData dt h.running h.isOpen h.queue h.enabled h.waiting h.room

theorem station (j : StationId) : (s.taking dt l r rest).station j = s.station j := State.atHead_station dt l rest j

/-- An event that has changed of the stations' gap lists and covered-until nothing completes no epoch (R157). -/
theorem exec_settled (h : TakesSlot dt l r rest s) {x : Station} {w : State}
    (track : (s.taking dt l r rest).track r.station (lowestFree 0 s.store.slots) r.seq = w.setStation r.station x)
    (grid : w.timebase.grid = s.timebase.grid) (table : w.assembler.table = s.assembler.table)
    (others : ∀ j, w.station j = s.station j) (gaps : x.tracker.gaps = (s.station r.station).tracker.gaps)
    (covered : x.tracker.covered = (s.station r.station).tracker.covered) :
    Machine.exec (.headData dt l) s = .next (w.setStation r.station x).endEvent := by
  rw [h.exec, track]
  refine congrArg (fun t : State => Host.Outcome.next t.endEvent) (State.evalCompletion_of_settled h.settled grid table
    fun j => ?_)
  rw [State.station_setStation]
  split
  · next same => subst same; exact ⟨gaps, covered⟩
  · rw [others]; exact ⟨rfl, rfl⟩

/-- What a fill leaves of the part (R77 to R79, R136). -/
theorem fill (h : TakesSlot dt l r rest s) {q : Seq} {before after : List Gap} {g : Gap}
    (isQ : (s.station r.station).tracker.q = some q) (behind : 32768 ≤ stepsAfter q r.seq)
    (gaps : (s.station r.station).tracker.gaps = before ++ g :: after)
    (outside : ∀ h ∈ before, stepsAfter h.first h.last < stepsAfter h.first r.seq)
    (inGap : stepsAfter g.first r.seq ≤ stepsAfter g.first g.last) :
    let w := (((s.atHead dt l rest).recovered r.station r.seq before g after).withSlot (lowestFree 0 s.store.slots)
      r).correct .fill r.station (lowestFree 0 s.store.slots)
    (s.taking dt l r rest).track r.station (lowestFree 0 s.store.slots) r.seq = w ∧
    TrackingFrame r.station (s.taking dt l r rest) w ∧
    (∃ c, w.station r.station = { (s.station r.station).filled r.seq before g after with counters := c } ∧
      ((s.station r.station).filled r.seq before g after).counters.SameTracking c) ∧
    Raises ((s.atHead dt l rest).recovered r.station r.seq before g after) w := by
  intro w
  have unused := (State.lowestFree_spec h.sound h.room).2.1
  have track : (s.taking dt l r rest).track r.station (lowestFree 0 s.store.slots) r.seq = w := by
    rw [State.track_behind (q := q) _ (by rw [TakesSlot.station]; exact isQ) behind,
      State.takeBehind_fill (before := before) (after := after) (g := g) _ (by rw [TakesSlot.station]; exact gaps)
        (Gap.holds_iff.mpr inGap) fun h mem => Bool.eq_false_iff.mpr fun holds =>
          absurd (Gap.holds_iff.mp holds) (Nat.not_le.mpr (outside h mem)),
      State.taking, State.recovered_withSlot]
  have frame := (s.taking dt l r rest).recovered_tracking r.station r.seq before g after
  rw [State.taking, State.recovered_withSlot] at frame
  have own := State.owns_withSlot (s := (s.atHead dt l rest).recovered r.station r.seq before g after) r
    (k := lowestFree 0 s.store.slots) (by rw [State.recovered_slots]; exact unused)
  have placing := State.correct_fill_placing own
  have isX : (((s.atHead dt l rest).recovered r.station r.seq before g after).withSlot (lowestFree 0 s.store.slots)
      r).station r.station = (s.station r.station).filled r.seq before g after := State.recovered_station _ _ _ _ _ _
  obtain ⟨c, isC, same⟩ := placing.counted
  rw [isX] at isC same
  refine ⟨track, frame.trans placing.toTrackingFrame, ⟨c, isC, same⟩, ?_⟩
  exact (Raises.of_port fun p => by cases p <;> rfl : Raises _ (State.withSlot _ _ r)).trans
    (SlotFrame.correct .fill r.station _ _).raises

end TakesSlot

end Fill

/-! ## A record 9 or more steps after q (R73, R74, R76) -/

section Far

variable {s : State} {i : StationId} {q a : Seq}

theorem State.track_far (slot : Nat) (isQ : (s.station i).tracker.q = some q) (far : 9 ≤ stepsAfter q a)
    (ahead : stepsAfter q a ≤ 32767) :
    s.track i slot a = (s.advanceTo i a ((s.station i).tracker.hold.length + 1)).takeNear i slot a := by
  have past : ¬ stepsAfter q a ≤ 8 := by omega
  simp only [State.track, isQ, if_neg past, if_pos ahead]

theorem State.advanceTo_next (fuel : Nat) (isQ : (s.station i).tracker.q = some q) (far : 9 ≤ stepsAfter q a)
    (ahead : stepsAfter q a ≤ 32767) : s.advanceTo i a (fuel + 1) =
      (s.declareAdvance i q ((s.station i).tracker.lowest a)).advanceTo i a fuel := by
  simp only [State.advanceTo, isQ, if_pos (And.intro far ahead)]

theorem State.advanceTo_stop (fuel : Nat) (isQ : (s.station i).tracker.q = some q) (near : stepsAfter q a < 9) :
    s.advanceTo i a fuel = s := by
  cases fuel with
  | zero => rfl
  | succ fuel =>
    have stop : ¬ (9 ≤ stepsAfter q a ∧ stepsAfter q a ≤ 32767) := fun far => absurd near (Nat.not_lt.mpr far.1)
    simp only [State.advanceTo, isQ, if_neg stop]

theorem State.takeNear_at (slot : Nat) (isQ : (s.station i).tracker.q = some a) :
    s.takeNear i slot a = s.inSequence i slot a := by
  simp only [State.takeNear, isQ, if_true]

theorem State.takeNear_early (slot : Nat) (isQ : (s.station i).tracker.q = some q) (early : a ≠ q) :
    s.takeNear i slot a = s.holdRecord i slot q a := by
  simp only [State.takeNear, isQ, if_neg early]

/-- The gaps that are left when a list is aged against q (R76). -/
def Gap.young (q : Seq) (gaps : List Gap) : List Gap :=
  gaps.filter fun g => decide (1 ≤ stepsAfter g.first q) && decide (stepsAfter g.first q ≤ 32767)

/-- A list with a gap declared, the oldest of four giving way (R76). -/
def Gap.declared (first last : Seq) (gaps : List Gap) : List Gap :=
  (if 4 ≤ gaps.length then gaps.drop 1 else gaps) ++
    [{ first := first, last := last, attempts := 0, request := none, damaged := false }]

/-- A station that has declared n gaps and advanced to q, with nothing left held (R73). -/
structure Advanced (i : StationId) (q : Seq) (gaps : List Gap) (n : Nat) (s t : State) : Prop extends
    Advances i n s t where
  isQ : (t.station i).tracker.q = some q
  hold : (t.station i).tracker.hold = []
  holdDue : (t.station i).tracker.holdDue = none
  gaps : (t.station i).tracker.gaps = gaps

/-- One declare-and-advance of a station whose whole hold is a run from h (R73, R76). -/
theorem Advanced.declareAdvance {run : List Held} {h : Seq} (q : Seq) (hold : (s.station i).tracker.hold = run)
    (isRun : runsFrom h run) (own : ∀ x ∈ run, ∀ y ∈ s.store.slots, y.number = x.slot → y.record.station = i) :
    Advanced i (h + BitVec.ofNat 16 run.length) (Gap.young (h + BitVec.ofNat 16 run.length)
      (Gap.declared q (h - 1) (s.station i).tracker.gaps)) 1 s (s.declareAdvance i q h) := by
  have hold' : (s.station i).tracker.hold = run ++ [] := by rw [List.append_nil]; exact hold
  have advances := Advances.declareAdvance q hold' isRun nofun own
  have drained : drainTo h ((s.bare i).declared q (h - 1)).hold = (h + BitVec.ofNat 16 run.length, []) := by
    have isHold : ((s.bare i).declared q (h - 1)).hold = run ++ [] := hold'
    rw [isHold]
    exact drainTo_run isRun nofun
  have moved : ({ (s.bare i).declared q (h - 1) with q := some h } : Tracker).drained =
      { (s.bare i).declared q (h - 1) with q := some (h + BitVec.ofNat 16 run.length), hold := [] } := by
    simp only [Tracker.drained, drained]
  have bare : (s.declareAdvance i q h).bare i = ({ (s.station i).tracker with
      q := some (h + BitVec.ofNat 16 run.length), hold := [], holdDue := none
      gaps := Gap.young (h + BitVec.ofNat 16 run.length)
        (Gap.declared q (h - 1) (s.station i).tracker.gaps) } : Tracker).bare := by
    rw [State.bare_declareAdvance, Function.update_self, Tracker.advanced, Tracker.movedTo, moved, Tracker.rested_eq,
      Tracker.passes_aged]
    rfl
  generalize s.declareAdvance i q h = w at *
  have tracker := State.tracker_of_bare bare
  refine ⟨advances, ?_, ?_, ?_, ?_⟩ <;> rw [tracker]

theorem Advanced.trans {q p : Seq} {gaps kept : List Gap} {n m : Nat} {t u : State} (h : Advanced i q gaps n s t)
    (k : Advanced i p kept m t u) : Advanced i p kept (m + n) s u :=
  ⟨h.toAdvances.trans k.toAdvances, k.isQ, k.hold, k.holdDue, k.gaps⟩

/-- A declare-and-advance to a record that finds none held. -/
theorem Advanced.toRecord (q a : Seq) (hold : (s.station i).tracker.hold = []) :
    Advanced i a (Gap.young a (Gap.declared q (a - 1) (s.station i).tracker.gaps)) 1 s (s.declareAdvance i q a) := by
  have advanced := Advanced.declareAdvance (h := a) (run := []) q hold trivial nofun
  rw [List.length_nil, seq_add_zero] at advanced
  exact advanced

/-- A declare-and-advance to the only held record. -/
theorem Advanced.toHeld {h : Held} (q : Seq) (hold : (s.station i).tracker.hold = [h])
    (own : ∀ y ∈ s.store.slots, y.number = h.slot → y.record.station = i) :
    Advanced i (h.seq + 1) (Gap.young (h.seq + 1) (Gap.declared q (h.seq - 1) (s.station i).tracker.gaps)) 1 s
      (s.declareAdvance i q h.seq) :=
  .declareAdvance (h := h.seq) (run := [h]) q hold ⟨rfl, trivial⟩ fun x mem => by
    obtain rfl := List.mem_singleton.mp mem
    exact own

/-- A record that finds none held declares the gap before itself (R74). -/
theorem State.track_far_alone (slot : Nat) (isQ : (s.station i).tracker.q = some q) (far : 9 ≤ stepsAfter q a)
    (ahead : stepsAfter q a ≤ 32767) (hold : (s.station i).tracker.hold = []) :
    s.track i slot a = (s.declareAdvance i q a).inSequence i slot a := by
  have isLowest : (s.station i).tracker.lowest a = a := by simp only [Tracker.lowest, hold]
  rw [State.track_far slot isQ far ahead, State.advanceTo_next _ isQ far ahead, isLowest, hold,
    List.length_nil, State.advanceTo, State.takeNear_at slot (Advanced.toRecord q a hold).isQ]

/-- A record that finds one held declares the gap before that one first (R74). -/
theorem State.track_far_held {h : Held} (slot : Nat) (isQ : (s.station i).tracker.q = some q) (far : 9 ≤ stepsAfter q a)
    (ahead : stepsAfter q a ≤ 32767) (hold : (s.station i).tracker.hold = [h]) :
    s.track i slot a = ((s.declareAdvance i q h.seq).advanceTo i a 1).takeNear i slot a := by
  have isLowest : (s.station i).tracker.lowest a = h.seq := by simp only [Tracker.lowest, hold]
  rw [State.track_far slot isQ far ahead, State.advanceTo_next _ isQ far ahead, isLowest, hold]
  rfl

theorem SlotFrame.owned {s t : State} (h : SlotFrame s t) {k : Nat}
    (own : ∀ y ∈ s.store.slots, y.number = k → y.record.station = i) :
    ∀ y ∈ t.store.slots, y.number = k → y.record.station = i := fun z mem number => by
  obtain ⟨y, mem, same, record⟩ := h.slots z mem
  rw [record]
  exact own y mem (same.symm.trans number)

/-- What a HEAD_DATA event leaves of its record's station and of all else, where the station's tracking and counters
alone have moved (R67). -/
structure HeadTaken (dt : Nat) (l : LinkId) (rest : List Entry) (i : StationId) (s t : State) : Prop where
  config : (t.station i).config = (s.station i).config
  clock : (t.station i).clock = (s.station i).clock
  mark : (t.station i).mark = (s.station i).mark
  others : ∀ j, j ≠ i → t.station j = s.station j
  link : t.link l = { s.link l with queue := rest }
  links : ∀ k, k ≠ l → t.link k = s.link k
  timebase : t.timebase = (s.advance dt).timebase
  reservations : t.reservations = s.reservations

theorem TrackingFrame.headTaken {dt : Nat} {l : LinkId} {rest : List Entry} {r : Record} {k : Nat} {w : State}
    (h : TrackingFrame i ((s.atHead dt l rest).withSlot k r) w) :
    HeadTaken dt l rest i s w.evalCompletion.endEvent ∧ w.evalCompletion.endEvent.station i = w.station i := by
  obtain ⟨same, own, others, link, links, timebase, reservations⟩ := h.atHead
  exact ⟨⟨by rw [own], by rw [own], by rw [own], others, link, links, timebase, reservations⟩, same⟩

/-- A station whose record at q - 1 has been released, with nothing left held (R69, R73, R74). -/
structure Released (i : StationId) (a : Seq) (gaps : List Gap) (n : Nat) (s t : State) : Prop where
  q : (t.station i).tracker.q = some (a + 1)
  hold : (t.station i).tracker.hold = []
  holdDue : (t.station i).tracker.holdDue = none
  gaps : (t.station i).tracker.gaps = gaps.filter fun g =>
    decide (1 ≤ stepsAfter g.first (a + 1)) && decide (stepsAfter g.first (a + 1) ≤ 32767)
  inSequence : (t.station i).counters.inSequence = bump (s.station i).counters.inSequence
  declared : (t.station i).counters.gapsDeclared = bump^[n] (s.station i).counters.gapsDeclared

theorem Released.of_same {i : StationId} {a : Seq} {gaps : List Gap} {n : Nat} {s t u v : State}
    (h : Released i a gaps n s t) (same : s.station i = u.station i) (same' : v.station i = t.station i) :
    Released i a gaps n u v := by
  obtain ⟨isQ, hold, due, gaps, inSequence, declared⟩ := h
  rw [same] at inSequence declared
  rw [← same'] at isQ hold due gaps inSequence declared
  exact ⟨isQ, hold, due, gaps, inSequence, declared⟩

/-- A record released at q behind n declared gaps, with nothing held (R69, R73, R74). -/
theorem Advances.released {n slot : Nat} {t : State} (h : Advances i n s t)
    (hold : (t.station i).tracker.hold = []) (own : ∀ y ∈ s.store.slots, y.number = slot → y.record.station = i) :
    TrackingFrame i s (t.inSequence i slot a) ∧
      Released i a (t.station i).tracker.gaps n s (t.inSequence i slot a) := by
  have sequences := Sequences.of_inSequence (run := []) (others := []) slot hold (a := a) trivial nofun
    (h.toSlotFrame.owned own) nofun
  rw [List.length_nil, seq_add_zero] at sequences
  generalize t.inSequence i slot a = w at *
  have bare := sequences.bare
  rw [Tracker.passes_aged] at bare
  have tracker := State.tracker_of_bare (k := { (t.station i).tracker with
    q := some (a + 1), hold := [], holdDue := none
    gaps := (t.station i).tracker.gaps.filter fun g =>
      decide (1 ≤ stepsAfter g.first (a + 1)) && decide (stepsAfter g.first (a + 1) ≤ 32767) }) bare
  refine ⟨h.toTrackingFrame.trans sequences.toTrackingFrame, ?_, ?_, ?_, ?_,
    sequences.inSequence.trans (congrArg bump h.inSequence),
    sequences.declared.trans h.declared⟩ <;> rw [tracker]

/-- The event that ends with such a release. -/
theorem TakesSlot.released {dt : Nat} {l : LinkId} {r : Record} {rest : List Entry} {s u : State} {n : Nat}
    (h : TakesSlot dt l r rest s) (track : (s.taking dt l r rest).track r.station (lowestFree 0 s.store.slots) r.seq =
      u.inSequence r.station (lowestFree 0 s.store.slots) r.seq)
        (advances : Advances r.station n (s.taking dt l r rest) u)
    (hold : (u.station r.station).tracker.hold = []) : ∃ t, Machine.exec (.headData dt l) s = .next t ∧
      HeadTaken dt l rest r.station s t ∧ Released r.station r.seq (u.station r.station).tracker.gaps n s t := by
  have unused := (State.lowestFree_spec h.sound h.room).2.1
  obtain ⟨frame, released⟩ := advances.released (a := r.seq) hold
      (State.owns_withSlot (s := s.atHead dt l rest) r unused)
  obtain ⟨taken, same⟩ := frame.headTaken
  have exec_ := h.exec
  rw [track] at exec_
  exact ⟨_, exec_, taken, released.of_same (TakesSlot.station r.station) same⟩

end Far

/-- A record 9 or more steps after q, with nothing held (R74). -/
theorem TakesSlot.far_alone {dt : Nat} {l : LinkId} {r : Record} {rest : List Entry} {s : State}
    (h : TakesSlot dt l r rest s) {q : Seq} (isQ : (s.station r.station).tracker.q = some q)
      (far : 9 ≤ stepsAfter q r.seq)
    (ahead : stepsAfter q r.seq ≤ 32767) (hold : (s.station r.station).tracker.hold = []) :
    ∃ t, Machine.exec (.headData dt l) s = .next t ∧ HeadTaken dt l rest r.station s t ∧ Released r.station r.seq
      (Gap.young r.seq (Gap.declared q (r.seq - 1) (s.station r.station).tracker.gaps)) 1 s t := by
  have station : (s.taking dt l r rest).station r.station = s.station r.station := TakesSlot.station _
  have hold' : ((s.taking dt l r rest).station r.station).tracker.hold = [] := by rw [station]; exact hold
  have track := State.track_far_alone (lowestFree 0 s.store.slots) (by rw [station]; exact isQ) far ahead hold'
  have advanced := Advanced.toRecord q r.seq hold'
  rw [station] at advanced
  rw [← advanced.gaps]
  exact h.released track advanced.toAdvances advanced.hold

section FarHeld

variable {dt : Nat} {l : LinkId} {r : Record} {rest : List Entry} {s : State} {q : Seq} {h : Held}

/-- The gap list of a station that has advanced to the only record it held (R73, R76). -/
def Gap.onceDeclared (q : Seq) (h : Held) (gaps : List Gap) : List Gap :=
  Gap.young (h.seq + 1) (Gap.declared q (h.seq - 1) gaps)

/-- A HEAD_DATA event whose record is 9 or more steps after q, with one record held (R74). -/
structure TakesFar (dt : Nat) (l : LinkId) (r : Record) (rest : List Entry) (q : Seq) (h : Held) (s : State) : Prop
    extends TakesSlot dt l r rest s where
  isQ : (s.station r.station).tracker.q = some q
  far : 9 ≤ stepsAfter q r.seq
  ahead : stepsAfter q r.seq ≤ 32767
  hold : (s.station r.station).tracker.hold = [h]
  own : ∀ y ∈ s.store.slots, y.number = h.slot → y.record.station = r.station

namespace TakesFar

/-- The part once the gap before the held record is declared (R73). -/
theorem once (t : TakesFar dt l r rest q h s) :
    Advanced r.station (h.seq + 1) (Gap.onceDeclared q h (s.station r.station).tracker.gaps) 1 (s.taking dt l r rest)
      ((s.taking dt l r rest).declareAdvance r.station q h.seq) ∧
    (s.taking dt l r rest).track r.station (lowestFree 0 s.store.slots) r.seq =
      (((s.taking dt l r rest).declareAdvance r.station q h.seq).advanceTo r.station r.seq 1).takeNear r.station
        (lowestFree 0 s.store.slots) r.seq := by
  have station : (s.taking dt l r rest).station r.station = s.station r.station := TakesSlot.station _
  have hold' : ((s.taking dt l r rest).station r.station).tracker.hold = [h] := by rw [station]; exact t.hold
  have advanced := Advanced.toHeld q hold' (State.withSlot_own (s := s.atHead dt l rest) t.own)
  rw [station] at advanced
  exact ⟨advanced, State.track_far_held _ (by rw [station]; exact t.isQ) t.far t.ahead hold'⟩

/-- The record follows the held one at once, and is released. -/
theorem next (t : TakesFar dt l r rest q h s) (follows : r.seq = h.seq + 1) :
    ∃ w, exec (.headData dt l) s = .next w ∧ HeadTaken dt l rest r.station s w ∧
      Released r.station r.seq (Gap.onceDeclared q h (s.station r.station).tracker.gaps) 1 s w := by
  obtain ⟨advanced, track⟩ := t.once
  rw [← follows] at advanced
  have near : stepsAfter r.seq r.seq < 9 := by rw [stepsAfter_eq_zero.mpr rfl]; omega
  rw [State.advanceTo_stop 1 advanced.isQ near, State.takeNear_at _ advanced.isQ] at track
  rw [← advanced.gaps]
  exact t.released track advanced.toAdvances advanced.hold

/-- The record leaves a second gap, which is declared too. -/
theorem second (t : TakesFar dt l r rest q h s) (far : 9 ≤ stepsAfter (h.seq + 1) r.seq)
    (ahead : stepsAfter (h.seq + 1) r.seq ≤ 32767) :
    ∃ w, exec (.headData dt l) s = .next w ∧ HeadTaken dt l rest r.station s w ∧
      Released r.station r.seq (Gap.young r.seq (Gap.declared (h.seq + 1) (r.seq - 1)
        (Gap.onceDeclared q h (s.station r.station).tracker.gaps))) 2 s w := by
  obtain ⟨advanced, track⟩ := t.once
  have isLowest : (((s.taking dt l r rest).declareAdvance r.station q h.seq).station r.station).tracker.lowest r.seq =
      r.seq := by simp only [Tracker.lowest, advanced.hold]
  have twice := Advanced.toRecord (h.seq + 1) r.seq advanced.hold
  rw [advanced.gaps] at twice
  rw [State.advanceTo_next 0 advanced.isQ far ahead, isLowest, State.advanceTo, State.takeNear_at _ twice.isQ] at track
  have both := advanced.trans twice
  rw [← both.gaps]
  exact t.released track both.toAdvances both.hold

/-- The record is early behind the held one, and is held in its place. -/
theorem early (t : TakesFar dt l r rest q h s) (after : 1 ≤ stepsAfter (h.seq + 1) r.seq)
    (near : stepsAfter (h.seq + 1) r.seq ≤ 8) :
    ∃ w, exec (.headData dt l) s = .next w ∧ HeadTaken dt l rest r.station s w ∧
      (w.station r.station).tracker.q = some (h.seq + 1) ∧
      (w.station r.station).tracker.hold = [{ slot := lowestFree 0 s.store.slots, seq := r.seq }] ∧
      (w.station r.station).tracker.holdDue =
        some ((s.advance dt).partTime + (s.station r.station).config.holdTime * 1000) ∧
      (w.station r.station).tracker.gaps = Gap.onceDeclared q h (s.station r.station).tracker.gaps ∧
      (w.station r.station).counters.held = bump (s.station r.station).counters.held ∧
      (w.station r.station).counters.gapsDeclared = bump (s.station r.station).counters.gapsDeclared := by
  obtain ⟨advanced, track⟩ := t.once
  have other : r.seq ≠ h.seq + 1 := fun same => by rw [stepsAfter_eq_zero.mpr same] at after; omega
  have station : (s.taking dt l r rest).station r.station = s.station r.station := TakesSlot.station _
  have now : (s.taking dt l r rest).partTime = (s.advance dt).partTime := rfl
  rw [State.advanceTo_stop 1 advanced.isQ (by omega), State.takeNear_early _ advanced.isQ other,
    State.holdRecord_fresh _ _ (by rw [advanced.hold]; exact nofun)] at track
  have exec_ := t.exec
  rw [track] at exec_
  generalize (s.taking dt l r rest).declareAdvance r.station q h.seq = u at *
  obtain ⟨c, k, e, own⟩ := advanced.own
  have partTime : u.partTime = (s.advance dt).partTime := by rw [State.partTime, advanced.timebase, ← now]; rfl
  have config : (u.station r.station).config = (s.station r.station).config := by rw [own, station]
  have moved : TrackingFrame r.station (s.taking dt l r rest)
      (u.setStation r.station ((u.station r.station).holds (h.seq + 1)
        (lowestFree 0 s.store.slots) u.partTime r.seq)) :=
    advanced.toTrackingFrame.trans (u.modStation_tracking r.station (fun x =>
      x.holds (h.seq + 1) (lowestFree 0 s.store.slots) u.partTime r.seq) ⟨_, _, _, rfl⟩)
  obtain ⟨taken, same⟩ := moved.headTaken
  rw [State.setStation_self] at same
  refine ⟨_, exec_, taken, ?_, ?_, ?_, ?_, ?_, ?_⟩ <;> rw [same, Station.holds]
  · exact advanced.isQ
  · rw [advanced.hold]
    rfl
  · rw [if_pos advanced.hold, partTime, config]
  · exact advanced.gaps
  · exact congrArg bump (advanced.heldCount.trans (by rw [station]))
  · exact advanced.declared.trans (by rw [station]; rfl)

end TakesFar

end FarHeld

/-- Settles O38. -/
theorem earlyAndRepeatedRecords : Obligations.EarlyAndRepeatedRecords := by
  intro dt l r rest q s running sound settled isOpen queue enabled waiting room isQ i x popped
  have takes : TakesSlot dt l r rest s := ⟨running, sound, settled, isOpen, queue, enabled, waiting, room⟩
  obtain ⟨low, unused, lowest⟩ := State.lowestFree_spec sound room
  have isQ' : ((s.taking dt l r rest).station r.station).tracker.q = some q := by rw [TakesSlot.station]; exact isQ
  refine ⟨fun after near fresh => ⟨_, low, unused, lowest, ?_⟩, fun repeated => ?_, ?_, ?_⟩
  · have fresh' : ∀ h ∈ ((s.taking dt l r rest).station r.station).tracker.hold, h.seq ≠ r.seq := by
      rw [TakesSlot.station]
      exact fresh
    refine takes.exec_settled (w := s.taking dt l r rest)
      ((State.track_early _ isQ' after near fresh').trans ?_) rfl rfl
      TakesSlot.station rfl rfl
    rw [TakesSlot.station]
    rfl
  · have dropped : (s.taking dt l r rest).track r.station (lowestFree 0 s.store.slots) r.seq = popped.setStation i
        { x with counters := { x.counters with duplicates := bump x.counters.duplicates } } := by
      have duplicate := State.dropDuplicate_withSlot (s := popped) r unused i
      rcases repeated with ⟨after, near, copy⟩ | ⟨behind, outside⟩
      · exact (State.track_copy _ isQ' after near (by rw [TakesSlot.station]; exact copy)).trans duplicate
      · exact (State.track_behind _ isQ' behind).trans ((State.takeBehind_duplicate _ (by
          rw [TakesSlot.station]; exact outside)).trans duplicate)
    exact takes.exec_settled dropped rfl rfl (State.atHead_station dt l rest) rfl rfl
  · intro before after g behind gaps outside inGap filled inside full lower upper
    obtain ⟨track, frame, ⟨c, isC, same⟩, raises⟩ := takes.fill isQ behind gaps outside inGap
    have exec_ := takes.exec
    rw [track] at exec_
    have told : g.tells r.seq x.tracker.gaps → KindRaised 0x04 s (popped.recovered i r.seq before g after) :=
        fun tells => by
      have isTold : decide (g.tells r.seq (popped.station i).tracker.gaps) = true := decide_eq_true tells
      rw [State.recovered, State.raiseIf_of isTold]
      exact .before ((State.atHead_raises dt l rest).trans (SlotFrame.modStation popped i fun _ => _).raises)
        (.raise _ .gap)
    have before_ : Raises s (popped.recovered i r.seq before g after) :=
      (State.atHead_raises dt l rest).trans (State.recovered_raises popped i r.seq before g after)
    obtain ⟨isT, own, others, link, links, timebase, reservations⟩ := frame.atHead
    refine ⟨_, exec_, ?_, ?_, ?_, ?_, fun tells p line => ?_, others, link, links, timebase, reservations, ?_⟩
    · rw [isT, isC]
      rfl
    · rw [isT, isC]
      exact same.fills
    · rw [isT, isC]
      exact same.gapsFilled
    · rw [isT, isC]
      exact same.gapsAbandoned
    · have onward := raises.trans (SlotFrame.evalCompletion _).raises
      exact ((told tells).after onward before_).endEvent (before_.trans onward) p line
    · intro recovered dropped
      have isX : recovered.station r.station = x.filled r.seq before g after :=
        State.recovered_station popped i r.seq before g after
      have slots : recovered.store.slots = s.store.slots := State.recovered_slots popped i r.seq before g after
      have unused' : ∀ y ∈ recovered.store.slots, y.number ≠ lowestFree 0 s.store.slots := by rw [slots]; exact unused
      have timebase' : recovered.timebase = (s.advance dt).timebase := State.raiseIf_timebase _ _ _
      have drops {f : StationCounters → StationCounters}
          (same : (recovered.withSlot (lowestFree 0 s.store.slots) r).correct
          .fill r.station (lowestFree 0 s.store.slots) = recovered.count r.station f) :
          ((recovered.withSlot (lowestFree 0 s.store.slots) r).correct .fill r.station
            (lowestFree 0 s.store.slots)).evalCompletion.endEvent = dropped f :=
        congrArg (fun w : State => w.evalCompletion.endEvent) same
      refine ⟨fun unset => drops (State.correct_taken_untimed unused' (Station.time_unset (by
        rw [isX]; exact unset) _ _)), ?_⟩
      intro a set anchor delta start stop fits
      have usable : (recovered.station r.station).clock.usable = some a := by
        rw [isX]
        exact Clock.usable_set set anchor
      have isStart : (recovered.station r.station).modelStart a r.kFirst = start := by rw [isX]; rfl
      have isStop : (recovered.station r.station).modelStop a r = stop := by
        rw [Station.modelStop, isStart, isX]
        exact (Int.add_assoc _ _ _).symm
      have within : TimingFits (counterDiff r.kFirst a.k0) ((recovered.station r.station).modelStart a r.kFirst)
          ((recovered.station r.station).modelStop a r) ↔ fits := by
        rw [isStart, isStop]
        exact Iff.rfl
      refine ⟨fun no => drops (State.correct_fill_beyond unused' usable (mt within.mp no)), fun yes noGrid => drops
        (State.correct_fill_noGrid unused' usable (within.mpr yes) (by rw [timebase']; exact noGrid)), ?_⟩
      intro grid yes isGrid quality timing
      have isTiming : (recovered.station r.station).fillTiming a r = timing := by
        rw [Station.fillTiming, isStart, isX, ClockState.quality_eq]
        rfl
      have placed := State.correct_fill_placed unused' usable (within.mpr yes) (by rw [timebase']; exact isGrid)
      rw [isTiming, isX] at placed
      exact ⟨_, low, unused, lowest, congrArg (fun w : State => w.evalCompletion.endEvent) placed⟩
  · intro far ahead aged declared taken released
    have known {t : State} (h : HeadTaken dt l rest i s t) : taken t :=
      ⟨h.config, h.clock, h.mark, h.others, h.link, h.links, h.timebase, h.reservations⟩
    have gone {t : State} {gaps : List Gap} {n : Nat} (h : Released i r.seq gaps n s t) : released t gaps :=
      ⟨h.q, h.hold, h.holdDue, h.gaps, h.inSequence⟩
    refine ⟨fun hold => ?_, ?_⟩
    · obtain ⟨t, run, isTaken, isReleased⟩ := takes.far_alone isQ far ahead hold
      exact ⟨t, run, known isTaken, gone isReleased, isReleased.declared⟩
    · intro h hold first last held once
      have takesFar : TakesFar dt l r rest q h s := ⟨takes, isQ, far, ahead, hold, held⟩
      rcases Nat.eq_zero_or_pos (stepsAfter (h.seq + 1) r.seq) with at_ | after
      · have follows := stepsAfter_eq_zero.mp at_
        obtain ⟨t, run, isTaken, isReleased⟩ := takesFar.next follows
        exact ⟨t, run, known isTaken, fun _ => ⟨gone isReleased, isReleased.declared⟩, fun after => by omega,
          fun far => by omega⟩
      · have other : r.seq ≠ h.seq + 1 := fun same => by rw [stepsAfter_eq_zero.mpr same] at after; omega
        rcases Nat.lt_or_ge 8 (stepsAfter (h.seq + 1) r.seq) with past | near
        · have bound : stepsAfter (h.seq + 1) r.seq ≤ 32767 := by
            simp only [stepsAfter] at first last far ahead past ⊢
            bv_omega
          obtain ⟨t, run, isTaken, isReleased⟩ := takesFar.second past bound
          exact ⟨t, run, known isTaken, fun follows => absurd follows other, fun _ near => by omega,
            fun _ => ⟨gone isReleased, isReleased.declared⟩⟩
        · obtain ⟨t, run, isTaken, isQ1, hold1, due1, gaps1, held1, declared1⟩ := takesFar.early after near
          exact ⟨t, run, known isTaken, fun follows => absurd follows other,
            fun _ _ => ⟨isQ1, ⟨_, low, unused, hold1⟩, due1, gaps1, held1, declared1⟩, fun far => by omega⟩

end Sys2Proof.Machine
end

section
/-! PROOF. The plan of a placement (R149 to R151, R174): what it plans where the table has room, and over a full
table of lower numbers. -/

namespace Sys2Proof.Machine

/-! ## The tests on one epoch (R149) -/

section Tests

variable (s : State) (g : Grid) (n : Nat)

/-- Whether epoch n is in the table. -/
def State.present : Bool := s.assembler.table.any fun e => decide (e.number = n)

/-- Whether epoch n, if it is absent, is too late (R149). -/
def State.tooLate : Bool :=
  (s.assembler.freedMark.any fun m => decide (n ≤ m)) || (s.assembler.table.head?.any fun e => decide (n < e.number)) ||
    decide (s.timebase.hubState ≠ .unset ∧ (g.o + n * g.e + g.e + g.l : Int) * 1000000000 ≤ s.timebase.hubTime)

/-- Whether a part of a record is placed in epoch n where the table has room (R149). -/
def State.takes : Bool := s.present n || !s.tooLate g n

/-- Whether epoch n is created for a part of a record where the table has room (R149). -/
def State.opens : Bool := !s.present n && !s.tooLate g n

/-- The plan before the first part of a record is judged. -/
def State.planStart : Plan :=
  { table := s.assembler.table.map Epoch.number, mark := s.assembler.freedMark, entries := [], creations := [],
    evictions := [], tooLate := 0 }

end Tests

variable {s : State} {g : Grid} {n : Nat}

theorem State.present_iff : s.present n = true ↔ n ∈ s.numbers := by
  simp [State.present, State.numbers]

/-- Whether a number lies below every number of a list that holds some. -/
def belowAll (n : Nat) (l : List Nat) : Prop := l ≠ [] ∧ ∀ m ∈ l, n < m

theorem belowAll_cons {l : List Nat} {m : Nat} (rising : (m :: l).Pairwise (· < ·)) : belowAll n (m :: l) ↔ n < m := by
  refine ⟨fun below => below.2 m List.mem_cons_self, fun below => ⟨nofun, fun k mem => ?_⟩⟩
  rcases List.mem_cons.mp mem with rfl | mem
  · exact below
  · exact below.trans ((List.pairwise_cons.mp rising).1 k mem)

/-- The three tests of R149 on the numbers of a plan. -/
theorem Plan.isTooLate_iff {p : Plan} (rising : p.table.Pairwise (· < ·)) (stamp : Stamp) :
    p.isTooLate g stamp n = true ↔
      (∃ m, p.mark = some m ∧ n ≤ m) ∨ belowAll n p.table ∨ (stamp.hub ≠ .unset ∧ g.deadline n ≤ stamp.time) := by
  have mark : (match p.mark with | some m => decide (n ≤ m) | none => false) = true ↔ ∃ m, p.mark = some m ∧ n ≤ m := by
    cases p.mark <;> simp
  have table : (match p.table with | m :: _ => decide (n < m) | [] => false) = true ↔ belowAll n p.table := by
    cases isTable : p.table with
    | nil => simp [belowAll]
    | cons m l =>
      rw [isTable] at rising
      rw [belowAll_cons rising]
      exact decide_eq_true_iff
  unfold Plan.isTooLate
  rw [Bool.or_eq_true, Bool.or_eq_true, Bool.and_eq_true, decide_eq_true_iff, decide_eq_true_iff, or_assoc]
  exact or_congr mark (or_congr table Iff.rfl)

theorem State.tooLate_iff (sound : s.assembler.sound) : s.tooLate g n = true ↔
    (∃ m, s.assembler.freedMark = some m ∧ n ≤ m) ∨ belowAll n s.numbers ∨
      (s.timebase.hubState ≠ .unset ∧ g.deadline n ≤ s.timebase.hubTime) := by
  have mark : (s.assembler.freedMark.any fun m => decide (n ≤ m)) = true ↔
      ∃ m, s.assembler.freedMark = some m ∧ n ≤ m := by
    cases s.assembler.freedMark <;> simp
  have table : (s.assembler.table.head?.any fun e => decide (n < e.number)) = true ↔ belowAll n s.numbers := by
    have rising := ((Assembler.sound_iff s).mp sound).2
    unfold State.numbers at rising ⊢
    cases isTable : s.assembler.table with
    | nil => simp [belowAll]
    | cons e l =>
      rw [isTable, List.map_cons] at rising
      rw [List.map_cons, belowAll_cons rising]
      exact decide_eq_true_iff
  unfold State.tooLate
  rw [Bool.or_eq_true, Bool.or_eq_true, mark, table, decide_eq_true_iff, ← Grid.deadline_eq, or_assoc]

/-! ## A table with room (R149) -/

/-- What a plan has come to over the parts judged, in a table with room. -/
structure Plan.Roomy (s : State) (g : Grid) (done : List Nat) (p : Plan) : Prop where
  mark : p.mark = s.assembler.freedMark
  evictions : p.evictions = []
  creations : p.creations = done.filter (s.opens g)
  entries : p.entries = done.filter (s.takes g)
  tooLate : p.tooLate = done.countP fun n => !s.takes g n

namespace Plan.Roomy

variable {p : Plan} {done : List Nat}

theorem mem_table (h : p.Roomy s g done) (fits : p.Fits s.numbers) {m : Nat} :
    m ∈ p.table ↔ m ∈ s.numbers ∨ (m ∈ done ∧ s.opens g m = true) := by
  rw [fits.mem_table, h.evictions, h.creations, List.mem_filter]
  simp

theorem table_length (h : p.Roomy s g done) (fits : p.Fits s.numbers) (sound : s.assembler.sound) :
    p.table.length = s.assembler.table.length + (done.filter (s.opens g)).length := by
  obtain ⟨_, rising⟩ := (Assembler.sound_iff s).mp sound
  have distinct : (s.numbers ++ p.creations).Nodup := by
    refine List.nodup_append.mpr ⟨rising.imp fun h => h.ne, fits.distinct, fun m old k new same => ?_⟩
    have evicted := fits.created k new (same ▸ old)
    rw [h.evictions] at evicted
    cases evicted
  have same : p.table.Perm (s.numbers ++ p.creations) :=
    (List.perm_ext_iff_of_nodup (fits.rising.imp fun h => h.ne) distinct).mpr fun m => by
      rw [fits.mem_table, h.evictions, List.mem_append]
      simp
  rw [same.length_eq, List.length_append, h.creations, State.numbers, List.length_map]

/-- An absent epoch above those judged is too late for the plan when it is for the table (R149). -/
theorem isTooLate (h : p.Roomy s g done) (fits : p.Fits s.numbers) (sound : s.assembler.sound)
    (below : ∀ m ∈ done, m < n) : p.isTooLate g s.stamp n = s.tooLate g n := by
  rw [Bool.eq_iff_iff, Plan.isTooLate_iff fits.rising, State.tooLate_iff sound, h.mark]
  refine or_congr Iff.rfl (or_congr ⟨fun ⟨filled, all⟩ => ?_, fun ⟨filled, all⟩ => ?_⟩ Iff.rfl)
  · have noneNew (m : Nat) (mem : m ∈ done) (opens : s.opens g m = true) : False := by
      have := all m ((h.mem_table fits).mpr (.inr ⟨mem, opens⟩))
      have := below m mem
      omega
    refine ⟨fun empty => filled (List.eq_nil_iff_forall_not_mem.mpr fun m mem => ?_), fun m mem =>
      all m ((h.mem_table fits).mpr (.inl mem))⟩
    rcases (h.mem_table fits).mp mem with old | ⟨new, opens⟩
    · rw [empty] at old; cases old
    · exact noneNew m new opens
  · obtain ⟨k, rest, isNumbers⟩ := List.exists_cons_of_ne_nil filled
    have old : k ∈ s.numbers := by rw [isNumbers]; exact List.mem_cons_self
    refine ⟨List.ne_nil_of_mem ((h.mem_table fits).mpr (.inl old)), fun m mem => ?_⟩
    rcases (h.mem_table fits).mp mem with old | ⟨new, opens⟩
    · exact all m old
    · have late : s.tooLate g m = true := (State.tooLate_iff sound).mpr
        (.inr (.inl ⟨filled, fun k mem => (below m new).trans (all k mem)⟩))
      rw [State.opens, late, Bool.not_true, Bool.and_false] at opens
      cases opens

/-- The judgement of the next part (R149). -/
theorem judge (h : p.Roomy s g done) (fits : p.Fits s.numbers) (sound : s.assembler.sound) (below : ∀ m ∈ done, m < n)
    (room : s.assembler.table.length + ((done ++ [n]).filter (s.opens g)).length ≤ 16) :
    (p.judge g s.stamp n).Roomy s g (done ++ [n]) := by
  obtain ⟨mark, evictions, creations, entries, tooLate⟩ := h
  have roomy : p.Roomy s g done := ⟨mark, evictions, creations, entries, tooLate⟩
  have isPresent : p.table.contains n = s.present n := by
    rw [Bool.eq_iff_iff, List.contains_iff_mem, roomy.mem_table fits, State.present_iff]
    refine or_iff_left fun new => ?_
    exact absurd (below n new.1) (lt_irrefl n)
  unfold Plan.judge
  rw [isPresent, roomy.isTooLate fits sound below]
  cases present : s.present n with
  | true =>
    refine ⟨mark, evictions, ?_, ?_, ?_⟩ <;>
      simp [Plan.enter, creations, entries, tooLate, State.opens, State.takes, present]
  | false =>
    cases late : s.tooLate g n with
    | true =>
      refine ⟨mark, evictions, ?_, ?_, ?_⟩ <;>
        simp [Plan.refuse, creations, entries, tooLate, State.opens, State.takes, present, late]
    | false =>
      have opens : s.opens g n = true := by simp [State.opens, present, late]
      have short : p.table.length < tableSize := by
        rw [roomy.table_length fits sound]
        rw [List.filter_append, List.length_append, List.filter_cons_of_pos opens] at room
        exact Nat.lt_of_succ_le room
      rw [if_pos short]
      refine ⟨mark, evictions, ?_, ?_, ?_⟩ <;>
        simp [creations, entries, tooLate, State.opens, State.takes, present, late]

end Plan.Roomy

/-- The plan of a run where the table has room for every epoch that it creates (R149). -/
theorem State.plan_roomy (sound : s.assembler.sound) (run : List Nat) (rising : run.Pairwise (· < ·))
    (room : s.assembler.table.length + (run.filter (s.opens g)).length ≤ 16) : (s.plan g run).Roomy s g run := by
  induction run using List.reverseRecOn with
  | nil => exact ⟨rfl, rfl, rfl, rfl, rfl⟩
  | append_singleton done n ih =>
    obtain ⟨before, _, cross⟩ := List.pairwise_append.mp rising
    have less : (done.filter (s.opens g)).length ≤ ((done ++ [n]).filter (s.opens g)).length :=
      ((List.sublist_append_left done [n]).filter _).length_le
    have roomy := ih before (by omega)
    have fits := s.plan_fits sound g done
    have step : s.plan g (done ++ [n]) = (s.plan g done).judge g s.stamp n := by
      rw [State.plan, List.foldl_append]
      rfl
    rw [step]
    exact roomy.judge fits sound (fun m mem => cross m mem n List.mem_cons_self) room

end Sys2Proof.Machine
end

section
/-! PROOF. A plan carried out (R152 to R155, R160): what the epochs, the slots and the counters become. -/

namespace Sys2Proof.Machine

/-! ## Saturating counts -/

theorem bumpBy_bumpBy (n k m : Nat) : bumpBy (bumpBy n k) m = bumpBy n (k + m) := by
  unfold bumpBy
  split
  · next zero => subst zero; rfl
  · next some => split <;> split <;> omega

theorem State.raiseIf_raiseIf (s : State) (b c : Bool) (k : NoticeKind) :
    (s.raiseIf b k).raiseIf c k = s.raiseIf (b || c) k := by
  cases b with
  | false => rfl
  | true =>
    cases c with
    | false => rfl
    | true => exact State.raise_raise s k

theorem State.raiseIf_modStore (s : State) (b : Bool) (k : NoticeKind) (f : Store → Store) :
    (s.raiseIf b k).modStore f = (s.modStore f).raiseIf b k := by
  cases b <;> rfl

theorem State.setStation_modStore (s : State) (i : StationId) (x : Station) (f : Store → Store) :
    (s.setStation i x).modStore f = (s.modStore f).setStation i x := rfl

/-! ## The table and the pool -/

/-- The state with another epoch table, and another number of free pool entries. -/
def State.withTable (s : State) (table : List Epoch) (free : Nat) : State :=
  { s with assembler := { s.assembler with table := table }, store := { s.store with poolFree := free } }

theorem State.raiseIf_withTable (s : State) (b : Bool) (k : NoticeKind) (table : List Epoch) (free : Nat) :
    (s.raiseIf b k).withTable table free = (s.withTable table free).raiseIf b k := by
  cases b <;> rfl

theorem State.setStation_withTable (s : State) (i : StationId) (x : Station) (table : List Epoch) (free : Nat) :
    (s.setStation i x).withTable table free = (s.withTable table free).setStation i x := rfl

theorem State.withTable_withTable (s : State) (table table' : List Epoch) (free free' : Nat) :
    (s.withTable table free).withTable table' free' = s.withTable table' free' := rfl

theorem State.withTable_station (s : State) (table : List Epoch) (free : Nat) (i : StationId) :
    (s.withTable table free).station i = s.station i := rfl

/-- A station with k late contributions more (R160). -/
def Station.countsLate (k : Nat) (x : Station) : Station :=
  { x with counters := { x.counters with lateContributions := bumpBy x.counters.lateContributions k } }

theorem Station.countsLate_zero (x : Station) : x.countsLate 0 = x := by
  simp only [Station.countsLate, bumpBy_zero]

theorem Station.countsLate_countsLate (k m : Nat) (x : Station) :
    (x.countsLate k).countsLate m = x.countsLate (k + m) := by
  simp only [Station.countsLate, bumpBy_bumpBy]

/-! ## Entries (R153, R160) -/

section Entries

variable (g : Grid) (period slot : Nat) (r : Record) (t : Timing)

/-- An epoch with a record's contribution, which is late in a CLOSED epoch (R153, R160). -/
def Epoch.joins (e : Epoch) : Epoch :=
  { e with
    amended := if e.state = .forming then e.amended else true
    late := if e.state = .forming then e.late else min (e.late + 1) 65535
    contributions := insertContribution (g.epochStart e.number)
      (makeContribution g e.number period slot r t (decide (e.state ≠ .forming))) none e.contributions }

/-- An epoch with a record's contribution to epoch n. -/
def Epoch.adds (n : Nat) (late : Bool) (e : Epoch) : Epoch :=
  { e with
    contributions :=
      insertContribution (g.epochStart n) (makeContribution g n period slot r t late) none e.contributions }

/-- An epoch that has taken a contribution late (R160). -/
def Epoch.amends (e : Epoch) : Epoch := { e with amended := true, late := min (e.late + 1) 65535 }

/-- A table whose epochs of the numbers given have taken a record's contribution. -/
def joinTable (ns : List Nat) (table : List Epoch) : List Epoch :=
  table.map fun e => if e.number ∈ ns then e.joins g period slot r t else e

/-- The state in which the epochs of the numbers given have taken a record's contribution, k of them late. -/
def State.joined (s : State) (ns : List Nat) (k : Nat) : State :=
  ((s.withTable (joinTable g period slot r t ns s.assembler.table) (s.store.poolFree - ns.length)).setStation r.station
    ((s.station r.station).countsLate k)).raiseIf (decide (0 < k)) .epoch

/-- Whether epoch n is present and CLOSED. -/
def State.amends (s : State) (n : Nat) : Bool :=
  s.assembler.table.any fun e => decide (e.number = n) && decide (e.state ≠ .forming)

variable {g period slot r t}

theorem Epoch.joins_number (e : Epoch) : (e.joins g period slot r t).number = e.number := rfl

theorem joinTable_nil (table : List Epoch) : joinTable g period slot r t [] table = table := by
  simp [joinTable]

theorem joinTable_joinTable {n : Nat} {ns : List Nat} (out : n ∉ ns) (table : List Epoch) :
    joinTable g period slot r t ns (joinTable g period slot r t [n] table) =
      joinTable g period slot r t (n :: ns) table := by
  unfold joinTable
  rw [List.map_map]
  refine List.map_congr_left fun e _ => ?_
  by_cases isN : e.number = n
  · have first : e.number ∈ [n] := List.mem_singleton.mpr isN
    have both : e.number ∈ n :: ns := isN ▸ List.mem_cons_self
    have past : (e.joins g period slot r t).number ∉ ns := isN ▸ out
    simp only [Function.comp_apply, if_pos first, if_pos both, if_neg past]
  · have first : e.number ∉ [n] := fun mem => isN (List.mem_singleton.mp mem)
    simp only [Function.comp_apply, if_neg first]
    exact if_congr (by rw [List.mem_cons, or_iff_right isN]) rfl rfl

theorem joinTable_numbers (ns : List Nat) (table : List Epoch) :
    (joinTable g period slot r t ns table).map Epoch.number = table.map Epoch.number := by
  unfold joinTable
  rw [List.map_map]
  refine List.map_congr_left fun e _ => ?_
  simp only [Function.comp_apply]
  split <;> rfl

theorem joinTable_any (ns : List Nat) (table : List Epoch) (n : Nat) :
    ((joinTable g period slot r t ns table).any fun e =>
    decide (e.number = n) && decide (e.state ≠ .forming)) =
      table.any fun e => decide (e.number = n) && decide (e.state ≠ .forming) := by
  unfold joinTable
  rw [List.any_map]
  refine congrArg (List.any table) (funext fun e => ?_)
  simp only [Function.comp_apply]
  split <;> rfl

theorem State.joined_assembler (s : State) (ns : List Nat) (k : Nat) : (s.joined g period slot r t ns k).assembler =
    { s.assembler with table := joinTable g period slot r t ns s.assembler.table } := by
  rw [State.joined, State.raiseIf_assembler]
  rfl

theorem State.joined_store (s : State) (ns : List Nat) (k : Nat) : (s.joined g period slot r t ns k).store =
    { s.store with poolFree := s.store.poolFree - ns.length } := by
  rw [State.joined, State.raiseIf_store]
  rfl

theorem State.joined_nil (s : State) : s.joined g period slot r t [] 0 = s := by
  rw [State.joined, joinTable_nil, Station.countsLate_zero]
  exact State.setStation_station _ _

theorem State.joined_joined {n : Nat} {ns : List Nat} (out : n ∉ ns) (s : State) (k m : Nat) :
    (s.joined g period slot r t [n] k).joined g period slot r t ns m =
      s.joined g period slot r t (n :: ns) (k + m) := by
  have told : (decide (0 < k) || decide (0 < m)) = decide (0 < k + m) := by
    rw [Bool.eq_iff_iff, Bool.or_eq_true, decide_eq_true_iff, decide_eq_true_iff, decide_eq_true_iff]
    omega
  have pool : s.store.poolFree - [n].length - ns.length = s.store.poolFree - (n :: ns).length := by
    rw [List.length_singleton, List.length_cons]
    omega
  rw [State.joined, State.joined_assembler, State.joined_store, joinTable_joinTable out, pool]
  simp only [State.joined, State.raiseIf_withTable, State.setStation_withTable, State.withTable_withTable,
    State.raiseIf_station, State.setStation_self, State.raiseIf_setStation, State.setStation_setStation,
    Station.countsLate_countsLate, State.raiseIf_raiseIf, told]

theorem State.amends_of_mem {s : State} (sound : s.assembler.sound) {e : Epoch} (mem : e ∈ s.assembler.table) :
    s.amends e.number = e.isClosed := by
  rw [Bool.eq_iff_iff, Epoch.isClosed_iff, State.amends, List.any_eq_true]
  refine ⟨fun ⟨x, isIn, isX⟩ => ?_, fun closed => ⟨e, mem, by simp [closed]⟩⟩
  obtain ⟨number, state⟩ := Bool.and_eq_true_iff.mp isX
  rw [← epoch_unique sound.2 isIn mem (of_decide_eq_true number)]
  exact of_decide_eq_true state

/-- The entry of one contribution (R153, R160, R172). -/
theorem State.enter_eq {s : State} (sound : s.assembler.sound) {n : Nat} (present : n ∈ s.numbers) :
    s.enter g period slot r t n = s.joined g period slot r t [n] ([n].countP s.amends) := by
  obtain ⟨e, mem, rfl⟩ := List.mem_map.mp present
  have only (f h : Epoch → Epoch) (same : f e = h e) : (s.assembler.table.map fun x =>
      if x.number = e.number then f x else x) = s.assembler.table.map fun x =>
        if x.number ∈ [e.number] then h x else x := by
    refine List.map_congr_left fun x isIn => ?_
    by_cases isE : x.number = e.number
    · rw [if_pos isE, if_pos (List.mem_singleton.mpr isE), epoch_unique sound.2 isIn mem isE, same]
    · rw [if_neg isE, if_neg fun both => isE (List.mem_singleton.mp both)]
  rw [State.enter_of_some (State.epoch?_of_mem sound mem), List.countP_singleton, State.amends_of_mem sound mem]
  cases closed : e.isClosed with
  | false =>
    have forming := (Epoch.isClosed_eq_false_iff e).mp closed
    have table := only (Epoch.adds g period slot r t e.number false) (Epoch.joins g period slot r t) (by
      simp [Epoch.adds, Epoch.joins, forming])
    have free : s.store.poolFree - [e.number].length = s.store.poolFree - 1 := rfl
    simp only [Bool.false_eq_true, if_false, State.joined, Station.countsLate_zero]
    rw [joinTable, ← table, ← closed, free]
    exact (State.setStation_station _ _).symm
  | true =>
    have shut := (Epoch.isClosed_iff e).mp closed
    have table := only (fun x => (Epoch.adds g period slot r t e.number true x).amends)
        (Epoch.joins g period slot r t) (by
      simp [Epoch.adds, Epoch.amends, Epoch.joins, shut])
    have twice : ((s.assembler.table.map fun x => if x.number = e.number then
        Epoch.adds g period slot r t e.number true x else x).map fun x => if x.number = e.number then x.amends else x) =
        s.assembler.table.map fun x => if x.number = e.number then
          (Epoch.adds g period slot r t e.number true x).amends else x := by
      rw [List.map_map]
      refine List.map_congr_left fun x _ => ?_
      by_cases isE : x.number = e.number
      · have same : (Epoch.adds g period slot r t e.number true x).number = e.number := isE
        simp only [Function.comp_apply, if_pos isE, if_pos same]
      · simp only [Function.comp_apply, if_neg isE]
    simp only [if_true, State.joined]
    rw [joinTable, ← table, ← twice]
    unfold State.withEntry
    rw [closed]
    rfl

/-- The entries of a record's contributions to epochs that are present (R153, R160, R172). -/
theorem State.enters_eq (ns : List Nat) : ∀ {s : State}, s.assembler.sound → ns.Nodup → (∀ n ∈ ns, n ∈ s.numbers) →
    ns.foldl (State.enter g period slot r t) s = s.joined g period slot r t ns (ns.countP s.amends) := by
  induction ns with
  | nil => exact fun _ _ _ => (State.joined_nil _).symm
  | cons n ns ih =>
    intro s sound distinct present
    obtain ⟨out, distinct⟩ := List.nodup_cons.mp distinct
    have first := State.enter_eq (g := g) (period := period) (slot := slot) (r := r) (t := t) sound
      (present n List.mem_cons_self)
    have numbers : (s.joined g period slot r t [n] ([n].countP s.amends)).numbers = s.numbers := by
      rw [State.numbers, State.joined_assembler]
      exact joinTable_numbers _ _
    have same : (s.joined g period slot r t [n] ([n].countP s.amends)).amends = s.amends := by
      refine funext fun m => ?_
      rw [State.amends, State.joined_assembler]
      exact joinTable_any _ _ _
    have sound' : (s.joined g period slot r t [n] ([n].countP s.amends)).assembler.sound := by
      rw [Assembler.sound_iff, numbers, ← Assembler.sound_iff]
      exact sound
    rw [List.foldl_cons, first, ih sound' distinct fun m mem => by
      rw [numbers]; exact present m (List.mem_cons_of_mem _ mem), State.joined_joined out, same]
    rw [← List.countP_append]
    rfl

end Entries

/-! ## Creations (R155) -/

/-- Epoch n as it is created, before it takes a contribution (R155). -/
def State.blank (s : State) (n : Nat) : Epoch :=
  { number := n, state := .forming, amended := false, late := 0, expected := s.expectedNow
    needed := { mp0 := s.mp0.subscribed, mp1 := s.mp1.subscribed }, released := { mp0 := false, mp1 := false }
    contributions := [] }

theorem State.creates_eq (ns : List Nat) : ∀ s : State, ns.foldl State.createEpoch s = s.modAssembler fun a =>
    { a with
      table := ns.foldl (fun l n => insertEpoch (s.blank n) l) a.table
      created := bumpBy a.created ns.length } := by
  induction ns with
  | nil => exact fun _ => rfl
  | cons n ns ih =>
    intro s
    have same : (s.createEpoch n).blank = s.blank := rfl
    rw [List.foldl_cons, ih, same, List.length_cons, State.createEpoch]
    unfold State.modAssembler
    simp only [bumpBy_bump, List.foldl_cons]
    rfl

theorem any_insertEpoch (f : Epoch → Bool) (e : Epoch) (l : List Epoch) :
    (insertEpoch e l).any f = (f e || l.any f) := by
  induction l with
  | nil => rfl
  | cons x xs ih =>
    rw [insertEpoch]
    split
    · rfl
    · rw [List.any_cons, ih, List.any_cons, Bool.or_left_comm]

/-- A created epoch is FORMING. -/
theorem State.creates_amends (ns : List Nat) (s : State) : (ns.foldl State.createEpoch s).amends = s.amends := by
  induction ns generalizing s with
  | nil => rfl
  | cons n ns ih =>
    rw [List.foldl_cons, ih]
    refine funext fun m => ?_
    exact (any_insertEpoch _ (s.blank n) s.assembler.table).trans (by simp [State.blank, State.amends])

section Carry

variable (g : Grid) (period slot : Nat) (r : Record) (t : Timing)

theorem map_insertEpoch {f : Epoch → Epoch} (number : ∀ e, (f e).number = e.number) (e : Epoch) (l : List Epoch) :
    (insertEpoch e l).map f = insertEpoch (f e) (l.map f) := by
  induction l with
  | nil => rfl
  | cons x xs ih =>
    rw [insertEpoch, List.map_cons, insertEpoch, number, number]
    split
    · rfl
    · rw [List.map_cons, ih]

/-- Epoch n as it is created for a record's part (R153, R155). -/
def State.fresh (s : State) (n : Nat) : Epoch :=
  { s.blank n with contributions := [makeContribution g n period slot r t false] }

variable {g period slot r t}

theorem State.blank_joins (s : State) (n : Nat) :
    (s.blank n).joins g period slot r t = s.fresh g period slot r t n := rfl

/-- Epochs that are created and then entered, and epochs that are created with their entry (R153, R155). -/
theorem joinTable_creates {s : State} {ns : List Nat} (os : List Nat) (entered : ∀ n ∈ os, n ∈ ns) :
    ∀ table : List Epoch,
    joinTable g period slot r t ns (os.foldl (fun l n => insertEpoch (s.blank n) l) table) =
      os.foldl (fun l n => insertEpoch (s.fresh g period slot r t n) l) (joinTable g period slot r t ns table) := by
  induction os with
  | nil => exact fun _ => rfl
  | cons o os ih =>
    intro table
    have number (e : Epoch) : (if e.number ∈ ns then e.joins g period slot r t else e).number = e.number := by
      split <;> rfl
    have first : joinTable g period slot r t ns (insertEpoch (s.blank o) table) =
        insertEpoch (s.fresh g period slot r t o) (joinTable g period slot r t ns table) := by
      have isIn : (s.blank o).number ∈ ns := entered o List.mem_cons_self
      rw [joinTable, map_insertEpoch number, if_pos isIn, State.blank_joins]
      rfl
    rw [List.foldl_cons, List.foldl_cons, ih (fun n mem => entered n (List.mem_cons_of_mem _ mem)), first]

variable (g period slot r t)

/-- The record store after a placement of the parts given (R152, R172). -/
def Store.takesParts (entries : List Nat) (y : Store) : Store :=
  { y with
    poolFree := y.poolFree - entries.length
    slots := if entries = [] then y.slots.filter fun z => decide (z.number ≠ slot)
      else y.slots.map fun z => if z.number = slot then { z with refs := entries.length } else z }

/-- A station whose record has been placed, with parts that are late and parts that are refused (R149, R160). -/
def Station.placed (tooLate late : Nat) (x : Station) : Station :=
  { x with
    counters := { x.counters with
      tooLate := bumpBy x.counters.tooLate tooLate
      lateContributions := bumpBy x.counters.lateContributions late } }

/-- The state in which a record's parts have been placed, with the epochs created for them (R152 to R155, R160). -/
def State.placed (s : State) (creations entries : List Nat) (tooLate : Nat) : State :=
  (({ s with
      assembler := { s.assembler with
        created := bumpBy s.assembler.created creations.length
        table := creations.foldl (fun l n => insertEpoch (s.fresh g period slot r t n) l)
          (joinTable g period slot r t entries s.assembler.table) }
      store := s.store.takesParts slot entries } : State).setStation r.station
        ((s.station r.station).placed tooLate (entries.countP s.amends))).raiseIf
          (decide (0 < entries.countP s.amends)) .epoch

variable {g period slot r t}

/-- A plan without evictions, carried out (R152, steps 2 to 4). -/
theorem State.carryOut_eq {s : State} {p : Plan} (evictions : p.evictions = []) (sound : (s.prepared p).assembler.sound)
    (distinct : p.entries.Nodup) (present : ∀ n ∈ p.entries, n ∈ (s.prepared p).numbers)
    (entered : ∀ n ∈ p.creations, n ∈ p.entries) :
    s.carryOut g period slot r t p = s.placed g period slot r t p.creations p.entries p.tooLate := by
  have isPrepared : s.prepared p = p.creations.foldl State.createEpoch s := by rw [State.prepared, evictions]; rfl
  have entries := State.enters_eq (g := g) (period := period) (slot := slot) (r := r) (t := t) p.entries sound distinct
    present
  have amends : (s.prepared p).amends = s.amends := by rw [isPrepared, State.creates_amends]
  rw [amends] at entries
  show (if p.entries = [] then ((p.entries.foldl (State.enter g period slot r t) (s.prepared p)).count r.station
      fun y => { y with tooLate := bumpBy y.tooLate p.tooLate }).freeSlot slot
    else ((p.entries.foldl (State.enter g period slot r t) (s.prepared p)).count r.station
      fun y => { y with tooLate := bumpBy y.tooLate p.tooLate }).modSlot slot fun x =>
        { x with refs := p.entries.length }) = _
  rw [entries, State.joined, isPrepared, State.creates_eq]
  have table : joinTable g period slot r t p.entries
      (p.creations.foldl (fun l n => insertEpoch (s.blank n) l) s.assembler.table) = _ :=
    joinTable_creates p.creations entered s.assembler.table
  split
  · next empty =>
    simp only [State.count_eq, State.freeSlot, State.raiseIf_station, State.setStation_self, State.raiseIf_setStation,
      State.setStation_setStation, State.raiseIf_modStore, State.setStation_modStore, State.modAssembler, table,
      State.placed, Store.takesParts, if_pos empty]
    rfl
  · next filled =>
    simp only [State.count_eq, State.modSlot, State.raiseIf_station, State.setStation_self, State.raiseIf_setStation,
      State.setStation_setStation, State.raiseIf_modStore, State.setStation_modStore, State.modAssembler, table,
      State.placed, Store.takesParts, if_neg filled]
    rfl

end Carry

end Sys2Proof.Machine
end

section
/-! PROOF. The placement of a record over a run of epochs (R146, R148, R151, R152, R174). -/

namespace Sys2Proof.Machine

/-! ## Records outside the part's epochs (R148) -/

theorem State.isFuture_iff (s : State) (last : Int) :
    s.isFuture last = true ↔ ∃ h, s.hubEpoch = some h ∧ h + 1 < last := by
  unfold State.isFuture
  cases s.hubEpoch <;> simp

section Run

variable {g : Grid} {period slot : Nat} {r : Record} {t : Timing} {s : State} {a b : Nat}

/-- A record that starts in epoch a and ends in epoch b, which is not beyond the epoch after the hub's (R146, R148). -/
structure InRun (g : Grid) (period : Nat) (r : Record) (t : Timing) (s : State) (a b : Nat) : Prop where
  first : g.epochAt t.start = a
  last : g.epochAt (t.start + duration period t.rho (r.n - 1)) = b
  order : a ≤ b
  near : ∀ h, s.hubEpoch = some h → (b : Int) ≤ h + 1

/-- The epochs of a record. -/
def epochsOf (a b : Nat) : List Nat := List.range' a (b + 1 - a)

theorem epochsOf_rising (a b : Nat) : (epochsOf a b).Pairwise (· < ·) := List.pairwise_lt_range'

theorem epochsOf_length (a b : Nat) : (epochsOf a b).length = b + 1 - a := List.length_range'

theorem epochsOf_self (n : Nat) : epochsOf n n = [n] := by
  rw [epochsOf, Nat.add_sub_cancel_left]
  rfl

/-- What is done with the plan that is settled on, or without one (R151, R152). -/
def State.carrySettled (g : Grid) (period slot : Nat) (r : Record) (t : Timing) : Option Plan × State → State
  | (some p, s) => s.carryOut g period slot r t p
  | (none, s) => s.dropExhausted slot r.station

theorem InRun.place (h : InRun g period r t s a b) : s.placeRecord g period slot r t =
    State.carrySettled g period slot r t (s.settlePlan g (epochsOf a b) (s.assembler.table.length + 1)) := by
  have ahead : ¬ g.epochAt t.start < 0 := by rw [h.first]; omega
  have near : ¬ s.isFuture (g.epochAt (t.start + duration period t.rho (r.n - 1))) = true := by
    rw [State.isFuture_iff, h.last]
    rintro ⟨e, isE, far⟩
    have := h.near e isE
    omega
  have run : List.range' (g.epochAt t.start).toNat (g.epochAt (t.start + duration period t.rho (r.n - 1)) -
      g.epochAt t.start + 1).toNat = epochsOf a b := by
    have order := h.order
    rw [h.first, h.last, epochsOf, Int.toNat_natCast]
    congr 1
    omega
  simp only [State.placeRecord, if_neg ahead, if_neg near, run]
  rfl

/-- A plan that the pool can supply is carried out (R151). -/
theorem InRun.supplied (h : InRun g period r t s a b) (supplied : s.poolShortage (s.plan g (epochsOf a b)) = false) :
    s.placeRecord g period slot r t = s.carryOut g period slot r t (s.plan g (epochsOf a b)) := by
  rw [h.place, State.settlePlan]
  simp only [supplied, Bool.false_eq_true, if_false, State.carrySettled]

/-- With a shortage and no CLOSED epoch the record is dropped (R151). -/
theorem InRun.dropped (h : InRun g period r t s a b) (shortage : s.poolShortage (s.plan g (epochsOf a b)) = true)
    (forming : ∀ e ∈ s.assembler.table, e.state = .forming) :
    s.placeRecord g period slot r t = s.dropExhausted slot r.station := by
  rw [h.place, State.settlePlan]
  simp only [shortage, if_true, State.oldestClosed_eq_none.mpr forming, State.carrySettled]

/-- A table without one of its epochs. -/
theorem State.forceFree_length (sound : s.assembler.sound) {d : Epoch} (mem : d ∈ s.assembler.table) :
    (s.forceFree d.number).assembler.table.length + 1 = s.assembler.table.length := by
  obtain ⟨before, after, table⟩ := List.append_of_mem mem
  have sorted := sound.2
  rw [State.forceFree_table]
  rw [table] at sorted ⊢
  rw [filter_number_ne sorted, List.length_append, List.length_append, List.length_cons]
  omega

theorem InRun.forced (h : InRun g period r t s a b) (sound : s.assembler.sound)
    (shortage : s.poolShortage (s.plan g (epochsOf a b)) = true) {d : Epoch} {before after : List Epoch}
    (table : s.assembler.table = before ++ d :: after) (forming : ∀ e ∈ before, e.state = .forming)
    (closed : d.state ≠ .forming)
    (enough : (s.forceFree d.number).poolShortage (s.plan g (epochsOf a b)) = false) :
    s.placeRecord g period slot r t = (s.forceFree d.number).placeRecord g period slot r t := by
  have mem : d ∈ s.assembler.table := by rw [table]; exact List.mem_append_right _ List.mem_cons_self
  have timebase : (s.forceFree d.number).timebase = s.timebase := (State.forceFree_frame s d.number).timebase
  have near : ∀ e, (s.forceFree d.number).hubEpoch = some e → (b : Int) ≤ e + 1 := fun e isE =>
    h.near e (by simpa only [State.hubEpoch, timebase] using isE)
  have after_ : InRun g period r t (s.forceFree d.number) a b := ⟨h.first, h.last, h.order, near⟩
  have oldest : s.oldestClosed = some d.number := by
    have first : s.assembler.table.find? Epoch.isClosed = some d := by
      rw [table, List.find?_append, List.find?_eq_none.mpr fun e isIn => by
        rw [(Epoch.isClosed_eq_false_iff e).mpr (forming e isIn)]; exact nofun]
      exact List.find?_cons_of_pos ((Epoch.isClosed_iff d).mpr closed)
    rw [State.oldestClosed, first]
    rfl
  have length := State.forceFree_length sound mem
  have policy (n : Nat) : (s.forceForPool (s.plan g (epochsOf a b)) (n + 1)) = s.forceFree d.number := by
    rw [State.forceForPool]
    simp only [shortage, if_true, oldest]
    cases n with
    | zero => rfl
    | succ n =>
      rw [State.forceForPool]
      simp only [enough, Bool.false_eq_true, if_false]
  rw [h.place, after_.place, State.settlePlan]
  simp only [shortage, if_true, oldest]
  rw [← length, policy]

end Run

/-! ## A table with room (R149, R151, R152) -/

section Roomy

variable {g : Grid} {period slot : Nat} {r : Record} {t : Timing} {s : State} {a b : Nat}

theorem State.available_kept (s : State) {p : Plan} (evictions : p.evictions = []) :
    s.available p = s.store.poolFree := by
  unfold State.available
  rw [evictions]
  simp

theorem Plan.Roomy.poolShortage_iff {p : Plan} {run : List Nat} (h : p.Roomy s g run) (u : State) :
    u.poolShortage p = true ↔ u.store.poolFree < (run.filter (s.takes g)).length := by
  rw [State.poolShortage, u.available_kept h.evictions, h.entries, decide_eq_true_iff]

theorem InRun.roomy (h : InRun g period r t s a b) (sound : s.assembler.sound)
    (room : s.assembler.table.length + ((epochsOf a b).filter (s.opens g)).length ≤ 16)
    (supplied : ((epochsOf a b).filter (s.takes g)).length ≤ s.store.poolFree) : s.placeRecord g period slot r t =
      s.placed g period slot r t ((epochsOf a b).filter (s.opens g)) ((epochsOf a b).filter (s.takes g))
        ((epochsOf a b).countP fun n => !s.takes g n) := by
  have roomy := State.plan_roomy (g := g) sound (epochsOf a b) (epochsOf_rising a b) room
  have fits := State.plan_fits sound g (epochsOf a b)
  have numbers := State.prepared_numbers sound fits
  have sound' : (s.prepared (s.plan g (epochsOf a b))).assembler.sound := by
    rw [Assembler.sound_iff, numbers]
    exact ⟨fits.size, fits.rising⟩
  rw [h.supplied (Bool.eq_false_iff.mpr fun short => absurd ((roomy.poolShortage_iff s).mp short)
    (Nat.not_lt.mpr supplied)),
    State.carryOut_eq roomy.evictions sound' ?_ (fun n mem => by rw [numbers]; exact fits.present n mem) fits.entered,
    roomy.creations, roomy.entries, roomy.tooLate]
  rw [roomy.entries]
  exact ((epochsOf_rising a b).imp fun h => h.ne).filter _

theorem InRun.roomy_dropped (h : InRun g period r t s a b) (sound : s.assembler.sound)
    (room : s.assembler.table.length + ((epochsOf a b).filter (s.opens g)).length ≤ 16)
    (shortage : s.store.poolFree < ((epochsOf a b).filter (s.takes g)).length)
    (forming : ∀ e ∈ s.assembler.table, e.state = .forming) :
    s.placeRecord g period slot r t = s.dropExhausted slot r.station :=
  h.dropped (((State.plan_roomy (g := g) sound (epochsOf a b)
    (epochsOf_rising a b) room).poolShortage_iff s).mpr shortage)
    forming

theorem InRun.roomy_forced (h : InRun g period r t s a b) (sound : s.assembler.sound)
    (room : s.assembler.table.length + ((epochsOf a b).filter (s.opens g)).length ≤ 16)
    (shortage : s.store.poolFree < ((epochsOf a b).filter (s.takes g)).length) {d : Epoch} {before after : List Epoch}
    (table : s.assembler.table = before ++ d :: after) (forming : ∀ e ∈ before, e.state = .forming)
    (closed : d.state ≠ .forming)
    (enough : ((epochsOf a b).filter (s.takes g)).length ≤ s.store.poolFree + d.contributions.length) :
    s.placeRecord g period slot r t = (s.forceFree d.number).placeRecord g period slot r t := by
  have roomy := State.plan_roomy (g := g) sound (epochsOf a b) (epochsOf_rising a b) room
  have mem : d ∈ s.assembler.table := by rw [table]; exact List.mem_append_right _ List.mem_cons_self
  have free : (s.forceFree d.number).store.poolFree = s.store.poolFree + d.contributions.length := by
    rw [State.forceFree_of_some (State.epoch?_of_mem sound mem)]
    rfl
  refine h.forced sound ((roomy.poolShortage_iff s).mpr shortage) table forming closed
    (Bool.eq_false_iff.mpr fun short => ?_)
  have short := (roomy.poolShortage_iff _).mp short
  omega

end Roomy

end Sys2Proof.Machine
end

section
/-! PROOF. The placement of a record above a full table (R150, R151, R175). -/

namespace Sys2Proof.Machine

/-! ## The plan over a full table of lower numbers (R150) -/

theorem raiseMark_below {a n m : Nat} {mark : Option Nat} (below : ∀ k, mark = some k → k < a) (less : n < a)
    (isM : raiseMark mark n = some m) : m < a := by
  cases mark with
  | none =>
    obtain rfl := Option.some.inj isM
    exact less
  | some k =>
    obtain rfl := Option.some.inj isM
    exact max_lt (below k rfl) less

theorem raiseMarks_below {a : Nat} (ns : List Nat) : ∀ {mark : Option Nat}, (∀ k, mark = some k → k < a) →
    (∀ n ∈ ns, n < a) → ∀ m, ns.foldl raiseMark mark = some m → m < a := by
  induction ns with
  | nil => exact fun below _ m isM => below m isM
  | cons n ns ih =>
    intro mark below less m isM
    exact ih (fun k isK => raiseMark_below below (less n List.mem_cons_self) isK)
      (fun k mem => less k (List.mem_cons_of_mem _ mem)) m isM

theorem Grid.deadline_mono (g : Grid) {a n : Nat} (le : a ≤ n) : g.deadline a ≤ g.deadline n := by
  rw [Grid.deadline_eq, Grid.deadline_eq]
  have product : (a : Int) * g.e ≤ n * g.e := Int.mul_le_mul_of_nonneg_right (by omega) (by omega)
  omega

section Rolls

variable {s : State} {g : Grid} {a : Nat}

/-- What a plan has come to over the first k parts of a record above a full table. -/
structure Plan.Rolls (s : State) (a k : Nat) (p : Plan) : Prop where
  table : p.table = s.numbers.drop k ++ List.range' a k
  mark : p.mark = (s.numbers.take k).foldl raiseMark s.assembler.freedMark
  creations : p.creations = List.range' a k
  entries : p.entries = List.range' a k
  evictions : p.evictions = s.numbers.take k
  tooLate : p.tooLate = 0

/-- A full table, all of whose numbers lie below an epoch that is not too late (R149, R150). -/
structure FullBelow (s : State) (g : Grid) (a : Nat) : Prop where
  sound : s.assembler.sound
  full : s.assembler.table.length = 16
  below : ∀ e ∈ s.assembler.table, e.number < a
  inTime : s.tooLate g a = false

theorem FullBelow.number_lt (h : FullBelow s g a) {m : Nat} (mem : m ∈ s.numbers) : m < a := by
  obtain ⟨e, isIn, rfl⟩ := List.mem_map.mp mem
  exact h.below e isIn

theorem FullBelow.numbers_length (h : FullBelow s g a) : s.numbers.length = 16 := by
  rw [State.numbers, List.length_map, h.full]

theorem FullBelow.mark_lt (h : FullBelow s g a) (k : Nat) (isK : s.assembler.freedMark = some k) : k < a :=
  Nat.lt_of_not_le fun late => absurd ((State.tooLate_iff h.sound).mpr (.inl ⟨k, isK, late⟩))
    (by rw [h.inTime]; exact nofun)

theorem FullBelow.judge (h : FullBelow s g a) {k : Nat} {p : Plan} (rolls : p.Rolls s a k) (fits : p.Fits s.numbers)
    (more : k < 16) : (p.judge g s.stamp (a + k)).Rolls s a (k + 1) := by
  have inRange : k < s.numbers.length := by rw [h.numbers_length]; exact more
  have oldest : s.numbers.drop k = s.numbers[k] :: s.numbers.drop (k + 1) := List.drop_eq_getElem_cons inRange
  have old : s.numbers[k] < a := h.number_lt (List.getElem_mem inRange)
  have above (m : Nat) (mem : m ∈ p.table) : m < a + k := by
    rw [rolls.table, List.mem_append] at mem
    rcases mem with left | new
    · exact Nat.lt_of_lt_of_le (h.number_lt (List.mem_of_mem_drop left)) (Nat.le_add_right a k)
    · exact (List.mem_range'_1.mp new).2
  have absent : p.table.contains (a + k) = false := by
    rw [Bool.eq_false_iff]
    exact fun mem => absurd (above _ (List.contains_iff_mem.mp mem)) (lt_irrefl _)
  have inTime : p.isTooLate g s.stamp (a + k) = false := by
    rw [Bool.eq_false_iff, ne_eq, Plan.isTooLate_iff fits.rising]
    rintro (⟨m, isM, low⟩ | ⟨_, all⟩ | ⟨set, reached⟩)
    · rw [rolls.mark] at isM
      have := raiseMarks_below (s.numbers.take k) h.mark_lt (fun n mem => h.number_lt (List.mem_of_mem_take mem)) m isM
      omega
    · have := all s.numbers[k] (by rw [rolls.table, oldest]; exact List.mem_cons_self)
      omega
    · have late := (State.tooLate_iff h.sound).mpr
        (.inr (.inr ⟨set, (g.deadline_mono (Nat.le_add_right a k)).trans reached⟩))
      rw [h.inTime] at late
      cases late
  have size : ¬ p.table.length < tableSize := by
    rw [rolls.table, List.length_append, List.length_drop, h.numbers_length, List.length_range', tableSize]
    omega
  have highest : (p.table.any fun m => decide (a + k ≤ m)) = false := by
    rw [List.any_eq_false]
    exact fun m mem low => absurd (above m mem) (Nat.not_lt.mpr (of_decide_eq_true low))
  have free : p.entries.contains s.numbers[k] = false := by
    rw [Bool.eq_false_iff, rolls.entries]
    exact fun mem => absurd old (Nat.not_lt.mpr (List.mem_range'_1.mp (List.contains_iff_mem.mp mem)).1)
  have range : List.range' a (k + 1) = List.range' a k ++ [a + k] := by rw [List.range'_concat, Nat.one_mul]
  have gone : s.numbers.take (k + 1) = s.numbers.take k ++ [s.numbers[k]] := (List.take_append_getElem inRange).symm
  have isTable : p.table = s.numbers[k] :: (s.numbers.drop (k + 1) ++ List.range' a k) := by
    rw [rolls.table, oldest, List.cons_append]
  rw [isTable] at absent size highest
  unfold Plan.judge
  simp only [isTable, absent, inTime, Bool.false_eq_true, if_false, if_neg size, highest, free]
  refine ⟨?_, ?_, ?_, ?_, ?_, rolls.tooLate⟩
  · rw [range, List.append_assoc]
  · rw [gone, List.foldl_append, rolls.mark]
    rfl
  · rw [range, rolls.creations]
  · rw [range, rolls.entries]
  · rw [gone, rolls.evictions]

/-- The plan of a record of k parts above a full table evicts the k oldest epochs (R150). -/
theorem FullBelow.plan (h : FullBelow s g a) : ∀ k, k ≤ 16 → (s.plan g (List.range' a k)).Rolls s a k
  | 0, _ => ⟨by rw [List.range'_zero, List.append_nil]; rfl, rfl, rfl, rfl, rfl, rfl⟩
  | k + 1, small => by
    have step : s.plan g (List.range' a (k + 1)) = (s.plan g (List.range' a k)).judge g s.stamp (a + k) := by
      rw [List.range'_concat, Nat.one_mul, State.plan, List.foldl_append]
      rfl
    rw [step]
    exact h.judge (h.plan k (Nat.le_of_succ_le small)) (s.plan_fits h.sound g _) small

end Rolls

/-! ## Evictions (R150, R175) -/

/-- A port that has been told of the forced frees of the epochs given (R175). -/
def Port.losing (gone : List Epoch) (p : PortId) (x : Port) : Port :=
  { x with
    notices := if gone = [] then x.notices else x.notices ||| (0x20 &&& x.mask)
    forcedFrees := bumpBy x.forcedFrees (gone.countP fun e => e.needed.has p && !e.released.has p) }

theorem Port.losing_one (e : Epoch) (p : PortId) (x : Port) : x.losing [e] p = { x with
    notices := x.notices ||| (0x20 &&& x.mask)
    forcedFrees := if e.needed.has p = true ∧ e.released.has p = false then bump x.forcedFrees else x.forcedFrees }
    := by
  rw [Port.losing, if_neg (List.cons_ne_nil e []), List.countP_singleton]
  cases e.needed.has p <;> cases e.released.has p <;> rfl

/-- What the evictions of a table's oldest epochs leave (R150, R161, R171, R175). -/
structure Evicts (gone rest : List Epoch) (s v : State) : Prop where
  assembler : v.assembler = { s.assembler with
    table := rest
    freedMark := gone.foldl (fun mark e => raiseMark mark e.number) s.assembler.freedMark
    evictions := bumpBy s.assembler.evictions gone.length
    freed := bumpBy s.assembler.freed gone.length }
  store : v.store = { s.store with
    poolFree := s.store.poolFree + (gone.map fun e => e.contributions.length).sum
    forcedFrees := bumpBy s.store.forcedFrees gone.length
    slots := gone.foldl (fun slots e => e.contributions.foldl (fun slots c => dropReference c.slot slots) slots)
      s.store.slots }
  port : ∀ p, v.port p = (s.port p).losing gone p
  frame : AssemblyFrame s v

theorem Evicts.nil (s : State) : Evicts [] s.assembler.table s s :=
  ⟨rfl, rfl, fun _ => rfl, .refl s⟩

theorem Evicts.one {s : State} {e : Epoch} {rest : List Epoch} (sound : s.assembler.sound)
    (table : s.assembler.table = e :: rest) : Evicts [e] rest s (s.evict e.number) := by
  have mem : e ∈ s.assembler.table := by rw [table]; exact List.mem_cons_self
  have found := State.epoch?_of_mem sound mem
  have left : (s.assembler.table.filter fun x => decide (x.number ≠ e.number)) = rest := by
    have sorted := sound.2
    rw [table] at sorted ⊢
    exact filter_number_ne (before := []) sorted
  refine ⟨?_, ?_, fun p => ?_, State.evict_frame s e.number⟩
  · rw [State.evict, State.forceFree_of_some found, ← left]
    rfl
  · rw [State.evict, State.forceFree_of_some found]
    rfl
  · have same : (s.evict e.number).port p = (s.forceFree e.number).port p := by cases p <;> rfl
    rw [same, State.forceFree_port found, Port.losing_one]

theorem Port.losing_losing (e : Epoch) (gone : List Epoch) (p : PortId) (x : Port) :
    (x.losing [e] p).losing gone p = x.losing (e :: gone) p := by
  have notices : (if gone = [] then x.notices ||| (0x20 &&& x.mask)
      else (x.notices ||| (0x20 &&& x.mask)) ||| (0x20 &&& x.mask)) = x.notices ||| (0x20 &&& x.mask) := by
    rw [BitVec.or_assoc, BitVec.or_self, ite_self]
  have count : ([e].countP fun e => e.needed.has p && !e.released.has p) + (gone.countP fun e =>
      e.needed.has p && !e.released.has p) = (e :: gone).countP fun e => e.needed.has p && !e.released.has p := by
    rw [← List.countP_append]
    rfl
  have lost : (x.losing [e] p).losing gone p = { x with
      notices := if gone = [] then x.notices ||| (0x20 &&& x.mask)
        else (x.notices ||| (0x20 &&& x.mask)) ||| (0x20 &&& x.mask)
      forcedFrees := bumpBy (bumpBy x.forcedFrees ([e].countP fun e => e.needed.has p && !e.released.has p))
        (gone.countP fun e => e.needed.has p && !e.released.has p) } := rfl
  rw [lost, notices, bumpBy_bumpBy, count]
  rfl

theorem Evicts.cons {e : Epoch} {gone rest : List Epoch} {s u v : State} (h : Evicts [e] (gone ++ rest) s u)
    (k : Evicts gone rest u v) : Evicts (e :: gone) rest s v := by
  have one (n m : Nat) : bumpBy (bumpBy n [e].length) m = bumpBy n (m + 1) := by
    rw [bumpBy_bumpBy, List.length_singleton, Nat.add_comm]
  refine ⟨?_, ?_, fun p => ?_, h.frame.trans k.frame⟩
  · rw [k.assembler, h.assembler]
    simp only [one]
    rfl
  · rw [k.store, h.store]
    simp only [one, List.map_cons, List.sum_cons, List.map_nil, List.sum_nil, Nat.add_zero, Nat.add_assoc]
    rfl
  · rw [k.port, h.port, Port.losing_losing]

/-- The evictions of the oldest epochs of a table. -/
theorem Evicts.run {rest : List Epoch} (gone : List Epoch) : ∀ {s : State}, s.assembler.sound →
    s.assembler.table = gone ++ rest → Evicts gone rest s ((gone.map Epoch.number).foldl State.evict s) := by
  induction gone with
  | nil =>
    intro s _ table
    have nothing := Evicts.nil s
    rw [table] at nothing
    exact nothing
  | cons e gone ih =>
    intro s sound table
    have first := Evicts.one sound table
    have left : (s.evict e.number).assembler.table = gone ++ rest := by rw [first.assembler]; rfl
    have sound' : (s.evict e.number).assembler.sound := by
      refine Assembler.sound_of_sublist ?_ sound
      rw [left, table]
      exact (List.sublist_cons_self e (gone ++ rest)).map Epoch.number
    exact first.cons (ih sound' left)

/-! ## The placement (R150 to R153, R155) -/

section Place

variable {g : Grid} {period slot : Nat} {r : Record} {t : Timing}

/-- Epochs of rising numbers above a table's own are created at its end. -/
theorem creates_above {f : Nat → Epoch} (number : ∀ n, (f n).number = n) (ns : List Nat) : ∀ {table : List Epoch},
    ns.Pairwise (· < ·) → (∀ e ∈ table, ∀ n ∈ ns, e.number < n) →
    ns.foldl (fun l n => insertEpoch (f n) l) table = table ++ ns.map f := by
  have last (e : Epoch) : ∀ l : List Epoch, (∀ x ∈ l, x.number < e.number) → insertEpoch e l = l ++ [e] := by
    intro l
    induction l with
    | nil => exact fun _ => rfl
    | cons x xs ih =>
      intro below
      rw [insertEpoch, if_neg (Nat.not_lt.mpr (below x List.mem_cons_self).le),
        ih fun y mem => below y (List.mem_cons_of_mem _ mem)]
      rfl
  induction ns with
  | nil => exact fun _ _ => (List.append_nil _).symm
  | cons n ns ih =>
    intro table rising below
    obtain ⟨first, rising⟩ := List.pairwise_cons.mp rising
    rw [List.foldl_cons, last (f n) table fun x mem => by rw [number]; exact below x mem n List.mem_cons_self,
      ih rising ?_,
      List.append_assoc]
    · rfl
    · intro e mem m isIn
      rcases List.mem_append.mp mem with old | new
      · exact below e old m (List.mem_cons_of_mem _ isIn)
      · rw [List.mem_singleton.mp new, number]
        exact first m isIn

/-- The oldest epochs of a rising table are told by their numbers. -/
theorem filter_take {table : List Epoch} (rising : table.Pairwise fun x y => x.number < y.number) (k : Nat) :
    (table.filter fun e => ((table.take k).map Epoch.number).contains e.number) = table.take k := by
  have split : table = table.take k ++ table.drop k := (List.take_append_drop _ _).symm
  have kept : ((table.take k).filter fun e => ((table.take k).map Epoch.number).contains e.number) = table.take k :=
    List.filter_eq_self.mpr fun e mem => List.contains_iff_mem.mpr (List.mem_map.mpr ⟨e, mem, rfl⟩)
  have gone : ((table.drop k).filter fun e => ((table.take k).map Epoch.number).contains e.number) = [] := by
    refine List.filter_eq_nil_iff.mpr fun e mem isIn => ?_
    obtain ⟨x, first, same⟩ := List.mem_map.mp (List.contains_iff_mem.mp isIn)
    rw [split] at rising
    have below := (List.pairwise_append.mp rising).2.2 x first e mem
    omega
  calc (table.filter fun e => ((table.take k).map Epoch.number).contains e.number)
      = (table.take k ++ table.drop k).filter fun e => ((table.take k).map Epoch.number).contains e.number := by
        rw [← split]
    _ = table.take k := by rw [List.filter_append, kept, gone, List.append_nil]

theorem State.fresh_congr {s v : State} (stations : v.stations = s.stations) (port : ∀ p, (v.port p).subscribed =
    (s.port p).subscribed) (n : Nat) : v.fresh g period slot r t n = s.fresh g period slot r t n := by
  have mp0 : v.mp0.subscribed = s.mp0.subscribed := port .mp0
  have mp1 : v.mp1.subscribed = s.mp1.subscribed := port .mp1
  have station (i : StationId) : v.station i = s.station i := congrArg (·[i]) stations
  have expected : v.expectedNow = s.expectedNow := by simp only [State.expectedNow, station]
  rw [State.fresh, State.blank, expected, mp0, mp1]
  rfl

/-- What the placement of a record above a full table leaves (R150 to R153, R155, R175). -/
structure PlacedAbove (g : Grid) (period slot : Nat) (r : Record) (t : Timing) (s : State) (a k : Nat) (u : State) :
    Prop where
  assembler : u.assembler = { s.assembler with
    table := s.assembler.table.drop k ++ (List.range' a k).map (s.fresh g period slot r t)
    freedMark := (s.assembler.table.take k).foldl (fun mark e => raiseMark mark e.number) s.assembler.freedMark
    created := bumpBy s.assembler.created k
    evictions := bumpBy s.assembler.evictions k
    freed := bumpBy s.assembler.freed k }
  store : u.store = { s.store with
    poolFree := s.store.poolFree + ((s.assembler.table.take k).map fun e => e.contributions.length).sum - k
    forcedFrees := bumpBy s.store.forcedFrees k
    slots := ((s.assembler.table.take k).foldl (fun slots e =>
      e.contributions.foldl (fun slots c => dropReference c.slot slots) slots) s.store.slots).map fun z =>
        if z.number = slot then { z with refs := k } else z }
  port : ∀ p, u.port p = { s.port p with
    notices := (s.port p).notices ||| (0x20 &&& (s.port p).mask)
    forcedFrees := bumpBy (s.port p).forcedFrees
      ((s.assembler.table.take k).countP fun e => e.needed.has p && !e.released.has p) }
  stations : u.stations = s.stations
  links : u.links = s.links
  timebase : u.timebase = s.timebase
  reservations : u.reservations = s.reservations

theorem FullBelow.place {s : State} {a b : Nat} (h : FullBelow s g a) (inRun : InRun g period r t s a b)
    (short : b + 1 - a ≤ 16) (supplied : b + 1 - a ≤ s.store.poolFree +
      ((s.assembler.table.take (b + 1 - a)).map fun e => e.contributions.length).sum) :
    PlacedAbove g period slot r t s a (b + 1 - a) (s.placeRecord g period slot r t) := by
  have order := inRun.order
  generalize isK : b + 1 - a = k at *
  have rolls := h.plan k short
  have fits := s.plan_fits h.sound g (List.range' a k)
  have run : epochsOf a b = List.range' a k := by rw [epochsOf, isK]
  have gone : (s.assembler.table.take k).map Epoch.number = s.numbers.take k := List.map_take
  have split : s.assembler.table = s.assembler.table.take k ++ s.assembler.table.drop k :=
    (List.take_append_drop _ _).symm
  have evicts := Evicts.run (s.assembler.table.take k) h.sound split
  have evicted : (s.assembler.table.filter fun e => (s.plan g (List.range' a k)).evictions.contains e.number) =
      s.assembler.table.take k := by
    rw [rolls.evictions, ← gone]
    exact filter_take h.sound.2 k
  have length : (s.assembler.table.take k).length = k := by rw [List.length_take, h.full]; omega
  have numbers := State.prepared_numbers h.sound fits
  have sound : (s.prepared (s.plan g (List.range' a k))).assembler.sound := by
    rw [Assembler.sound_iff, numbers]
    exact ⟨fits.size, fits.rising⟩
  have enough : s.poolShortage (s.plan g (List.range' a k)) = false := by
    rw [State.poolShortage, State.available, evicted, rolls.entries, List.length_range']
    exact decide_eq_false (Nat.not_lt.mpr supplied)
  have place : s.placeRecord g period slot r t = ((s.plan g (List.range' a k)).evictions.foldl State.evict s).carryOut
      g period slot r t { s.plan g (List.range' a k) with evictions := [] } := by
    rw [inRun.supplied (by rw [run]; exact enough), run]
    rfl
  rw [State.carryOut_eq (p := { s.plan g (List.range' a k) with evictions := [] }) rfl sound
    (by rw [rolls.entries]; exact List.nodup_range') (fun n mem => by
      have isIn := fits.present n mem
      rw [← numbers] at isIn
      exact isIn) fits.entered, rolls.evictions, rolls.creations, rolls.entries, rolls.tooLate, ← gone] at place
  rw [place]
  generalize ((s.assembler.table.take k).map Epoch.number).foldl State.evict s = v at *
  obtain ⟨assembler, store, port, frame⟩ := evicts
  have table : v.assembler.table = s.assembler.table.drop k := by rw [assembler]
  have past (e : Epoch) (mem : e ∈ s.assembler.table.drop k) (n : Nat) (isIn : n ∈ List.range' a k) : e.number < n :=
    Nat.lt_of_lt_of_le (h.below e (List.mem_of_mem_drop mem)) (List.mem_range'_1.mp isIn).1
  have noLate : (List.range' a k).countP v.amends = 0 := by
    rw [List.countP_eq_zero]
    intro n isIn amends
    obtain ⟨e, mem, isE⟩ := List.any_eq_true.mp amends
    rw [table] at mem
    exact absurd (past e mem n isIn) (by rw [of_decide_eq_true (Bool.and_eq_true_iff.mp isE).1]; exact lt_irrefl n)
  have unmoved : joinTable g period slot r t (List.range' a k) v.assembler.table = s.assembler.table.drop k := by
    rw [table, joinTable]
    refine (List.map_congr_left (g := id) fun e mem => if_neg fun isIn => ?_).trans (List.map_id _)
    exact absurd (past e mem e.number isIn) (lt_irrefl _)
  have fresh (n : Nat) : v.fresh g period slot r t n = s.fresh g period slot r t n :=
    State.fresh_congr frame.stations (fun p => by rw [port]; rfl) n
  have opened : (List.range' a k).foldl (fun l n => insertEpoch (v.fresh g period slot r t n) l)
      (joinTable g period slot r t (List.range' a k) v.assembler.table) =
        s.assembler.table.drop k ++ (List.range' a k).map (s.fresh g period slot r t) := by
    simp only [unmoved, fresh]
    exact creates_above (fun _ => rfl) _ List.pairwise_lt_range' past
  have filled : List.range' a k ≠ [] := by
    rw [ne_eq, List.range'_eq_nil_iff]
    omega
  have quiet : v.placed g period slot r t (List.range' a k) (List.range' a k) 0 = { v with
      assembler := { v.assembler with
        created := bumpBy v.assembler.created k
        table := s.assembler.table.drop k ++ (List.range' a k).map (s.fresh g period slot r t) }
      store := v.store.takesParts slot (List.range' a k) } := by
    have same : (v.station r.station).placed 0 0 = v.station r.station := by
      simp only [Station.placed, bumpBy_zero]
    rw [State.placed, noLate, opened, List.length_range', same]
    exact State.setStation_station _ _
  rw [quiet]
  refine ⟨?_, ?_, fun p => ?_, frame.stations, frame.links, frame.timebase, frame.reservations⟩
  · rw [assembler, length]
  · rw [store, Store.takesParts, if_neg filled, List.length_range', length]
  · have same : ({ v with
        assembler := { v.assembler with
          created := bumpBy v.assembler.created k
          table := s.assembler.table.drop k ++ (List.range' a k).map (s.fresh g period slot r t) }
        store := v.store.takesParts slot (List.range' a k) } : State).port p = v.port p := by cases p <;> rfl
    rw [same, port, Port.losing, if_neg]
    exact fun empty => by rw [empty] at length; rw [List.length_nil] at length; omega

end Place

end Sys2Proof.Machine
end

section
/-! PROOF. The placement of a timed record (R146, R148 to R155, R160, R161, R172, R174, R175): O41. -/

namespace Sys2Proof.Machine

section Place

variable {g : Grid} {period slot : Nat} {r : Record} {t : Timing} {s : State} {n : Nat}

/-! ## What a placement leaves, case by case -/

theorem joinTable_absent {ns : List Nat} {table : List Epoch} (absent : ∀ e ∈ table, e.number ∉ ns) :
    joinTable g period slot r t ns table = table :=
  (List.map_congr_left (g := id) fun e mem => if_neg (absent e mem)).trans (List.map_id _)

/-- A part refused, and nothing placed (R149, R172). -/
theorem State.placed_refused (s : State) : s.placed g period slot r t [] [] 1 =
    (s.count r.station fun c => { c with tooLate := bump c.tooLate }).freeSlot slot := by
  have table : joinTable g period slot r t [] s.assembler.table = s.assembler.table := joinTable_nil _
  simp only [State.placed, List.foldl_nil, table, List.length_nil, bumpBy_zero, List.countP_nil, Store.takesParts,
    if_true,
    Nat.sub_zero]
  unfold Station.placed
  simp only [bumpBy_zero, bumpBy_one]
  rfl

/-- The record store after an entry into one epoch (R172). -/
def Store.takesPart (slot : Nat) (y : Store) : Store :=
  { y with
    poolFree := y.poolFree - 1
    slots := y.slots.map fun z => if z.number = slot then { z with refs := 1 } else z }

/-- An entry into an epoch that is created for it (R153, R155). -/
theorem State.placed_created (absent : ∀ e ∈ s.assembler.table, e.number ≠ n) : s.placed g period slot r t [n] [n] 0 =
    (s.modAssembler fun a => { a with
      created := bump a.created, table := insertEpoch (s.fresh g period slot r t n) a.table }).modStore
        (Store.takesPart slot) := by
  have table : joinTable g period slot r t [n] s.assembler.table = s.assembler.table :=
    joinTable_absent fun e mem isIn => absent e mem (List.mem_singleton.mp isIn)
  have noLate : [n].countP s.amends = 0 := by
    rw [List.countP_eq_zero]
    intro m isIn amends
    obtain ⟨e, mem, isE⟩ := List.any_eq_true.mp amends
    exact absent e mem ((of_decide_eq_true (Bool.and_eq_true_iff.mp isE).1).trans (List.mem_singleton.mp isIn))
  have same : (s.station r.station).placed 0 0 = s.station r.station := by simp only [Station.placed, bumpBy_zero]
  rw [State.placed, noLate, table, same]
  exact State.setStation_station _ _

/-- An entry into an epoch that is present (R153, R160). -/
theorem State.placed_present (sound : s.assembler.sound) {e : Epoch} (mem : e ∈ s.assembler.table) (f : Epoch → Epoch)
    (joins : e.joins g period slot r t = f e) (k : Nat) (late : [e.number].countP s.amends = k) :
    s.placed g period slot r t [] [e.number] 0 =
      (((s.modAssembler fun a => { a with table := a.table.map fun y => if y.number = e.number then f y else y
        }).modStore
        (Store.takesPart slot)).setStation r.station ((s.station r.station).countsLate k)).raiseIf
          (decide (0 < k)) .epoch := by
  have table : joinTable g period slot r t [e.number] s.assembler.table =
      s.assembler.table.map fun y => if y.number = e.number then f y else y := by
    refine List.map_congr_left fun x isIn => ?_
    by_cases isE : x.number = e.number
    · rw [if_pos isE, if_pos (List.mem_singleton.mpr isE), epoch_unique sound.2 isIn mem isE, joins]
    · rw [if_neg isE, if_neg fun both => isE (List.mem_singleton.mp both)]
  have lates (x : Station) : x.placed 0 k = x.countsLate k := by
    simp only [Station.placed, bumpBy_zero, Station.countsLate]
  rw [State.placed, late, table, lates]
  rfl

/-- What the placement of a run of epochs leaves, in terms of the run (R149, R153, R160). -/
theorem State.placed_run (run : List Nat) : s.placed g period slot r t (run.filter (s.opens g)) (run.filter (s.takes g))
    (run.countP fun n => !s.takes g n) =
      (({ s with
          assembler := { s.assembler with
            created := bumpBy s.assembler.created (run.filter (s.opens g)).length
            table := (run.filter (s.opens g)).foldl (fun l n => insertEpoch (s.fresh g period slot r t n) l)
              (s.assembler.table.map fun e => if e.number ∈ run then e.joins g period slot r t else e) }
          store := s.store.takesParts slot (run.filter (s.takes g)) } : State).setStation r.station
            ((s.station r.station).placed (run.length - (run.filter (s.takes g)).length) (run.countP s.amends))).raiseIf
              (decide (0 < run.countP s.amends)) .epoch := by
  have table : joinTable g period slot r t (run.filter (s.takes g)) s.assembler.table =
      s.assembler.table.map fun e => if e.number ∈ run then e.joins g period slot r t else e := by
    refine List.map_congr_left fun e mem => if_congr ?_ rfl rfl
    have present : s.takes g e.number = true :=
      Bool.or_eq_true_iff.mpr (.inl (State.present_iff.mpr (List.mem_map.mpr ⟨e, mem, rfl⟩)))
    rw [List.mem_filter, and_iff_left present]
  have late : (run.filter (s.takes g)).countP s.amends = run.countP s.amends := by
    rw [List.countP_filter]
    refine List.countP_congr fun n _ => ?_
    rw [Bool.and_eq_true, and_iff_left_iff_imp]
    intro amends
    obtain ⟨e, mem, isE⟩ := List.any_eq_true.mp amends
    exact Bool.or_eq_true_iff.mpr (.inl (List.any_eq_true.mpr ⟨e, mem, (Bool.and_eq_true_iff.mp isE).1⟩))
  rw [State.placed, table, late, ← length_sub_filter]

/-- A part that a full table of higher and lower numbers has no place for (R150). -/
theorem InRun.full_refused (h : InRun g period r t s n n) (sound : s.assembler.sound)
    (absent : ∀ e ∈ s.assembler.table, e.number ≠ n) (inTime : s.tooLate g n = false)
    (full : s.assembler.table.length = 16) (higher : ∃ e ∈ s.assembler.table, n < e.number) :
    s.placeRecord g period slot r t = (s.count r.station fun c =>
      { c with tooLate := bump c.tooLate }).freeSlot slot := by
  obtain ⟨e, mem, above⟩ := higher
  have notIn : s.planStart.table.contains n = false := by
    rw [Bool.eq_false_iff]
    intro isIn
    obtain ⟨x, old, same⟩ := List.mem_map.mp (List.contains_iff_mem.mp isIn)
    exact absent x old same
  have start : s.planStart.Roomy s g [] := ⟨rfl, rfl, rfl, rfl, rfl⟩
  have fits : s.planStart.Fits s.numbers := State.plan_fits sound g []
  have onTime : s.planStart.isTooLate g s.stamp n = false :=
    (start.isTooLate fits sound nofun).trans inTime
  have size : ¬ s.planStart.table.length < tableSize := by
    rw [State.planStart, List.length_map, full]
    exact lt_irrefl 16
  have low : (s.planStart.table.any fun m => decide (n ≤ m)) = true :=
    List.any_eq_true.mpr ⟨e.number, List.mem_map.mpr ⟨e, mem, rfl⟩, decide_eq_true above.le⟩
  have plan : s.plan g (epochsOf n n) = s.planStart.refuse := by
    rw [epochsOf_self]
    show s.planStart.judge g s.stamp n = _
    unfold Plan.judge
    rw [notIn, onTime, if_neg size, low]
    simp only [Bool.false_eq_true, if_false, if_true]
    split <;> rfl
  have supplied : s.poolShortage (s.plan g (epochsOf n n)) = false := by
    rw [plan]
    exact decide_eq_false (Nat.not_lt_zero _)
  have carried : s.carryOut g period slot r t s.planStart.refuse = s.placed g period slot r t [] [] 1 :=
    State.carryOut_eq (p := s.planStart.refuse) rfl sound List.nodup_nil (fun _ mem => absurd mem List.not_mem_nil)
      fun _ mem => absurd mem List.not_mem_nil
  rw [h.supplied supplied, plan, carried, State.placed_refused]

theorem State.inSet_expectedNow (s : State) (i : StationId) : inSet s.expectedNow i =
    ((s.station i).enabled && decide ((s.station i).clock.state ≠ .unset)) := inSet_setOf _ i

end Place

/-- Settles O41. -/
theorem firstRecordCreatesItsEpoch : Obligations.FirstRecordCreatesItsEpoch := by
  intro g period slot r t s first last table counted refused slotted entered raised created waits dropped
  refine ⟨fun before => ?_, fun ahead future => ?_, ?_, ?_⟩
  · exact if_pos before
  · have near : ¬ g.epochAt t.start < 0 := Int.not_lt.mpr ahead
    have far : s.isFuture (g.epochAt (t.start + duration period t.rho (r.n - 1))) = true :=
        (State.isFuture_iff s _).mpr future
    simp only [State.placeRecord, if_neg near, if_pos far]
    rfl
  · intro n isFirst isLast hub sound cut absent late
    have inRun : InRun g period r t s n n := ⟨isFirst, isLast, le_rfl, hub⟩
    have isLate : s.tooLate g n = true ↔ late := by
      rw [State.tooLate, Bool.or_eq_true, Bool.or_eq_true, Option.any_eq_true, Option.any_eq_true, decide_eq_true_iff,
        or_assoc]
      simp only [decide_eq_true_iff]
      rfl
    have isAbsent : s.present n = false ↔ absent := by
      rw [Bool.eq_false_iff, ne_eq, State.present, List.any_eq_true]
      simp only [decide_eq_true_iff, not_exists, not_and]
      rfl
    have notLate (inTime : ¬ late) : s.tooLate g n = false := Bool.eq_false_iff.mpr (mt isLate.mp inTime)
    have size : table.length ≤ 16 := sound.1
    have roomy (opens : List Nat) (takes : List Nat) (refuses : Nat) (isOpens : [n].filter (s.opens g) = opens)
        (isTakes : [n].filter (s.takes g) = takes) (isRefuses : ([n].countP fun n => !s.takes g n) = refuses)
        (room : table.length + opens.length ≤ 16) (pool : takes.length ≤ s.store.poolFree) :
        s.placeRecord g period slot r t = s.placed g period slot r t opens takes refuses := by
      subst isOpens isTakes isRefuses
      have placed := inRun.roomy (slot := slot) sound (by rw [epochsOf_self]; exact room)
          (by rw [epochsOf_self]; exact pool)
      rw [epochsOf_self] at placed
      exact placed
    have wanted (takes : ¬ absent ∨ (¬ late ∧ table.length < 16)) :
        s.assembler.table.length + ((epochsOf n n).filter (s.opens g)).length ≤ 16 ∧
          ((epochsOf n n).filter (s.takes g)).length = 1 := by
      rw [epochsOf_self]
      cases present : s.present n with
      | true =>
        have closed : [n].filter (s.opens g) = [] := by simp [State.opens, present]
        exact ⟨by rw [closed]; exact size, by simp [State.takes, present]⟩
      | false =>
        obtain ⟨inTime, room⟩ := takes.resolve_left (not_not.mpr (isAbsent.mp present))
        have opens : [n].filter (s.opens g) = [n] := by simp [State.opens, present, notLate inTime]
        exact ⟨by rw [opens]; exact room, by simp [State.takes, notLate inTime]⟩
    refine ⟨fun e mem number pool => ?_, fun gone after => ?_, fun gone inTime room pool => ?_,
      fun gone inTime full higher => ?_, ?_, fun empty takes => ⟨fun forming => ?_, ?_⟩⟩
    · subst number
      have present : s.present e.number = true := State.present_iff.mpr (List.mem_map.mpr ⟨e, mem, rfl⟩)
      have amends := State.amends_of_mem sound mem
      have placed := roomy [] [e.number] 0 (by simp [State.opens, present]) (by simp [State.takes, present])
        (by simp [State.takes, present]) size pool
      refine ⟨fun forming => ?_, fun closed => ?_⟩
      · rw [placed, State.placed_present sound mem (fun y => { y with
          contributions := insertContribution (g.epochStart e.number) (cut false) none y.contributions }) (by
            simp [Epoch.joins, forming, cut]) 0 (by simp [amends, (Epoch.isClosed_eq_false_iff e).mpr forming]),
          Station.countsLate_zero]
        exact State.setStation_station _ _
      · rw [placed, State.placed_present sound mem (fun y => { y with
          amended := true, late := min (y.late + 1) 65535
          contributions := insertContribution (g.epochStart e.number) (cut true) none y.contributions }) (by
            simp [Epoch.joins, closed, cut]) 1 (by simp [amends, (Epoch.isClosed_iff e).mpr closed])]
        rfl
    · have absent' := isAbsent.mpr gone
      have late' := isLate.mpr after
      have placed := roomy [] [] 1 (by simp [State.opens, late']) (by simp [State.takes, absent', late'])
        (by simp [State.takes, absent', late']) size (Nat.zero_le _)
      rw [placed, State.placed_refused]
      rfl
    · have absent' := isAbsent.mpr gone
      have inTime' := notLate inTime
      have placed := roomy [n] [n] 0 (by simp [State.opens, absent', inTime']) (by simp [State.takes, inTime'])
        (by simp [State.takes, inTime']) room pool
      refine ⟨s.expectedNow, s.inSet_expectedNow, ?_⟩
      rw [placed, State.placed_created gone]
      rfl
    · exact inRun.full_refused sound gone (notLate inTime) full higher
    · intro oldest rest gone inTime full isTable below pool
      have above : FullBelow s g n := ⟨sound, full, below, notLate inTime⟩
      have one : n + 1 - n = 1 := Nat.add_sub_cancel_left n 1
      have isTable' : s.assembler.table = oldest :: rest := isTable
      have first_ : s.assembler.table.take 1 = [oldest] := by rw [isTable']; rfl
      have left : s.assembler.table.drop 1 = rest := by rw [isTable']; rfl
      have placed := above.place (slot := slot) inRun (by omega) (by rw [one, first_]; exact pool)
      rw [one] at placed
      obtain ⟨assembler, store, port, stations, links, timebase, reservations⟩ := placed
      rw [first_] at assembler store
      rw [left] at assembler
      refine ⟨s.expectedNow, _, s.inSet_expectedNow, rfl, assembler, store, fun p => ?_, stations, links, timebase,
        reservations⟩
      rw [port, first_]
      exact Port.losing_one oldest p (s.port p)
    · exact inRun.roomy_dropped sound (wanted takes).1 ((wanted takes).2 ▸ by rw [empty]; exact Nat.one_pos) forming
    · intro d before after isTable forming closed filled
      have some : 1 ≤ d.contributions.length := List.length_pos_of_ne_nil filled
      exact inRun.roomy_forced sound (wanted takes).1 ((wanted takes).2 ▸ by rw [empty]; exact Nat.one_pos) isTable forming
        closed ((wanted takes).2 ▸ Nat.le_add_left_of_le some)
  · intro a b isFirst isLast order hub sound run present late entries opened amended joined
    have inRun : InRun g period r t s a b := ⟨isFirst, isLast, order, hub⟩
    refine ⟨fun room pool => ⟨s.expectedNow, s.inSet_expectedNow, ?_⟩, fun room short => ⟨fun forming => ?_, ?_⟩, ?_⟩
    · have roomy := inRun.roomy (slot := slot) sound room pool
      rw [State.placed_run] at roomy
      exact roomy
    · exact inRun.roomy_dropped sound room short forming
    · intro d before after isTable forming closed enough
      exact inRun.roomy_forced sound room short isTable forming closed enough
    · intro full below inTime small gone returned pool
      have isLength : run.length = b + 1 - a := List.length_range'
      have above : FullBelow s g a := ⟨sound, full, below, inTime⟩
      rw [isLength] at small pool
      obtain ⟨assembler, store, port, stations, links, timebase, reservations⟩ :=
        above.place (slot := slot) inRun small (by
        simpa only [returned, gone, isLength] using pool)
      have isRun : List.range' a run.length = run := by rw [isLength]
      rw [← isLength] at assembler store port
      rw [isRun] at assembler
      exact ⟨s.expectedNow, _, s.inSet_expectedNow, rfl, assembler, store, port, stations, links, timebase,
        reservations⟩

end Sys2Proof.Machine
end
